-- ==== Sys2Proof/Word.lean ====
section
/-! DEFINITION. The identifiers and machine words of the hub (spec/00_scope.md, "Identifiers"). -/

namespace Sys2Proof

/-- One byte of a link word, a payload or a management message. -/
abbrev Byte := BitVec 8

/-- A remote radio point and its link, RP0 to RP23 (RL0 to RL23). -/
abbrev RemoteId := Fin 24

/-- A radio operator and its link, OP0 to OP3 (OL0 to OL3). -/
abbrev OpId := Fin 4

/-- A carrier, C0 to C23. -/
abbrev CarrierId := Fin 24

/-- A sector index within one operator's plan, 0 to 7. -/
abbrev SectorIx := Fin 8

/-- A slot of an operator link, 0 to 7. -/
abbrev SlotIx := Fin 8

/-- A sector o.s of the whole hub, numbered 8 × o + s (the order "operator, then index"). -/
abbrev SectorId := Fin 32

/-- A superframe count: 32 bits, wrapping (R25). -/
abbrev Count := BitVec 32

end Sys2Proof
end

