-- ==== Sys2Proof/Syntax.lean ====
section
/-! DEFINITION. The commands of the hub: one constructor for each row of spec/opcode_table.json. -/

namespace Sys2Proof

/-- The links that carry no radio point: the four operator links and the trunk (section 1.7). -/
inductive TermLinkId where
  | op (o : OpId)
  | trunk
  deriving DecidableEq, Repr

/-- Any link of the hub. -/
inductive LinkId where
  | remote (r : RemoteId)
  | term (l : TermLinkId)
  deriving DecidableEq, Repr

/-- One link frame received on a remote link: the sixteen control-word bytes (R196) and the payload bytes that
follow them, the container directory and the container units (R198). -/
structure RemoteFrame where
  word : List Byte
  payload : List Byte
  deriving DecidableEq, Repr

/-- One link frame received on an operator link or the trunk: the control-word bytes, the slot bytes (an operator
link's eight slots; none on the trunk), and whether the frame began at the hub's own superframe boundary, which is
what R25 and R26 ask of the reference link. -/
structure TermFrame where
  word : List Byte
  slots : List Byte
  atBoundary : Bool
  deriving DecidableEq, Repr

/-- A command of the block. The first 34 constructors are the events on its pins, links and time base and the steps
that follow from them; the others are the requests of the two management channels, each with the channel byte and
the tag of its header and its parameter bytes as received (sections 10.2 and 10.4). -/
inductive Instr where
  /-- RESET_PIN_ASSERT (R195). -/
  | resetPinAssert
  /-- RESET_PIN_RELEASE (R195). -/
  | resetPinRelease
  /-- LINK_FRAME_START (R1). -/
  | linkFrameStart
  /-- SUPERFRAME_BOUNDARY (R25). -/
  | superframeBoundary
  /-- LEVEL_FIELD_TAKES_EFFECT (R31). -/
  | levelFieldTakesEffect (c : CarrierId)
  /-- LINK_SETTINGS_TAKE_EFFECT (R20). -/
  | linkSettingsTakeEffect (r : RemoteId)
  /-- REMOTE_FRAME_RECEIVED (R2). -/
  | remoteFrameReceived (r : RemoteId) (f : RemoteFrame)
  /-- MISSING_FRAME_PERIOD (R2). -/
  | missingFramePeriod (l : LinkId)
  /-- SEEK_RUN_COMPLETE (R6). -/
  | seekRunComplete (r : RemoteId)
  /-- FAR_FLAG_CHANGE (R14): the flag is numbered as in the STATUS word, 0 PA, 1 VSWR, 2 THERMAL, 3 RXLOSS. -/
  | farFlagChange (r : RemoteId) (flag : Fin 4)
  /-- ECHO_FAILURE (R14). -/
  | echoFailure (r : RemoteId)
  /-- NEGOTIATION_TIMEOUT (R8). -/
  | negotiationTimeout (r : RemoteId)
  /-- NEGOTIATE_ALIGNMENT_LOSS (R8). -/
  | negotiateAlignmentLoss (r : RemoteId)
  /-- LINK_ENTERS_UP (R8). -/
  | linkEntersUp (r : RemoteId)
  /-- LINK_LOST_ENTRY (R10). -/
  | linkLostEntry (r : RemoteId)
  /-- LOST_HOLD_END (R11). -/
  | lostHoldEnd (r : RemoteId)
  /-- OPERATOR_FRAME_RECEIVED (R5). -/
  | operatorFrameReceived (o : OpId) (f : TermFrame)
  /-- TRUNK_FRAME_RECEIVED (R24). -/
  | trunkFrameReceived (f : TermFrame)
  /-- LINK_SEEK_TO_UP (R22). -/
  | linkSeekToUp (l : TermLinkId)
  /-- LINK_UP_TO_LOST (R22). -/
  | linkUpToLost (l : TermLinkId)
  /-- LINK_LOST_HOLD_END (R22). -/
  | linkLostHoldEnd (l : TermLinkId)
  /-- TIMEBASE_RELOCK (R26): whether the start that locks the Timebase falls at the hub's own boundary. -/
  | timebaseRelock (atBoundary : Bool)
  /-- GATE_HOLD_EXPIRY (R81). -/
  | gateHoldExpiry (r : RemoteId) (c : CarrierId)
  /-- BLOCK_DEADLINE (R78). -/
  | blockDeadline
  /-- WINDOW_END (R98). -/
  | windowEnd
  /-- GUARD_STEP_DOWN (R93). -/
  | guardStepDown (r : RemoteId)
  /-- AUTO_QUIET_ENTRY (R141). -/
  | autoQuietEntry
  /-- SWITCHOVER (R41). -/
  | switchover (o : OpId)
  /-- HUB_MODE_DECISION (R136). -/
  | hubModeDecision
  /-- PENDING_ISOLATION_APPLY (R146). -/
  | pendingIsolationApply
  /-- ISOLATION_TIMER_EXPIRY (R148). -/
  | isolationTimerExpiry (r : RemoteId)
  /-- WARM_RESET_APPLIED (R193). -/
  | warmResetApplied
  /-- COLD_RESET_APPLIED (R194). -/
  | coldResetApplied
  /-- ALERT_PLACEMENT (R169). -/
  | alertPlacement
  /-- ACCESS_SET (R190), code 0x10. -/
  | accessSet (ch tag : Byte) (params : List Byte)
  /-- RELEASE (R189), code 0x11. -/
  | release (ch tag : Byte) (params : List Byte)
  /-- LINK_SET (R18), code 0x12. -/
  | linkSet (ch tag : Byte) (params : List Byte)
  /-- LINK_RESTART (R21), code 0x13. -/
  | linkRestart (ch tag : Byte) (params : List Byte)
  /-- TIMING_SET (R27), code 0x14. -/
  | timingSet (ch tag : Byte) (params : List Byte)
  /-- WINDOW_SET (R100), code 0x15. -/
  | windowSet (ch tag : Byte) (params : List Byte)
  /-- QUIET_SET (R140), code 0x16. -/
  | quietSet (ch tag : Byte) (params : List Byte)
  /-- MODE_SET (R138), code 0x17. -/
  | modeSet (ch tag : Byte) (params : List Byte)
  /-- ISOLATE (R144), code 0x18. -/
  | isolate (ch tag : Byte) (params : List Byte)
  /-- RESTORE (R149), code 0x19. -/
  | restore (ch tag : Byte) (params : List Byte)
  /-- ALERT_SET (R171), code 0x1A. -/
  | alertSet (ch tag : Byte) (params : List Byte)
  /-- ALARM_ACK (R165), code 0x1B. -/
  | alarmAck (ch tag : Byte) (params : List Byte)
  /-- WARM (R193), code 0x1E. -/
  | warm (ch tag : Byte) (params : List Byte)
  /-- COLD (R194), code 0x1F. -/
  | cold (ch tag : Byte) (params : List Byte)
  /-- CARRIER_SET (R30), code 0x30. -/
  | carrierSet (ch tag : Byte) (params : List Byte)
  /-- CARRIER_CLEAR (R32), code 0x31. -/
  | carrierClear (ch tag : Byte) (params : List Byte)
  /-- PLAN_SECTOR (R38), code 0x32. -/
  | planSector (ch tag : Byte) (params : List Byte)
  /-- PLAN_ZONE (R39), code 0x33. -/
  | planZone (ch tag : Byte) (params : List Byte)
  /-- PLAN_HOME (R40), code 0x34. -/
  | planHome (ch tag : Byte) (params : List Byte)
  /-- PLAN_COMMIT (R42), code 0x35. -/
  | planCommit (ch tag : Byte) (params : List Byte)
  /-- PLAN_REVERT (R47), code 0x36. -/
  | planRevert (ch tag : Byte) (params : List Byte)
  /-- BALANCE_SET (R113), code 0x37. -/
  | balanceSet (ch tag : Byte) (params : List Byte)
  /-- BALANCE_ACCEPT (R128), code 0x38. -/
  | balanceAccept (ch tag : Byte) (params : List Byte)
  /-- STATUS (R192), code 0x50. -/
  | status (ch tag : Byte) (params : List Byte)
  /-- LINK_READ (R17), code 0x51. -/
  | linkRead (ch tag : Byte) (params : List Byte)
  /-- PLAN_READ (R48), code 0x52. -/
  | planRead (ch tag : Byte) (params : List Byte)
  /-- MEASURE_READ (R108), code 0x53. -/
  | measureRead (ch tag : Byte) (params : List Byte)
  /-- BALANCE_READ (R132), code 0x54. -/
  | balanceRead (ch tag : Byte) (params : List Byte)
  /-- ALARM_LIST (R163), code 0x55. -/
  | alarmList (ch tag : Byte) (params : List Byte)
  /-- ATTACH (R187), code 0x70. -/
  | attach (ch tag : Byte) (params : List Byte)
  /-- DETACH (R188), code 0x71. -/
  | detach (ch tag : Byte) (params : List Byte)
  /-- ABORT (R183), code 0x7F. -/
  | abort (ch tag : Byte) (params : List Byte)
  /-- UNKNOWN_COMMAND (R179): a request whose command code names no command. -/
  | unknownCommand (ch tag code : Byte) (params : List Byte)
  deriving DecidableEq, Repr

end Sys2Proof
end

