-- ==== Sys2Proof/Decode.lean ====
section
/-! DEFINITION. Which command a management request's command code names (section 10.4), and the table's own decoding:
spec/opcode_table.json gives no row any bits, so no word spells a command (notes/assumptions/2.md). -/

namespace Sys2Proof

/-- The command that a request stands for, from its command code, channel byte, tag and parameter bytes (section 10.4).
Every other code is UNKNOWN_COMMAND (R179). -/
def decodeRequest (code ch tag : Byte) (params : List Byte) : Instr :=
  match code.toNat with
  | 0x10 => .accessSet ch tag params
  | 0x11 => .release ch tag params
  | 0x12 => .linkSet ch tag params
  | 0x13 => .linkRestart ch tag params
  | 0x14 => .timingSet ch tag params
  | 0x15 => .windowSet ch tag params
  | 0x16 => .quietSet ch tag params
  | 0x17 => .modeSet ch tag params
  | 0x18 => .isolate ch tag params
  | 0x19 => .restore ch tag params
  | 0x1A => .alertSet ch tag params
  | 0x1B => .alarmAck ch tag params
  | 0x1E => .warm ch tag params
  | 0x1F => .cold ch tag params
  | 0x30 => .carrierSet ch tag params
  | 0x31 => .carrierClear ch tag params
  | 0x32 => .planSector ch tag params
  | 0x33 => .planZone ch tag params
  | 0x34 => .planHome ch tag params
  | 0x35 => .planCommit ch tag params
  | 0x36 => .planRevert ch tag params
  | 0x37 => .balanceSet ch tag params
  | 0x38 => .balanceAccept ch tag params
  | 0x50 => .status ch tag params
  | 0x51 => .linkRead ch tag params
  | 0x52 => .planRead ch tag params
  | 0x53 => .measureRead ch tag params
  | 0x54 => .balanceRead ch tag params
  | 0x55 => .alarmList ch tag params
  | 0x70 => .attach ch tag params
  | 0x71 => .detach ch tag params
  | 0x7F => .abort ch tag params
  | _ => .unknownCommand ch tag code params

/-- The command code, channel byte, tag and parameter bytes of a request; `none` for the other commands. -/
def Instr.request : Instr → Option (Byte × Byte × Byte × List Byte)
  | .accessSet ch tag params => some (0x10, ch, tag, params)
  | .release ch tag params => some (0x11, ch, tag, params)
  | .linkSet ch tag params => some (0x12, ch, tag, params)
  | .linkRestart ch tag params => some (0x13, ch, tag, params)
  | .timingSet ch tag params => some (0x14, ch, tag, params)
  | .windowSet ch tag params => some (0x15, ch, tag, params)
  | .quietSet ch tag params => some (0x16, ch, tag, params)
  | .modeSet ch tag params => some (0x17, ch, tag, params)
  | .isolate ch tag params => some (0x18, ch, tag, params)
  | .restore ch tag params => some (0x19, ch, tag, params)
  | .alertSet ch tag params => some (0x1A, ch, tag, params)
  | .alarmAck ch tag params => some (0x1B, ch, tag, params)
  | .warm ch tag params => some (0x1E, ch, tag, params)
  | .cold ch tag params => some (0x1F, ch, tag, params)
  | .carrierSet ch tag params => some (0x30, ch, tag, params)
  | .carrierClear ch tag params => some (0x31, ch, tag, params)
  | .planSector ch tag params => some (0x32, ch, tag, params)
  | .planZone ch tag params => some (0x33, ch, tag, params)
  | .planHome ch tag params => some (0x34, ch, tag, params)
  | .planCommit ch tag params => some (0x35, ch, tag, params)
  | .planRevert ch tag params => some (0x36, ch, tag, params)
  | .balanceSet ch tag params => some (0x37, ch, tag, params)
  | .balanceAccept ch tag params => some (0x38, ch, tag, params)
  | .status ch tag params => some (0x50, ch, tag, params)
  | .linkRead ch tag params => some (0x51, ch, tag, params)
  | .planRead ch tag params => some (0x52, ch, tag, params)
  | .measureRead ch tag params => some (0x53, ch, tag, params)
  | .balanceRead ch tag params => some (0x54, ch, tag, params)
  | .alarmList ch tag params => some (0x55, ch, tag, params)
  | .attach ch tag params => some (0x70, ch, tag, params)
  | .detach ch tag params => some (0x71, ch, tag, params)
  | .abort ch tag params => some (0x7F, ch, tag, params)
  | .unknownCommand ch tag code params => some (code, ch, tag, params)
  | .resetPinAssert | .resetPinRelease | .linkFrameStart | .superframeBoundary | .levelFieldTakesEffect _
  | .linkSettingsTakeEffect _ | .remoteFrameReceived _ _ | .missingFramePeriod _ | .seekRunComplete _
  | .farFlagChange _ _ | .echoFailure _ | .negotiationTimeout _ | .negotiateAlignmentLoss _ | .linkEntersUp _
  | .linkLostEntry _ | .lostHoldEnd _ | .operatorFrameReceived _ _ | .trunkFrameReceived _ | .linkSeekToUp _
  | .linkUpToLost _ | .linkLostHoldEnd _ | .timebaseRelock _ | .gateHoldExpiry _ _ | .blockDeadline
  | .windowEnd | .guardStepDown _ | .autoQuietEntry | .switchover _ | .hubModeDecision | .pendingIsolationApply
  | .isolationTimerExpiry _ | .warmResetApplied | .coldResetApplied | .alertPlacement => none

/-- The command that a word of the opcode table's bits spells: the table gives no row bits, so there is none. -/
def decodeTableWord (_nbits _w : Nat) : Option Instr := none

end Sys2Proof
end

