-- ==== Sys2Proof/Config.lean ====
section
/-! DEFINITION. What the spec leaves open and the model leaves free (notes/assumptions/12.md, 13.md and 34.md). A free value
has no body: no proof can see what it is. -/

namespace Sys2Proof

/-- Free value (R175): whether, at the n-th warm reset, the clear of a condition that ends at the reset (its kind code
and object code) is taken before the alarm list is emptied. The spec allows both orders and they differ by the change
sequence. -/
opaque Config.clearBeforeEmptying (n : Nat) (kind : Nat) (obj : Byte) : Bool

/-- Free value (R193, R181): whether, at the n-th warm reset, the DONE of WARM becomes due before the ABORTED of the
service channel's command. The spec allows either order. -/
opaque Config.warmDoneFirst (n : Nat) : Bool

/-- Free value (R166, fifth row, beside R158): whether the n-th raise that follows, in the same superframe, an ALARM ACK
which removed the entry it would have evicted arrives so close to the ALARM ACK that it still evicts or sets the overflow
flag. -/
opaque Config.raiseIsClose (n : Nat) : Bool

end Sys2Proof
end

