-- ==== Sys2Proof/Machine/State.lean ====
section
/-! DEFINITION. The state of the hub, block by block (spec/00_scope.md, "Block overview"), and its value after
reset. INVENTORY.md, "State", lists every field with the rule that names it and its reset value. -/

namespace Sys2Proof.Machine

/-! ## Remote links (R12 to R17, section 1.3) -/

/-- The remote link formats, in negotiation priority order. -/
inductive Format where
  | w16 | w12 | w8
  deriving DecidableEq, Repr

/-- A set of formats, as bits 0 to 2 of the CAPABILITY word give it. -/
structure FormatSet where
  w16 : Bool
  w12 : Bool
  w8 : Bool
  deriving DecidableEq, Repr

/-- The states of a remote link. -/
inductive RemoteState where
  | off | seek | negotiate | up | lost | mismatch | isolated
  deriving DecidableEq, Repr

/-- The negotiation phase. It is `none` outside NEGOTIATE. -/
inductive NegPhase where
  | none | awaitCapability | ordered | confirmed
  deriving DecidableEq, Repr

/-- The capability record of a remote (R7, R197). -/
structure Capability where
  formats : FormatSet
  serial : BitVec 32
  hint : Nat
  deriving DecidableEq, Repr

/-- A far-end fault flag with the run count of its filter (R14). -/
structure FarFlag where
  present : Bool
  run : Nat
  deriving DecidableEq, Repr

/-- What the record keeps of the last good frame on a remote link: the label of the hub link frame that it answered, if it
answered one, and the number of the link frame that the hub transmitted next (R2). While the answered frame is the last one
sent, that number counts up, until a boundary makes it 0. -/
structure GoodFrame where
  label : Option Nat
  successor : Nat
  deriving DecidableEq, Repr

/-- The link record of one remote link. -/
structure RemoteLink where
  enable : Bool
  offered : FormatSet
  state : RemoteState
  phase : NegPhase
  chosen : Option Format
  negTimer : Nat
  holdTimer : Nat
  format : Option Format
  capability : Option Capability
  /-- PA, VSWR, THERMAL, RXLOSS, numbered as the STATUS word's bits. -/
  flags : Vector FarFlag 4
  echoRun : Nat
  sleepAck : Bool
  framesRx : Nat
  alignErr : Nat
  missing : Nat
  negFail : Nat
  lostEntries : Nat
  downLatch : Bool
  /-- The uplink multiplier as stored, and as in effect since the last boundary (R20). -/
  m : Nat
  mEff : Nat
  /-- The composite limit as stored, and as in effect since the last boundary (R20). -/
  pmax : Nat
  pmaxEff : Nat
  badRun : Nat
  /-- The run of good frames in SEEK (R6). -/
  seekRun : Nat
  /-- The last good frame (R2). -/
  lastGood : Option GoodFrame
  /-- The label of the hub link frame that the next frame on this link would answer (R10). -/
  nextAnswer : Nat
  /-- The LINK_LOST condition holds (R10, R11). -/
  lostCond : Bool
  deriving DecidableEq, Repr

/-! ## Operator links and the trunk (R22) -/

/-- The states of an operator link and of the trunk. -/
inductive TermState where
  | seek | up | lost
  deriving DecidableEq, Repr

/-- The record of an operator link or of the trunk. -/
structure TermLink where
  state : TermState
  seekRun : Nat
  badRun : Nat
  holdTimer : Nat
  framesRx : Nat
  alignErr : Nat
  lostEntries : Nat
  /-- The far end's number of the last good frame (R2). -/
  lastGood : Option Nat
  /-- The has-been-UP marker (R22). -/
  beenUp : Bool
  /-- OPERATOR_LINK_LOST or TRUNK_LINK_LOST holds (R22). -/
  lossCond : Bool
  deriving DecidableEq, Repr

/-! ## Timebase (section 1.8) -/

/-- The reference selection. -/
inductive Reference where
  | trunk
  | op (o : OpId)
  | free
  deriving DecidableEq, Repr

/-- The states of the Timebase. -/
inductive TimebaseState where
  | locked | relocking | holdover | free
  deriving DecidableEq, Repr

/-- A hub link frame that has been sent: its label, superframe count and link-frame number. -/
structure HubFrame where
  label : Nat
  count : Count
  lf : Nat
  deriving DecidableEq, Repr

/-- The Timebase. Link frames are labelled 1, 2, 3, … in the order in which they are sent since cold reset; a label
stands for the pair of superframe count and link-frame number. -/
structure Timebase where
  count : Count
  reference : Reference
  state : TimebaseState
  /-- The label of the link frame in progress, 0 before the first. -/
  label : Nat
  /-- The number of the link frame in progress; `none` between a boundary and link frame 0. -/
  lf : Option Nat
  /-- The last 80 link frames sent, newest first (R196). -/
  history : List HubFrame
  deriving DecidableEq, Repr

/-! ## Plan Store (chapter 2) -/

/-- The identity fields that an UNUSED carrier record does not have (R29). -/
structure CarrierPlace where
  op : OpId
  slot : SlotIx
  width : Nat
  deriving DecidableEq, Repr

/-- The level fields of a carrier record (R29). -/
structure Levels where
  mdl : Nat
  power : Nat
  activity : Nat
  gate : Nat
  hold : Nat
  deriving DecidableEq, Repr

/-- A carrier record (R29): DEFINED exactly when it has a place; each level field as set and as in effect (R31). -/
structure CarrierRecord where
  place : Option CarrierPlace
  priority : Nat
  eventOnly : Bool
  set : Levels
  eff : Levels
  deriving DecidableEq, Repr

/-- A sector record of a bank (R33). -/
structure SectorRec where
  carriers : List CarrierId
  h : Nat
  deriving DecidableEq, Repr

/-- A zone entry of a bank (R34). -/
structure Zone where
  home : Option SectorIx
  cur : Option SectorIx
  pinned : Bool
  alts : List SectorIx
  deriving DecidableEq, Repr

/-- A bank of an operator plan: eight sector records and 24 zone entries. -/
structure Bank where
  sectors : Vector SectorRec 8
  zones : Vector Zone 24
  deriving DecidableEq, Repr

/-- The two management channels. -/
inductive Channel where
  | control | service
  deriving DecidableEq, Repr

/-- Who armed a staged bank, or made a move. -/
inductive Origin where
  | control | service | balancer
  deriving DecidableEq, Repr

/-- The staged-bank state (section 2.3). -/
inductive StagedState where
  | clean
  | editing (holder : Channel)
  | armed (origin : Origin) (fromEditing : Bool)
  deriving DecidableEq, Repr

/-- One operator's plan. -/
structure OperatorPlan where
  active : Bank
  staged : Bank
  state : StagedState
  deriving DecidableEq, Repr

/-- The Plan Store. -/
structure PlanStore where
  carriers : Vector CarrierRecord 24
  plans : Vector OperatorPlan 4
  deriving DecidableEq, Repr

/-! ## Placement Unit and Downlink Distributor (chapter 3) -/

/-- A placement record (R52), with the scaling factors the Distributor derives from it (R67). -/
structure PlacementRecord where
  routed : List CarrierId
  routedUnits : Nat
  placed : List CarrierId
  units : Nat
  shed : List CarrierId
  power : Nat
  backoff : Nat
  overload : Bool
  sleep : Bool
  factors : List (CarrierId × Nat)
  deriving DecidableEq, Repr

/-- The Placement Unit. -/
structure Placement where
  records : Vector PlacementRecord 24
  /-- The dark indication of each sector (R63). -/
  dark : Vector Bool 32
  /-- CARRIER_SHED and COMPOSITE_OVERLOAD as last handed to the Supervision Unit. -/
  shedCond : Vector Bool 24
  overCond : Vector Bool 24
  /-- The placed set that governed the last link frame sent (R59, "newly placed"). -/
  lastPlaced : Vector (List CarrierId) 24
  deriving DecidableEq, Repr

/-- One IQ pair. -/
structure IQ where
  i : Int
  q : Int
  deriving DecidableEq, Repr

/-- One carrier's downlink block as an operator link handed it on (R5, R65). -/
structure SourceBlock where
  carrier : CarrierId
  samples : List IQ
  deriving DecidableEq, Repr

/-- The blocks of the operator links on their way to the containers (R65). -/
structure Distributor where
  /-- Blocks retimed to the next link frame to start. -/
  incoming : List SourceBlock
  /-- The source blocks of the link frame in progress. -/
  source : List SourceBlock
  deriving DecidableEq, Repr

/-! ## Uplink Combiner (chapter 4) -/

/-- A gate (R81). -/
structure Gate where
  isOpen : Bool
  counter : Nat
  deriving DecidableEq, Repr

/-- A remote of an expected set whose block is not settled yet (R76, R77), with the link format and the uplink
multiplier and guard step that govern its block (R84). -/
structure Expected where
  remote : RemoteId
  format : Format
  m : Nat
  g : Nat
  deriving DecidableEq, Repr

/-- A sum in progress (R76): the accumulator of (s, c, n) with the settings of the superframe containing n. -/
structure UplinkSum where
  label : Nat
  count : Count
  lf : Nat
  carrier : CarrierId
  sector : SectorId
  place : CarrierPlace
  h : Nat
  levels : Levels
  waiting : List Expected
  contributors : Nat
  acc : List IQ
  /-- The carrier's identity has changed since (R89). -/
  discard : Bool
  deriving DecidableEq, Repr

/-- The output of a formed sum, waiting for its link frame (R89). -/
structure SumOutput where
  label : Nat
  carrier : CarrierId
  place : CarrierPlace
  samples : List IQ
  deriving DecidableEq, Repr

/-- The Uplink Combiner. -/
structure Combiner where
  gates : Vector (Vector Gate 24) 24
  sums : List UplinkSum
  outputs : List SumOutput
  sat : Vector Nat 32
  overload : Vector Bool 32
  guard : Vector Nat 24
  recover : Vector Nat 24
  deriving DecidableEq, Repr

/-! ## Measurement Unit (chapter 5) -/

/-- The measurement snapshot (R106). -/
structure Snapshot where
  closing : Count
  length : Nat
  occ : Vector (Vector Nat 24) 24
  share : Vector (Vector Nat 24) 4
  load : Vector Nat 32
  sat : Vector Nat 32
  peak : Vector Nat 24
  deriving DecidableEq, Repr

/-- The Measurement Unit. The held counts are those of the blocks of the link frame in progress: they belong to the link
frame that follows it, and to nothing if it is cut short (R99). -/
structure Measurement where
  activity : Vector (Vector Nat 24) 24
  peak : Vector Nat 24
  heldActivity : Vector (Vector Nat 24) 24
  heldPeak : Vector Nat 24
  position : Nat
  wForce : Nat
  wSet : Nat
  satLimit : Nat
  recoverWindows : Nat
  snap : Snapshot
  deriving DecidableEq, Repr

/-! ## Balancer (chapter 6) -/

/-- The Balancer modes. -/
inductive BalancerMode where
  | off | advise | auto
  deriving DecidableEq, Repr

/-- The last outcomes. -/
inductive BalancerOutcome where
  | none | deferredQuiet | deferredLink | deferredPlan | noHot | noMove | moved | advised
  deriving DecidableEq, Repr

/-- An advice record (R126). -/
structure Advice where
  closing : Count
  remote : RemoteId
  fromSector : SectorIx
  toSector : SectorIx
  share : Nat
  fromLoad : Nat
  toLoad : Nat
  deriving DecidableEq, Repr

/-- A last move record (R124). -/
structure LastMove where
  closing : Count
  remote : RemoteId
  fromSector : SectorIx
  toSector : SectorIx
  share : Nat
  origin : Origin
  deriving DecidableEq, Repr

/-- The Balancer's state for one operator. -/
structure BalancerOp where
  mode : BalancerMode
  hotLevel : Nat
  minShare : Nat
  holdWindows : Nat
  holdOff : Vector Nat 24
  advice : Option Advice
  lastMove : Option LastMove
  outcome : BalancerOutcome
  outcomeAt : Count
  deferrals : Nat
  moves : Nat
  deriving DecidableEq, Repr

/-! ## Mode and Isolation Unit (chapter 7) -/

/-- The hub modes. -/
inductive HubMode where
  | normal | quiet
  deriving DecidableEq, Repr

/-- An entry of the isolation list (R143). -/
structure IsoEntry where
  remote : RemoteId
  entered : Count
  delay : Nat
  timer : Option Nat
  forced : Bool
  deriving DecidableEq, Repr

/-- A pending isolation (R144). -/
structure PendingIso where
  remote : RemoteId
  delay : Nat
  force : Bool
  deriving DecidableEq, Repr

/-- The Mode and Isolation Unit. -/
structure ModeUnit where
  mode : HubMode
  requested : Option HubMode
  auto : Option HubMode
  aqEnable : Bool
  quietLevel : Nat
  quietWindows : Nat
  wakeLevel : Nat
  quietRun : Nat
  isolated : List IsoEntry
  pendingIso : Option PendingIso
  deriving DecidableEq, Repr

/-! ## Supervision Unit (chapter 8) -/

/-- The fifteen condition kinds, in catalogue order (R156). -/
inductive Kind where
  | linkLost | linkMismatch | farPa | farVswr | farThermal | farRxloss | operatorLinkLost | trunkLinkLost
  | timingHoldover | sectorDark | carrierShed | compositeOverload | uplinkOverload | guardFloor | accessBarred
  deriving DecidableEq, Repr

/-- The object of a condition (R155). -/
inductive Obj where
  | remote (r : RemoteId)
  | operator (o : OpId)
  | sector (s : SectorId)
  | device
  deriving DecidableEq, Repr

/-- A condition's key (R155). -/
structure Key where
  kind : Kind
  obj : Obj
  deriving DecidableEq, Repr

/-- An alarm list entry (R157). Its severity is the one its kind fixes. -/
structure AlarmEntry where
  key : Key
  active : Bool
  first : Count
  last : Count
  occ : Nat
  deriving DecidableEq, Repr

/-- An ALARM ACK that removed from a full list the entry that the next raise would have evicted: its superframe and the keys
it removed (R166, fifth row). The model's own record. -/
structure AckRace where
  superframe : Count
  removed : List Key
  deriving DecidableEq, Repr

/-- The Supervision Unit. Bit n of the masks masks kind code n (section 10.4, ALERT SET). -/
structure Supervision where
  alarms : List AlarmEntry
  overflow : Bool
  seq : BitVec 16
  pending : Bool
  enable : Bool
  masks : BitVec 16
  /-- The number of warm resets applied: the argument of the free value of R175. The model's own field. -/
  warmResets : Nat
  /-- The last ALARM ACK, while a raise can still race with it (R166). The model's own field. -/
  race : Option AckRace
  /-- The number of raises that have met such a race: the argument of the free value of R166. The model's own field. -/
  races : Nat
  deriving DecidableEq, Repr

/-! ## Management Channel Unit (chapter 9) -/

/-- The result codes (section 10.5). -/
inductive Result where
  | done | aborted | busy | unknownCommand | badParameter | outOfScope | barred | wrongMode | held
  | switchPending | noFit | wouldDarken | listFull | stale | nothingPending | inUse | isolated
  deriving DecidableEq, Repr

/-- A timed command in progress, with what its completion needs (R182, R200). -/
inductive Timed where
  | planCommit (o : OpId)
  | balanceAccept (o : OpId) (taken : Advice)
  | modeSet
  | isolate (clamped : Bool)
  | warm
  | cold
  deriving DecidableEq, Repr

/-- A command in progress on a channel, with the tag of its request. -/
structure InProgress where
  tag : Byte
  cmd : Timed
  deriving DecidableEq, Repr

/-- A response (section 10.2). `isCold` marks the DONE of a COLD, whose leaving the queue starts the reset (R194). -/
structure Response where
  channel : Byte
  tag : Byte
  code : Byte
  result : Result
  clamped : Bool
  data : List Byte
  isCold : Bool
  deriving DecidableEq, Repr

/-- An ALERT (R170). -/
structure Alert where
  seq : BitVec 16
  critical : Nat
  major : Nat
  minor : Nat
  cleared : Nat
  overflow : Bool
  advice : Vector Bool 4
  quiet : Bool
  deriving DecidableEq, Repr

/-- The message in transmission and the number of its bytes already sent: the first due response, or the ALERT. -/
inductive Transmission where
  | response (sent : Nat)
  | alert (sent : Nat)
  deriving DecidableEq, Repr

/-- The Management Channel Unit. The reserved places of the return queue are those of the channels that are BUSY
with a timed command other than COLD (R180). -/
structure Management where
  assembly : Option (List Byte)
  control : Option InProgress
  service : Option InProgress
  scope : Option OpId
  barred : Bool
  codes : Vector (BitVec 32) 4
  /-- The due responses, in the order in which they became due. -/
  due : List Response
  alert : Option Alert
  tx : Option Transmission
  discards : Nat
  dropped : Nat
  deriving DecidableEq, Repr

/-! ## What the links carry outward -/

/-- A container as sent (R3, R198). -/
structure TxContainer where
  carrier : CarrierId
  units : Nat
  samples : List IQ
  deriving DecidableEq, Repr

/-- The last link frame sent on a remote link. -/
structure RemoteTx where
  word : List Byte
  format : Option Format
  containers : List TxContainer
  deriving DecidableEq, Repr

/-- The last link frame sent on an operator link; an empty slot is all zero. -/
structure OperatorTx where
  word : List Byte
  slots : Vector (List IQ) 8
  deriving DecidableEq, Repr

/-- The link frame that each link is sending; `none` on a link that transmits nothing. -/
structure Outputs where
  remote : Vector (Option RemoteTx) 24
  op : Vector (Option OperatorTx) 4
  trunk : Option (List Byte)
  deriving DecidableEq, Repr

/-! ## The whole machine -/

/-- A superframe boundary whose steps are being taken: what governed the superframe that ended there (R41, R104,
R116), the moves whose hold-off was set at this boundary by a switchover (R130), and whether the conditions, gates
and sleep orders that follow from the new placement records have been taken. The model's own field. -/
structure Boundary where
  banks : Vector Bank 4
  staged : Vector StagedState 4
  mode : HubMode
  moved : List (OpId × RemoteId)
  /-- A MODE SET completes at this boundary (R141). -/
  modeSet : Bool
  settled : Bool
  deriving DecidableEq, Repr

/-- The state of the hub. -/
structure State where
  /-- The commands that wait, first in, first out. -/
  pending : List Instr
  /-- The steps of the opcode table that the hub owes as a consequence of the commands taken, in the order in which
  it takes them if no command takes them first (notes/assumptions/1.md). -/
  due : List Instr
  boundary : Option Boundary
  /-- The reset pin is asserted (R195). -/
  resetPin : Bool
  rl : Vector RemoteLink 24
  ol : Vector TermLink 4
  trunk : TermLink
  tb : Timebase
  plan : PlanStore
  place : Placement
  dist : Distributor
  comb : Combiner
  meas : Measurement
  bal : Vector BalancerOp 4
  mode : ModeUnit
  sup : Supervision
  mgmt : Management
  out : Outputs
  deriving DecidableEq, Repr

/-- The hub never stops on a fault: the spec gives every command of the table an effect, so this type has no
constructor (safe: no step ends here). -/
inductive Fault
  deriving DecidableEq, Repr

/-- Why a command has no meaning. -/
inductive Refusal where
  /-- Raised by `exec` for a row that has no meaning yet. Safe: the machine stops. No row is left in this state. -/
  | notModelled (mnemonic : String)
  deriving DecidableEq, Repr

/-! ## Values after cold reset (R28, R49, R74, R96, R110, R134, R153, R174, R195) -/

/-- A remote link after cold reset (R28). -/
def RemoteLink.cold : RemoteLink where
  enable := true
  offered := ⟨true, true, true⟩
  state := .seek
  phase := .none
  chosen := none
  negTimer := 0
  holdTimer := 0
  format := none
  capability := none
  flags := Vector.replicate 4 ⟨false, 0⟩
  echoRun := 0
  sleepAck := false
  framesRx := 0
  alignErr := 0
  missing := 0
  negFail := 0
  lostEntries := 0
  downLatch := false
  m := 4096
  mEff := 4096
  pmax := 1000
  pmaxEff := 1000
  badRun := 0
  seekRun := 0
  lastGood := none
  nextAnswer := 0
  lostCond := false

/-- An operator link or the trunk after cold reset (R28). -/
def TermLink.cold : TermLink where
  state := .seek
  seekRun := 0
  badRun := 0
  holdTimer := 0
  framesRx := 0
  alignErr := 0
  lostEntries := 0
  lastGood := none
  beenUp := false
  lossCond := false

/-- The level fields of an UNUSED record (R29). -/
def Levels.unused : Levels where
  mdl := 4096
  power := 100
  activity := 512
  gate := 256
  hold := 8

/-- An UNUSED carrier record (R29). -/
def CarrierRecord.unused : CarrierRecord where
  place := none
  priority := 4
  eventOnly := false
  set := .unused
  eff := .unused

/-- A bank after cold reset (R49). -/
def Bank.cold : Bank where
  sectors := Vector.replicate 8 ⟨[], 2⟩
  zones := Vector.replicate 24 ⟨none, none, false, []⟩

/-- The empty placement record (R52). -/
def PlacementRecord.empty : PlacementRecord where
  routed := []
  routedUnits := 0
  placed := []
  units := 0
  shed := []
  power := 0
  backoff := 0
  overload := false
  sleep := false
  factors := []

/-- The empty snapshot (R106). -/
def Snapshot.empty : Snapshot where
  closing := 0
  length := 0
  occ := Vector.replicate 24 (Vector.replicate 24 0)
  share := Vector.replicate 4 (Vector.replicate 24 0)
  load := Vector.replicate 32 0
  sat := Vector.replicate 32 0
  peak := Vector.replicate 24 0

/-- The Balancer's state for one operator after cold reset (R134). -/
def BalancerOp.cold : BalancerOp where
  mode := .off
  hotLevel := 1536
  minShare := 32
  holdWindows := 30
  holdOff := Vector.replicate 24 0
  advice := none
  lastMove := none
  outcome := .none
  outcomeAt := 0
  deferrals := 0
  moves := 0

/-- The machine after a cold reset: R28, R49, R74, R96, R110, R134, R153, R174 and R195. TIMING_HOLDOVER holds from the
reset and has been raised into the empty alarm list (R174). -/
def State.reset : State where
  pending := []
  due := []
  boundary := none
  resetPin := false
  rl := Vector.replicate 24 .cold
  ol := Vector.replicate 4 .cold
  trunk := .cold
  tb := { count := 0, reference := .trunk, state := .holdover, label := 0, lf := none, history := [] }
  plan := { carriers := Vector.replicate 24 .unused, plans := Vector.replicate 4 ⟨.cold, .cold, .clean⟩ }
  place :=
    { records := Vector.replicate 24 .empty
      dark := Vector.replicate 32 false
      shedCond := Vector.replicate 24 false
      overCond := Vector.replicate 24 false
      lastPlaced := Vector.replicate 24 [] }
  dist := { incoming := [], source := [] }
  comb :=
    { gates := Vector.replicate 24 (Vector.replicate 24 ⟨false, 0⟩)
      sums := []
      outputs := []
      sat := Vector.replicate 32 0
      overload := Vector.replicate 32 false
      guard := Vector.replicate 24 0
      recover := Vector.replicate 24 0 }
  meas :=
    { activity := Vector.replicate 24 (Vector.replicate 24 0)
      peak := Vector.replicate 24 0
      heldActivity := Vector.replicate 24 (Vector.replicate 24 0)
      heldPeak := Vector.replicate 24 0
      position := 0
      wForce := 100
      wSet := 100
      satLimit := 64
      recoverWindows := 10
      snap := .empty }
  bal := Vector.replicate 4 .cold
  mode :=
    { mode := .normal
      requested := none
      auto := none
      aqEnable := false
      quietLevel := 64
      quietWindows := 60
      wakeLevel := 256
      quietRun := 0
      isolated := []
      pendingIso := none }
  sup :=
    { alarms := [⟨⟨.timingHoldover, .device⟩, true, 0, 0, 1⟩]
      overflow := false
      seq := 1
      pending := true
      enable := true
      masks := 0
      warmResets := 0
      race := none
      races := 0 }
  mgmt :=
    { assembly := none
      control := none
      service := none
      scope := none
      barred := false
      codes := Vector.replicate 4 0
      due := []
      alert := none
      tx := none
      discards := 0
      dropped := 0 }
  out :=
    { remote := Vector.replicate 24 none
      op := Vector.replicate 4 none
      trunk := none }

end Sys2Proof.Machine
end

