-- ==== Sys2Proof/Machine/Ops.lean ====
section
/-! DEFINITION. The named operations every block uses: the hub's thresholds, bounded counters, byte fields, and the
one place where each numbered record of State is read and replaced. -/

namespace Sys2Proof.Machine

/-! ## The objects, in number order -/

def allRemotes : List RemoteId := List.finRange 24
def allOps : List OpId := List.finRange 4
def allCarriers : List CarrierId := List.finRange 24
def allSectorIxs : List SectorIx := List.finRange 8
def allSectors : List SectorId := List.finRange 32

/-- The sector o.s. -/
def sectorOf (o : OpId) (i : SectorIx) : SectorId := ⟨8 * o.val + i.val, by omega⟩

/-- The operator of a sector. -/
def sectorOp (s : SectorId) : OpId := ⟨s.val / 8, by omega⟩

/-- The index of a sector in its operator's plan. -/
def sectorIx (s : SectorId) : SectorIx := ⟨s.val % 8, by omega⟩

/-! ## Numbers -/

/-- Good frames in a row that leave SEEK (R6, R22). -/
def seekRunLimit : Nat := 4
/-- Consecutive bad frames that lose a link (R8, R10, R22). -/
def badRunLimit : Nat := 8
/-- Boundaries that a negotiation may take (R8). -/
def negotiationLimit : Nat := 10
/-- Boundaries of the LOST hold (R11, R22). -/
def lostHoldLimit : Nat := 50
/-- Consecutive words that change a far-end flag or fail the echo (R14). -/
def farRunLimit : Nat := 3
/-- The last link frame of a superframe. -/
def lastFrame : Nat := 79
/-- Container units of a remote link frame (R54). -/
def linkUnits : Nat := 192
/-- Alarm list entries (R157). -/
def alarmCapacity : Nat := 64
/-- Isolation list entries (R143). -/
def isolationCapacity : Nat := 4
/-- Return queue places (R180). -/
def returnPlaces : Nat := 8
/-- Superframes in a second. -/
def superframesPerSecond : Nat := 100
/-- The end of a 32-bit saturating counter (R16). -/
def max32 : Nat := 4294967295
/-- The end of a 16-bit saturating counter (R87, R158). -/
def max16 : Nat := 65535

/-- A saturating counter counts one. -/
def satInc (limit n : Nat) : Nat := min (n + 1) limit

/-- A numeric setting clamped into its range (R184). -/
def clamp (lo hi n : Nat) : Nat := max lo (min n hi)

/-- Step b of the table T: 4096 × 7^b / 8^b rounded down (00_scope.md, "Multipliers and the step table"). -/
def stepT (b : Nat) : Nat := 4096 * 7 ^ b / 8 ^ b

/-- Saturation of a value into the signed range of a width. -/
def saturate (bits : Nat) (y : Int) : Int := max (-(2 : Int) ^ (bits - 1)) (min y ((2 : Int) ^ (bits - 1) - 1))

/-- A table with one value for each index. -/
def tab {n : Nat} {α : Type} (f : Fin n → α) : Vector α n := Vector.ofFn f

/-! ## Byte fields, high byte first (chapter 10) -/

def byte (n : Nat) : Byte := BitVec.ofNat 8 n
def u8 (n : Nat) : List Byte := [byte n]
def u16 (n : Nat) : List Byte := [byte (n / 256), byte n]
def u24 (n : Nat) : List Byte := [byte (n / 65536), byte (n / 256), byte n]
def u32 (n : Nat) : List Byte := [byte (n / 16777216), byte (n / 65536), byte (n / 256), byte n]
def flagByte (b : Bool) : Byte := if b then 0x01 else 0x00

/-- A value that may be absent: a flag byte, then the value when it is present (R200). -/
def optional {α : Type} (f : α → List Byte) : Option α → List Byte
  | none => [0x00]
  | some x => 0x01 :: f x

/-- The unsigned integer that bytes spell, high byte first. -/
def unsigned (bs : List Byte) : Nat := bs.foldl (fun n b => 256 * n + b.toNat) 0

/-- The first n bytes, filled up with zero bytes. -/
def padTo (n : Nat) (bs : List Byte) : List Byte := bs.take n ++ List.replicate (n - bs.length) 0

/-! ## Access to the records of the state -/

namespace State

/-- Changes remote r's link record. -/
def modRl (s : State) (r : RemoteId) (f : RemoteLink → RemoteLink) : State := { s with rl := s.rl.set r (f s.rl[r]) }

/-- The record of an operator link or the trunk. -/
def term (s : State) : TermLinkId → TermLink
  | .op o => s.ol[o]
  | .trunk => s.trunk

/-- Changes the record of an operator link or the trunk. -/
def modTerm (s : State) (l : TermLinkId) (f : TermLink → TermLink) : State :=
  match l with
  | .op o => { s with ol := s.ol.set o (f s.ol[o]) }
  | .trunk => { s with trunk := f s.trunk }

/-- The carrier records. -/
def carrier (s : State) (c : CarrierId) : CarrierRecord := s.plan.carriers[c]

/-- Changes a carrier record. -/
def modCarrier (s : State) (c : CarrierId) (f : CarrierRecord → CarrierRecord) : State :=
  { s with plan := { s.plan with carriers := s.plan.carriers.set c (f s.plan.carriers[c]) } }

/-- One operator's plan. -/
def opPlan (s : State) (o : OpId) : OperatorPlan := s.plan.plans[o]

/-- Changes one operator's plan. -/
def modPlan (s : State) (o : OpId) (f : OperatorPlan → OperatorPlan) : State :=
  { s with plan := { s.plan with plans := s.plan.plans.set o (f s.plan.plans[o]) } }

/-- Remote r's placement record. -/
def record (s : State) (r : RemoteId) : PlacementRecord := s.place.records[r]

/-- Replaces remote r's placement record. -/
def setRecord (s : State) (r : RemoteId) (p : PlacementRecord) : State :=
  { s with place := { s.place with records := s.place.records.set r p } }

/-- The gate of a remote and carrier. -/
def gate (s : State) (r : RemoteId) (c : CarrierId) : Gate := s.comb.gates[r][c]

/-- Replaces the gate of a remote and carrier. -/
def setGate (s : State) (r : RemoteId) (c : CarrierId) (g : Gate) : State :=
  { s with comb := { s.comb with gates := s.comb.gates.set r (s.comb.gates[r].set c g) } }

/-- Sets every gate of a remote CLOSED with hold counter 0 (R82). -/
def closeGates (s : State) (r : RemoteId) : State :=
  { s with comb := { s.comb with gates := s.comb.gates.set r (Vector.replicate 24 ⟨false, 0⟩) } }

/-- Remote r's guard step. -/
def guardStep (s : State) (r : RemoteId) : Nat := s.comb.guard[r]

/-- Changes the Balancer's state for one operator. -/
def modBal (s : State) (o : OpId) (f : BalancerOp → BalancerOp) : State := { s with bal := s.bal.set o (f s.bal[o]) }

/-- The hub owes further steps (notes/assumptions/1.md). -/
def owe (s : State) (xs : List Instr) : State := { s with due := s.due ++ xs }

/-- One owed step is taken off the list. -/
def dropDue (s : State) (x : Instr) : State := { s with due := s.due.erase x }

end State

end Sys2Proof.Machine
end

