-- ==== Sys2Proof/Machine/Words.lean ====
section
/-! DEFINITION. The link words and container layouts of section 10.1 (R1, R2, R196, R197, R198) and the sample
arithmetic of the formats (R69, R79). -/

namespace Sys2Proof.Machine

/-! ## The control word -/

def typeIdle : Byte := 0x00
def typeOrder : Byte := 0x11
def typeCapability : Byte := 0x21
def typeStatus : Byte := 0x22
def typeMgmtStart : Byte := 0x31
def typeMgmtCont : Byte := 0x32

/-- The sum of bytes modulo 256. -/
def byteSum (bs : List Byte) : Byte := bs.foldl (· + ·) 0

/-- The low byte of a superframe count. -/
def lowByte (c : Count) : Byte := BitVec.setWidth 8 c

/-- A control word as the hub builds it (R196): the check byte makes its sixteen bytes sum to 0 modulo 256 (R1). -/
def controlWord (count : Count) (lf : Nat) (type : Byte) (payload : List Byte) : List Byte :=
  let body := [0xD2, 0x47, byte lf, lowByte count, type] ++ padTo 10 payload
  body ++ [0 - byteSum body]

/-- The fields of a received control word. -/
structure Word where
  lf : Nat
  low : Byte
  type : Byte
  payload : List Byte
  deriving DecidableEq, Repr

/-- Reads a received control word (R2, R196). `none` when its alignment pattern is wrong, its sixteen bytes do not sum
to zero modulo 256, or its link-frame number is above 79: that frame is bad whatever came before it. -/
def parseWord (w : List Byte) : Option Word :=
  if w.length = 16 ∧ w.take 2 = [0xD2, 0x47] ∧ byteSum w = 0 ∧ (w.getD 2 0).toNat ≤ lastFrame then
    some ⟨(w.getD 2 0).toNat, w.getD 3 0, w.getD 4 0, (w.drop 5).take 10⟩
  else none

/-! ## Formats -/

/-- The code of a format in the ORDER and STATUS words; NONE is 0x00. -/
def formatCode : Option Format → Byte
  | none => 0x00
  | some .w16 => 0x01
  | some .w12 => 0x02
  | some .w8 => 0x03

/-- The format that a format echo names. The codes 0x00 and above 0x03 name none (R197). -/
def formatOfCode (b : Byte) : Option Format :=
  if b = 0x01 then some .w16 else if b = 0x02 then some .w12 else if b = 0x03 then some .w8 else none

/-- A format set from bits 0 to 2 of a byte (R197). -/
def formatSetOf (b : Byte) : FormatSet := ⟨b.getLsbD 0, b.getLsbD 1, b.getLsbD 2⟩

/-- The byte of a format set. -/
def formatSetByte (f : FormatSet) : Byte :=
  byte ((if f.w16 then 1 else 0) + (if f.w12 then 2 else 0) + (if f.w8 then 4 else 0))

/-- Membership in a format set. -/
def FormatSet.has (f : FormatSet) : Format → Bool
  | .w16 => f.w16
  | .w12 => f.w12
  | .w8 => f.w8

/-- The format of both sets that stands first in the order W16, W12, W8 (R7). -/
def FormatSet.choose (a b : FormatSet) : Option Format :=
  [Format.w16, .w12, .w8].find? fun f => a.has f && b.has f

/-- Sample width of a format. -/
def Format.bits : Format → Nat
  | .w16 => 16
  | .w12 => 12
  | .w8 => 8

/-- Container units per width class at a format: 4k, 3k or 2k (R54). -/
def Format.unitsPerClass : Format → Nat
  | .w16 => 4
  | .w12 => 3
  | .w8 => 2

/-- Bytes of a container unit (section 10.1). -/
def unitBytes : Nat := 960

/-- IQ pairs of a block of width class k (R198). -/
def pairsPerBlock (k : Nat) : Nat := 960 * k

/-- A block of zero samples for width class k. -/
def zeroBlock (k : Nat) : List IQ := List.replicate (pairsPerBlock k) ⟨0, 0⟩

/-! ## Sample packing (R198) -/

/-- The unsigned value of width `bits` read as two's complement. -/
def signed (bits n : Nat) : Int := if n < 2 ^ (bits - 1) then (n : Int) else (n : Int) - (2 : Int) ^ bits

/-- The two's complement of a value at width `bits`, as an unsigned number. -/
def complement (bits : Nat) (x : Int) : Nat := (x % (2 : Int) ^ bits).toNat

def unpack16 : List Byte → List IQ
  | a :: b :: c :: d :: rest =>
    ⟨signed 16 (256 * a.toNat + b.toNat), signed 16 (256 * c.toNat + d.toNat)⟩ :: unpack16 rest
  | _ => []

def unpack12 : List Byte → List IQ
  | a :: b :: c :: rest =>
    ⟨signed 12 (16 * a.toNat + b.toNat / 16), signed 12 (256 * (b.toNat % 16) + c.toNat)⟩ :: unpack12 rest
  | _ => []

def unpack8 : List Byte → List IQ
  | a :: b :: rest => ⟨signed 8 a.toNat, signed 8 b.toNat⟩ :: unpack8 rest
  | _ => []

/-- The IQ pairs of a block packed at a format: I then Q, most significant bit first, no padding. -/
def unpack : Format → List Byte → List IQ
  | .w16 => unpack16
  | .w12 => unpack12
  | .w8 => unpack8

/-- One IQ pair packed at a format. -/
def packPair (f : Format) (x : IQ) : List Byte :=
  let i := complement f.bits x.i
  let q := complement f.bits x.q
  match f with
  | .w16 => u16 i ++ u16 q
  | .w12 => [byte (i / 16), byte (16 * (i % 16) + q / 256), byte q]
  | .w8 => [byte i, byte q]

/-- A block packed at a format. -/
def pack (f : Format) (xs : List IQ) : List Byte := xs.flatMap (packPair f)

/-! ## Format arithmetic -/

/-- A received value expanded to the 16-bit range (R79). -/
def expandValue : Format → Int → Int
  | .w16, x => x
  | .w12, x => 16 * x
  | .w8, x => 256 * x

/-- A block expanded to the 16-bit range (R79). -/
def expandBlock (f : Format) (xs : List IQ) : List IQ := xs.map fun x => ⟨expandValue f x.i, expandValue f x.q⟩

/-- A 16-bit value reduced to a format, halves rounded upward, then saturated (R69). -/
def reduceValue : Format → Int → Int
  | .w16, y => y
  | .w12, y => saturate 12 ((y + 8) / 16)
  | .w8, y => saturate 8 ((y + 128) / 256)

/-- A downlink value scaled by a factor (R68). -/
def scaleValue (k : Nat) (x : Int) : Int := saturate 16 ((x * (k : Int) + 2048) / 4096)

/-- A source block scaled and reduced for one remote (R68, R69). -/
def scaleBlock (f : Format) (k : Nat) (xs : List IQ) : List IQ :=
  xs.map fun x => ⟨reduceValue f (scaleValue k x.i), reduceValue f (scaleValue k x.q)⟩

/-- The block level: the largest magnitude of any I or Q value (R80). -/
def blockLevel (xs : List IQ) : Nat := xs.foldl (fun n x => max n (max x.i.natAbs x.q.natAbs)) 0

/-! ## Containers (R3, R4, R198) -/

/-- The directory entries of a received payload, up to the first tag 0xFF or through all 24. -/
def directoryOf : Nat → List Byte → List (Byte × Nat)
  | 0, _ => []
  | n + 1, tag :: len :: rest => if tag = 0xFF then [] else (tag, len.toNat) :: directoryOf n rest
  | _ + 1, _ => []

/-- Bytes of the container directory. -/
def directoryBytes : Nat := 48

/-- The tags stand in ascending order. -/
def ascending : List (Byte × Nat) → Bool
  | a :: b :: rest => a.1.toNat < b.1.toNat && ascending (b :: rest)
  | _ => true

/-- A container of a received frame: its tag, its length in units and its first unit. -/
structure RxContainer where
  tag : Byte
  units : Nat
  start : Nat
  deriving DecidableEq, Repr

/-- Places each directory entry at the unit after the one before. -/
def placeEntries : Nat → List (Byte × Nat) → List RxContainer
  | _, [] => []
  | u, (tag, len) :: rest => ⟨tag, len, u⟩ :: placeEntries (u + len) rest

/-- The containers of a received payload. Every one is discarded when the tags are not in ascending order or the
lengths together exceed 192 units (R4). A payload that ends inside the directory is read on with zero bytes, as entries of
tag 0 and length 0 (DESIGN CHOICE, notes/assumptions/9.md). -/
def containersOf (payload : List Byte) : List RxContainer :=
  let entries := directoryOf 24 (padTo directoryBytes payload)
  if ascending entries ∧ (entries.map (·.2)).sum ≤ linkUnits then placeEntries 0 entries else []

/-- The IQ pairs of a container that starts at a unit and holds a block of width class k at a format. -/
def containerBlock (f : Format) (k start : Nat) (payload : List Byte) : List IQ :=
  let len := f.unitsPerClass * k * unitBytes
  unpack f (padTo len ((payload.drop (directoryBytes + start * unitBytes)).take len))

/-- The block that a received payload yields for a carrier placed at a format with width class k (R4): that of the
container whose tag names the carrier and whose length matches. -/
def blockFor (f : Format) (k : Nat) (c : CarrierId) (payload : List Byte) : Option (List IQ) :=
  match (containersOf payload).find? fun x => x.tag.toNat = c.val && x.units = f.unitsPerClass * k with
  | some x => some (containerBlock f k x.start payload)
  | none => none

/-- The block of an operator link slot: the first 4k units of its 16 (R5, R198). -/
def slotBlock (slot : SlotIx) (k : Nat) (slots : List Byte) : List IQ :=
  let len := Format.w16.unitsPerClass * k * unitBytes
  unpack16 (padTo len ((slots.drop (slot.val * 16 * unitBytes)).take len))

/-- The payload bytes of a transmitted remote link frame: directory, containers, zero units (R3, R198). -/
def txPayload (f : Format) (cs : List TxContainer) : List Byte :=
  let entries := cs.flatMap fun c => [byte c.carrier.val, byte c.units]
  let empty := (List.replicate (24 - cs.length) [(0xFF : Byte), 0x00]).flatten
  let body := cs.flatMap fun c => padTo (c.units * unitBytes) (pack f c.samples)
  entries ++ empty ++ padTo (linkUnits * unitBytes) body

/-- The bytes of a transmitted remote link frame. A link without a format sends no container. -/
def RemoteTx.bytes (x : RemoteTx) : List Byte := x.word ++ txPayload (x.format.getD .w16) x.containers

/-- The bytes of a transmitted operator link frame: each slot is 16 units, filled up with zero (R5). -/
def OperatorTx.bytes (x : OperatorTx) : List Byte :=
  x.word ++ (List.finRange 8).flatMap fun i => padTo (16 * unitBytes) (pack .w16 x.slots[i])

end Sys2Proof.Machine
end

