-- ==== Sys2Proof/Machine/Flags.lean ====
section
/-! DEFINITION. The condition kinds with their codes and severities (R156, R202), and the filter of the far-end
flags (R14). -/

namespace Sys2Proof.Machine

/-- Severities (R156). -/
inductive Severity where
  | critical | major | minor
  deriving DecidableEq, Repr

/-- Object types (R155). -/
inductive ObjType where
  | remote | operator | sector | device
  deriving DecidableEq, Repr

/-- The kinds in catalogue order (R156). -/
def Kind.all : List Kind :=
  [.linkLost, .linkMismatch, .farPa, .farVswr, .farThermal, .farRxloss, .operatorLinkLost, .trunkLinkLost,
    .timingHoldover, .sectorDark, .carrierShed, .compositeOverload, .uplinkOverload, .guardFloor, .accessBarred]

/-- Kind codes (section 10.3). -/
def Kind.code : Kind → Nat
  | .linkLost => 1
  | .linkMismatch => 2
  | .farPa => 3
  | .farVswr => 4
  | .farThermal => 5
  | .farRxloss => 6
  | .operatorLinkLost => 7
  | .trunkLinkLost => 8
  | .timingHoldover => 9
  | .sectorDark => 10
  | .carrierShed => 11
  | .compositeOverload => 12
  | .uplinkOverload => 13
  | .guardFloor => 14
  | .accessBarred => 15

/-- The severity each kind fixes (R156). -/
def Kind.severity : Kind → Severity
  | .operatorLinkLost | .sectorDark => .critical
  | .linkLost | .linkMismatch | .farPa | .farRxloss | .trunkLinkLost | .timingHoldover | .guardFloor => .major
  | .farVswr | .farThermal | .carrierShed | .compositeOverload | .uplinkOverload | .accessBarred => .minor

/-- The object type each kind fixes (R156). -/
def Kind.objType : Kind → ObjType
  | .linkLost | .linkMismatch | .farPa | .farVswr | .farThermal | .farRxloss | .carrierShed | .compositeOverload
  | .guardFloor => .remote
  | .operatorLinkLost => .operator
  | .sectorDark | .uplinkOverload => .sector
  | .trunkLinkLost | .timingHoldover | .accessBarred => .device

/-- The type of an object. -/
def Obj.type : Obj → ObjType
  | .remote _ => .remote
  | .operator _ => .operator
  | .sector _ => .sector
  | .device => .device

/-- Object codes (section 10.3). -/
def Obj.code : Obj → Byte
  | .remote r => byte r.val
  | .operator o => byte (0x20 + o.val)
  | .sector s => byte (0x40 + s.val)
  | .device => 0xFF

/-- The object that a code names; a code outside the four ranges names none (R202). -/
def objOfCode (b : Byte) : Option Obj :=
  if h : b.toNat < 24 then some (.remote ⟨b.toNat, h⟩)
  else if h : 0x20 ≤ b.toNat ∧ b.toNat < 0x24 then some (.operator ⟨b.toNat - 0x20, by omega⟩)
  else if h : 0x40 ≤ b.toNat ∧ b.toNat < 0x60 then some (.sector ⟨b.toNat - 0x40, by omega⟩)
  else if b = 0xFF then some .device
  else none

/-- The kind that a code names. -/
def kindOfCode (b : Byte) : Option Kind := Kind.all.find? fun k => k.code = b.toNat

/-- The key of a kind code and an object code. `none` for an unknown kind, an object out of range and an object of the
wrong type (R165, R202). -/
def keyOfCodes (k o : Byte) : Option Key :=
  match kindOfCode k, objOfCode o with
  | some kind, some obj => if kind.objType = obj.type then some ⟨kind, obj⟩ else none
  | _, _ => none

/-- The objects of a type, in object order (R156). -/
def ObjType.objects : ObjType → List Obj
  | .remote => allRemotes.map .remote
  | .operator => allOps.map .operator
  | .sector => allSectors.map .sector
  | .device => [.device]

/-- Every key, in catalogue order and then object order (R156). -/
def catalogue : List Key := Kind.all.flatMap fun k => k.objType.objects.map fun o => ⟨k, o⟩

/-- The kind of the condition that a far-end flag holds (R14). -/
def farKind (flag : Fin 4) : Kind :=
  match flag with
  | 0 => .farPa
  | 1 => .farVswr
  | 2 => .farThermal
  | 3 => .farRxloss

/-- One STATUS word's report applied to a flag's filter (R14): agreement restarts the run, disagreement lengthens it. A
run of 3 changes the flag (FAR_FLAG_CHANGE). -/
def FarFlag.filter (f : FarFlag) (reported : Bool) : FarFlag :=
  if reported = f.present then { f with run := 0 } else { f with run := min (f.run + 1) farRunLimit }

/-- The change of a flag whose run count has reached 3 (R14). -/
def FarFlag.change (f : FarFlag) : FarFlag := ⟨!f.present, 0⟩

end Sys2Proof.Machine
end

