-- ==== Sys2Proof/Machine/Alarms.lean ====
section
/-! DEFINITION. The Supervision Unit's alarm list: raises, clears, eviction, resweep, acknowledgement and the change
sequence (R157 to R162, R165 to R168). -/

namespace Sys2Proof.Machine

namespace Supervision

/-- A change that no mask governs: the change sequence counts it and, while alerts are enabled, the pending flag is
set (R167, R168). -/
def count (p : Supervision) : Supervision := { p with seq := p.seq + 1, pending := p.pending || p.enable }

/-- Whether a kind is masked. -/
def masked (p : Supervision) (k : Kind) : Bool := p.masks.getLsbD k.code

/-- A change subject to the mask of a kind (R167). -/
def countKind (p : Supervision) (k : Kind) : Supervision := if p.masked k then p else p.count

/-- The entry of a key. -/
def entry (p : Supervision) (key : Key) : Option AlarmEntry := p.alarms.find? fun e => e.key = key

/-- Replaces the entry of a key in its place. -/
def mapEntry (p : Supervision) (key : Key) (f : AlarmEntry → AlarmEntry) : Supervision :=
  { p with alarms := p.alarms.map fun e => if e.key = key then f e else e }

/-- Appends a new ACTIVE entry (R158). -/
def append (p : Supervision) (now : Count) (key : Key) : Supervision :=
  countKind { p with alarms := p.alarms ++ [⟨key, true, now, now, 1⟩] } key.kind

/-- Removes the CLEARED entry nearest to position 0 (R159), if there is one. -/
def evict (p : Supervision) : Option Supervision :=
  match p.alarms.find? fun e => !e.active with
  | none => none
  | some e => some (countKind { p with alarms := p.alarms.eraseP fun e => !e.active } e.key.kind)

/-- The overflow flag is set; setting it from clear is a change (R162, R167). -/
def setOverflow (p : Supervision) : Supervision := if p.overflow then p else count { p with overflow := true }

/-- The overflow flag is cleared; clearing it from set is a change (R162, R167). -/
def clearOverflow (p : Supervision) : Supervision := if p.overflow then count { p with overflow := false } else p

/-- The raise of a key races with an ALARM ACK of the same superframe that removed the entry of another key, the one that the
raise would have evicted (R166, fifth row). -/
def raced (p : Supervision) (now : Count) (key : Key) : Bool :=
  match p.race with
  | some x => x.superframe = now && !x.removed.contains key
  | none => false

/-- The race with an ALARM ACK is over at the next raise that finds no entry for its key; one that raced is counted. -/
def endRace (p : Supervision) (now : Count) (key : Key) : Supervision :=
  { p with race := none, races := if p.raced now key then p.races + 1 else p.races }

/-- A raise must make room: the list is full (R159), or the raise races with an ALARM ACK and is close to it, so that the
fifth row of R166 holds. How close a raise must be is not said, and R158 appends below 64 entries: a free value decides
(DESIGN CHOICE, notes/assumptions/34.md). -/
def needsRoom (p : Supervision) (now : Count) (key : Key) : Bool :=
  decide (alarmCapacity ≤ p.alarms.length) || (p.raced now key && Config.raiseIsClose p.races)

/-- A raise that finds no entry for its key (R158, R159, R166): it is appended, after an eviction where it must make room,
or sets the overflow flag where nothing can be evicted. -/
def raiseNew (p : Supervision) (now : Count) (key : Key) : Supervision :=
  let q := p.endRace now key
  if p.needsRoom now key then
    match q.evict with
    | some q => q.append now key
    | none => q.setOverflow
  else q.append now key

/-- A raise for a key (R158). -/
def raise (p : Supervision) (now : Count) (key : Key) : Supervision :=
  match p.entry key with
  | none => p.raiseNew now key
  | some e =>
    if e.active then p
    else (p.mapEntry key fun e => { e with active := true, last := now, occ := satInc max16 e.occ }).countKind key.kind

/-- A clear for a key (R160). -/
def clear (p : Supervision) (now : Count) (key : Key) : Supervision :=
  match p.entry key with
  | none => p
  | some e =>
    if e.active then (p.mapEntry key fun e => { e with active := false, last := now }).countKind key.kind else p

/-- A resweep over the keys whose conditions hold, in catalogue order (R161): a raise for each that has no entry. -/
def resweep (p : Supervision) (now : Count) (holding : List Key) : Supervision :=
  holding.foldl (fun p key => if p.entry key = none then p.raiseNew now key else p) p

/-- Every entry is removed; one change when there was any (R167, R175). -/
def empty (p : Supervision) : Supervision :=
  let p := { p with race := none }
  if p.alarms = [] then p else count { p with alarms := [] }

/-- Outcomes of an acknowledged key (R165). -/
inductive AckOutcome where
  | removed | stillActive | absent
  deriving DecidableEq, Repr

/-- The outcome codes (R200). -/
def AckOutcome.code : AckOutcome → Byte
  | .removed => 0x01
  | .stillActive => 0x02
  | .absent => 0x03

/-- One key of an ALARM ACK (R165). -/
def ackKey (p : Supervision) (key : Key) : Supervision × AckOutcome :=
  match p.entry key with
  | none => (p, .absent)
  | some e =>
    if e.active then (p, .stillActive)
    else (countKind { p with alarms := p.alarms.eraseP fun e => e.key = key } key.kind, .removed)

/-- The keys of an ALARM ACK in order, before the overflow flag (R165). -/
def ackKeys (p : Supervision) : List Key → Supervision × List AckOutcome
  | [] => (p, [])
  | key :: rest =>
    let (q, o) := p.ackKey key
    let (q', os) := q.ackKeys rest
    (q', o :: os)

/-- The race that an ALARM ACK leaves open: it removes from a full list the CLEARED entry nearest to position 0, which the
next raise would have evicted (R159, R166). -/
def raceAfter (p : Supervision) (now : Count) (keys : List Key) : Option AckRace :=
  let removed := (p.alarms.filter fun e => !e.active && keys.contains e.key).map (·.key)
  match p.alarms.find? fun e => !e.active with
  | some e => if p.alarms.length = alarmCapacity ∧ removed.contains e.key then some ⟨now, removed⟩ else none
  | none => none

/-- An ALARM ACK taken whole: the overflow flag is cleared when a key was removed (R162, R165). -/
def ack (p : Supervision) (now : Count) (keys : List Key) : Supervision × List AckOutcome :=
  let (q, os) := { p with race := p.raceAfter now keys }.ackKeys keys
  (if os.contains .removed then q.clearOverflow else q, os)

/-- The number of ACTIVE entries of a severity in a list. -/
def activeCount (l : List AlarmEntry) (v : Severity) : Nat :=
  (l.filter fun e => e.active && e.key.kind.severity = v).length

/-- The number of CLEARED entries in a list. -/
def clearedCount (l : List AlarmEntry) : Nat := (l.filter fun e => !e.active).length

/-- The list holds at most 64 entries and at most one per key (R157). -/
def wf (p : Supervision) : Bool := p.alarms.length ≤ alarmCapacity && (p.alarms.map (·.key)).Nodup

end Supervision

namespace State

/-- An owning block hands a raise, taken in the present superframe (R155, R157). -/
def raise (s : State) (key : Key) : State := { s with sup := s.sup.raise s.tb.count key }

/-- An owning block hands a clear. -/
def clear (s : State) (key : Key) : State := { s with sup := s.sup.clear s.tb.count key }

/-- A condition that held or not before, and holds or not now, is handed to the Supervision Unit when it changed. -/
def hand (s : State) (key : Key) (before now : Bool) : State :=
  if before = now then s else if now then s.raise key else s.clear key

/-- The answer of the owning block whether a condition holds (R155, R156). -/
def holds (s : State) (key : Key) : Bool :=
  match key.kind, key.obj with
  | .linkLost, .remote r => s.rl[r].lostCond
  | .linkMismatch, .remote r => s.rl[r].state = .mismatch
  | .farPa, .remote r => s.rl[r].flags[0].present
  | .farVswr, .remote r => s.rl[r].flags[1].present
  | .farThermal, .remote r => s.rl[r].flags[2].present
  | .farRxloss, .remote r => s.rl[r].flags[3].present
  | .operatorLinkLost, .operator o => s.ol[o].lossCond
  | .trunkLinkLost, .device => s.trunk.lossCond
  | .timingHoldover, .device => s.tb.state = .holdover ∨ s.tb.state = .relocking
  | .sectorDark, .sector x => s.place.dark[x]
  | .carrierShed, .remote r => s.place.records[r].shed ≠ []
  | .compositeOverload, .remote r => s.place.records[r].overload
  | .uplinkOverload, .sector x => s.comb.overload[x]
  | .guardFloor, .remote r => s.comb.guard[r] = 8
  | .accessBarred, .device => s.mgmt.barred
  | _, _ => false

end State

end Sys2Proof.Machine
end

