-- ==== Sys2Proof/Machine/Placement.lean ====
section
/-! DEFINITION. The Placement Unit (chapter 3): routed and placed sets, shedding, backoff, scaling factors, trial
placements, dark sectors and sleep orders. -/

namespace Sys2Proof.Machine

/-! ## Carriers and banks -/

/-- The width class of a carrier (R29); 0 for an UNUSED record, which no list names. -/
def PlanStore.width (ps : PlanStore) (c : CarrierId) : Nat :=
  match ps.carriers[c].place with
  | some p => p.width
  | none => 0

/-- The operator that owns a carrier. -/
def PlanStore.owner (ps : PlanStore) (c : CarrierId) : Option OpId := ps.carriers[c].place.map (·.op)

/-- A carrier is suspended while it is DEFINED and event-only and the hub is in QUIET (R53, R137). -/
def PlanStore.suspended (ps : PlanStore) (mode : HubMode) (c : CarrierId) : Bool :=
  mode = .quiet && ps.carriers[c].eventOnly && ps.carriers[c].place.isSome

/-- The carriers that a bank's zone entry for a remote calls for: the list of its current sector (R34). -/
def Bank.calls (b : Bank) (r : RemoteId) : List CarrierId :=
  match b.zones[r].cur with
  | none => []
  | some i => b.sectors[i].carriers

/-- The remotes whose current sector in a bank is the given one (R34). -/
def Bank.members (b : Bank) (i : SectorIx) : List RemoteId := allRemotes.filter fun r => b.zones[r].cur = some i

/-- A sector is in service when its list holds a carrier that is not suspended (R33). -/
def PlanStore.inService (ps : PlanStore) (mode : HubMode) (b : Bank) (i : SectorIx) : Bool :=
  b.sectors[i].carriers.any fun c => !ps.suspended mode c

/-- A carrier is listed in some sector of a bank. -/
def Bank.lists (b : Bank) (c : CarrierId) : Bool := allSectorIxs.any fun i => b.sectors[i].carriers.contains c

/-- The sector of a bank that lists a carrier (R33). -/
def Bank.sectorOfCarrier (b : Bank) (c : CarrierId) : Option SectorIx :=
  allSectorIxs.find? fun i => b.sectors[i].carriers.contains c

/-! ## Routed set and units (R53, R54) -/

/-- The lists that the four active banks call for at a remote. -/
def PlanStore.activeCalls (ps : PlanStore) (r : RemoteId) : List (List CarrierId) :=
  allOps.map fun o => ps.plans[o].active.calls r

/-- The same lists with one operator's replaced. -/
def PlanStore.callsWith (ps : PlanStore) (r : RemoteId) (o : OpId) (l : List CarrierId) : List (List CarrierId) :=
  allOps.map fun o' => if o' = o then l else ps.plans[o'].active.calls r

/-- The union of the lists less every suspended carrier, in ascending carrier number (R53). -/
def PlanStore.route (ps : PlanStore) (mode : HubMode) (calls : List (List CarrierId)) : List CarrierId :=
  allCarriers.filter fun c => (calls.any fun l => l.contains c) && !ps.suspended mode c

/-- The container units of a set of carriers at a format (R54). -/
def PlanStore.units (ps : PlanStore) (f : Format) (cs : List CarrierId) : Nat :=
  (cs.map fun c => f.unitsPerClass * ps.width c).sum

/-! ## Shedding (R55) -/

/-- Carrier a is shed before carrier b: larger priority value, then higher carrier number. -/
def PlanStore.shedBefore (ps : PlanStore) (a b : CarrierId) : Bool :=
  ps.carriers[b].priority < ps.carriers[a].priority ||
    (ps.carriers[a].priority = ps.carriers[b].priority && b.val < a.val)

/-- The carrier of a set that is shed first. -/
def PlanStore.shedNext (ps : PlanStore) : List CarrierId → Option CarrierId
  | [] => none
  | c :: cs =>
    match ps.shedNext cs with
    | none => some c
    | some d => if ps.shedBefore c d then some c else some d

/-- Removes carriers in the shedding order until the rest needs at most 192 units: the rest, and the carriers removed in
the order of removal. The first argument bounds the number of removals. -/
def PlanStore.shedTo (ps : PlanStore) (f : Format) : Nat → List CarrierId → List CarrierId × List CarrierId
  | 0, cs => (cs, [])
  | n + 1, cs =>
    if ps.units f cs ≤ linkUnits then (cs, [])
    else match ps.shedNext cs with
      | none => (cs, [])
      | some c =>
        let (kept, gone) := ps.shedTo f n (cs.erase c)
        (kept, c :: gone)

/-! ## Composite power and backoff (R56) -/

/-- The power units in effect of a set of carriers. -/
def PlanStore.power (ps : PlanStore) (cs : List CarrierId) : Nat := (cs.map fun c => ps.carriers[c].eff.power).sum

/-- The backoff test of R56 at a step. -/
def backoffFits (power pmax b : Nat) : Bool := power * stepT b ^ 2 ≤ pmax * 4096 ^ 2

/-- The smallest step that passes the backoff test, if one does. -/
def backoffSearch (power pmax : Nat) : Option Nat := (List.range 9).find? fun b => backoffFits power pmax b

/-- The backoff step: the smallest that passes, or 8 (R56). -/
def backoffStep (power pmax : Nat) : Nat := (backoffSearch power pmax).getD 8

/-! ## The record (R52, R67) -/

/-- The scaling factor of a carrier at a backoff step (R67). -/
def scalingFactor (mdl b : Nat) : Nat := mdl * stepT b / 4096

/-- The record of a remote whose link is UP at a format with a composite limit, from the lists its sectors call for. The
sleep order is not derived here (R71). -/
def PlanStore.recordFor (ps : PlanStore) (mode : HubMode) (f : Format) (pmax : Nat) (calls : List (List CarrierId))
    (sleep : Bool) : PlacementRecord :=
  let routed := ps.route mode calls
  let placed := (ps.shedTo f routed.length routed).1
  let b := backoffStep (ps.power placed) pmax
  { routed := routed
    routedUnits := ps.units f routed
    placed := placed
    units := ps.units f placed
    shed := (ps.shedTo f routed.length routed).2
    power := ps.power placed
    backoff := b
    overload := (backoffSearch (ps.power placed) pmax).isNone
    sleep := sleep
    factors := placed.map fun c => (c, scalingFactor ps.carriers[c].eff.mdl b) }

namespace State

/-- The format of a remote's link when the link is UP. -/
def upFormat (s : State) (r : RemoteId) : Option Format := if s.rl[r].state = .up then s.rl[r].format else none

/-- The record that R53 to R56 derive for a remote from the inputs in force; empty when its link is not UP. -/
def derive (s : State) (r : RemoteId) : PlacementRecord :=
  match s.upFormat r with
  | none => .empty
  | some f =>
    s.plan.recordFor s.mode.mode f s.rl[r].pmaxEff (s.plan.activeCalls r) (s.record r).sleep

/-- Recomputation of one remote's record (R57, R58). -/
def recompute (s : State) (r : RemoteId) : State := s.setRecord r (s.derive r)

/-- Recomputation of every remote's record. -/
def recomputeAll (s : State) : State := allRemotes.foldl recompute s

/-- Recomputation of the remotes whose routed set contains a carrier (R57). -/
def recomputeCarrier (s : State) (c : CarrierId) : State :=
  (allRemotes.filter fun r => (s.record r).routed.contains c).foldl recompute s

/-! ## Dark sectors (R63) and conditions -/

/-- The derivation of R63 with one remote's placed set taken as empty, if one is named. -/
def darkWithout (s : State) (gone : Option RemoteId) (o : OpId) (i : SectorIx) : Bool :=
  let b := (s.opPlan o).active
  s.plan.inService s.mode.mode b i &&
    !((b.members i).any fun r => gone ≠ some r && b.sectors[i].carriers.any fun c => (s.record r).placed.contains c)

/-- The derivation of R63. -/
def darkNow (s : State) (o : OpId) (i : SectorIx) : Bool := s.darkWithout none o i

/-- The darkening test of R62: the first sector, in order of operator and then index, that is in service and not dark
and that would be dark if the remote's placed set were empty. -/
def darkening (s : State) (r : RemoteId) : Option SectorId :=
  allSectors.find? fun x =>
    !s.darkNow (sectorOp x) (sectorIx x) && s.darkWithout (some r) (sectorOp x) (sectorIx x)

/-- The dark indication of a sector is derived again and its condition handed on (R63). -/
def settleDark (s : State) (x : SectorId) : State :=
  let now := s.darkNow (sectorOp x) (sectorIx x)
  { (s.hand ⟨.sectorDark, .sector x⟩ s.place.dark[x] now) with
    place := { s.place with dark := s.place.dark.set x now } }

/-- The CARRIER_SHED condition of a remote (R55). -/
def settleShed (s : State) (r : RemoteId) : State :=
  let now : Bool := (s.record r).shed ≠ []
  { (s.hand ⟨.carrierShed, .remote r⟩ s.place.shedCond[r] now) with
    place := { s.place with shedCond := s.place.shedCond.set r now } }

/-- The COMPOSITE_OVERLOAD condition of a remote (R56). -/
def settleOverload (s : State) (r : RemoteId) : State :=
  let now := (s.record r).overload
  { (s.hand ⟨.compositeOverload, .remote r⟩ s.place.overCond[r] now) with
    place := { s.place with overCond := s.place.overCond.set r now } }

/-- The conditions that follow from the placement records are brought up to date, in catalogue order. -/
def settleConditions (s : State) : State :=
  allRemotes.foldl settleOverload (allRemotes.foldl settleShed (allSectors.foldl settleDark s))

/-- A boundary is being taken and the records of the superframe that begins are not all formed yet. -/
def recordsPending (s : State) : Bool :=
  match s.boundary with
  | some b => !b.settled
  | none => false

/-- After a change of a record: between boundaries the conditions follow at once (R58); at a boundary they follow from
the records that govern the superframe beginning there, when all of them are formed (R57, R63). -/
def placementChanged (s : State) : State := if s.recordsPending then s else s.settleConditions

/-! ## Boundary work on placement -/

/-- The sleep order of a remote for the superframe that begins (R71). -/
def setSleep (s : State) (r : RemoteId) : State :=
  s.setRecord r { s.record r with
    sleep := s.mode.mode = .quiet && s.rl[r].state = .up && (s.record r).placed = [] }

/-- The gate of a carrier that is placed on a remote and was not placed in the link frame before starts CLOSED with hold
counter 0 (R59, R82). -/
def startGates (s : State) (r : RemoteId) : State :=
  ((s.record r).placed.filter fun c => !s.place.lastPlaced[r].contains c).foldl (fun s c => s.setGate r c ⟨false, 0⟩) s

/-- The work of a boundary that waits until every record of the new superframe is formed: dark indications and
conditions, gates of newly placed carriers, sleep orders (R57, R63, R71, R82). -/
def settleBoundary (s : State) : State :=
  match s.boundary with
  | none => s
  | some b =>
    if b.settled then s
    else
      { (allRemotes.foldl setSleep (allRemotes.foldl startGates s.settleConditions)) with
        boundary := some { b with settled := true } }

end State

/-! ## Trial placements (R61) and the fit test (R43) -/

/-- The answer of a trial placement. -/
structure Trial where
  units : Nat
  fits : Bool
  backoff : Nat
  deriving DecidableEq, Repr

namespace State

/-- A trial placement of remote r in sector t of operator o (R61), from the inputs in force. A remote whose link is not
UP does not fit. -/
def trial (s : State) (r : RemoteId) (o : OpId) (t : SectorIx) : Trial :=
  match s.upFormat r with
  | none => ⟨0, false, 0⟩
  | some f =>
    let routed := s.plan.route s.mode.mode (s.plan.callsWith r o (s.opPlan o).active.sectors[t].carriers)
    let units := s.plan.units f routed
    ⟨units, units ≤ linkUnits, backoffStep (s.plan.power routed) s.rl[r].pmaxEff⟩

/-- The move fits and does not raise backoff (R61, R122). -/
def trialPasses (s : State) (r : RemoteId) (o : OpId) (t : SectorIx) : Bool :=
  (s.trial r o t).fits && (s.trial r o t).backoff ≤ (s.record r).backoff

/-- The units that a remote would need with an operator's staged bank active (R43); `none` for a remote that is not
tested because its link is not UP. -/
def stagedUnits (s : State) (o : OpId) (r : RemoteId) : Option Nat :=
  (s.upFormat r).map fun f =>
    s.plan.units f (s.plan.route s.mode.mode (s.plan.callsWith r o ((s.opPlan o).staged.calls r)))

/-- The lowest-numbered remote that fails the fit test of R43, with the units it would need. -/
def fitFailure (s : State) (o : OpId) : Option (RemoteId × Nat) :=
  allRemotes.findSome? fun r =>
    match s.stagedUnits o r with
    | some u => if u ≤ linkUnits then none else some (r, u)
    | none => none

end State

end Sys2Proof.Machine
end

