-- ==== Sys2Proof/Machine/Combine.lean ====
section
/-! DEFINITION. The Uplink Combiner's blocks, gates and sums (chapter 4) and the Measurement Unit's counts of settled
blocks (section 5.2). -/

namespace Sys2Proof.Machine

/-! ## The gate (R81) -/

/-- What settling a block does to its gate. -/
structure GateStep where
  gate : Gate
  /-- The gate is OPEN after the update, so a taken block enters the sum. -/
  passes : Bool
  /-- The hold counter has passed the gate hold: the gate closes (GATE_HOLD_EXPIRY). -/
  expires : Bool
  deriving DecidableEq, Repr

/-- The update of a gate with a block level against gate level G and gate hold H (R81). A gate whose hold counter
passes H does not pass the block; the closing itself is the step GATE_HOLD_EXPIRY. -/
def Gate.update (g : Gate) (level gateLevel gateHold : Nat) : GateStep :=
  if gateLevel ≤ level then ⟨⟨true, 0⟩, true, false⟩
  else if g.isOpen then
    if g.counter + 1 ≤ gateHold then ⟨⟨true, g.counter + 1⟩, true, false⟩ else ⟨⟨true, g.counter + 1⟩, false, true⟩
  else ⟨⟨false, 0⟩, false, false⟩

/-! ## Weights and sums (R84 to R87) -/

/-- The effective uplink multiplier (R84). -/
def effectiveMultiplier (m g : Nat) : Nat := m * stepT g / 4096

/-- The products of a block with a weight added into an accumulator, value by value (R85). -/
def accumulate (w : Nat) : List IQ → List IQ → List IQ
  | [], xs => xs.map fun x => ⟨(w : Int) * x.i, (w : Int) * x.q⟩
  | a :: as, [] => a :: as
  | a :: as, x :: xs => ⟨a.i + (w : Int) * x.i, a.q + (w : Int) * x.q⟩ :: accumulate w as xs

/-- The sum scaled down by the headroom shift and rounded, before saturation (R86). -/
def scaleDown (h : Nat) (a : Int) : Int := (a + 2 ^ (11 + h)) / 2 ^ (12 + h)

/-- One output value (R86). -/
def outputValue (h : Nat) (a : Int) : Int := saturate 16 (scaleDown h a)

/-- Whether an output value was saturated, as a count (R87). -/
def saturated (h : Nat) (a : Int) : Nat := if outputValue h a = scaleDown h a then 0 else 1

/-- The output of a formed sum (R86, R87): zero with no contributor. -/
def UplinkSum.samples (q : UplinkSum) : List IQ :=
  if q.contributors = 0 then zeroBlock q.place.width
  else q.acc.map fun a => ⟨outputValue q.h a.i, outputValue q.h a.q⟩

/-- The saturations of a formed sum (R87): none with no contributor. -/
def UplinkSum.saturations (q : UplinkSum) : Nat :=
  if q.contributors = 0 then 0 else (q.acc.map fun a => saturated q.h a.i + saturated q.h a.q).sum

/-- The same sum: carrier and link frame. -/
def UplinkSum.is (q : UplinkSum) (label : Nat) (c : CarrierId) : Bool := q.label = label && q.carrier = c

/-! ## Held counts (R99) -/

/-- The counts held for the link frame that follows join the counts of the window that contains it (R99). -/
def Measurement.release (m : Measurement) : Measurement :=
  { m with
    activity := tab fun r => tab fun c => m.activity[r][c] + m.heldActivity[r][c]
    peak := tab fun r => max m.peak[r] m.heldPeak[r]
    heldActivity := Vector.replicate 24 (Vector.replicate 24 0)
    heldPeak := Vector.replicate 24 0 }

/-- The counts held for a link frame that does not follow, because the one in progress is cut short, are dropped (R26,
R99). -/
def Measurement.dropHeld (m : Measurement) : Measurement :=
  { m with heldActivity := Vector.replicate 24 (Vector.replicate 24 0), heldPeak := Vector.replicate 24 0 }

namespace State

/-! ## Forming sums -/

/-- Every sum with no block left to settle is formed (R78): its saturations are counted (R87, R88) and its output waits
for its link frame (R89). -/
def formReady (s : State) : State :=
  let ready := s.comb.sums.filter fun q => q.waiting.isEmpty
  { s with comb :=
    { s.comb with
      sums := s.comb.sums.filter fun q => !q.waiting.isEmpty
      sat := ready.foldl (fun v q => v.set q.sector (min (v[q.sector] + q.saturations) max16)) s.comb.sat
      outputs := s.comb.outputs ++
        (ready.filter fun q => !q.discard).map fun q => ⟨q.label, q.carrier, q.place, q.samples⟩ } }

/-! ## Counting in the Measurement Unit (R99, R101, R102) -/

/-- A settled block of the link frame in progress belongs to the link frame that follows, and so to the window that
contains that one (R99). -/
def heldOver (s : State) (q : UplinkSum) : Bool := q.label = s.tb.label

/-- A taken block is counted: activity at or above the carrier's activity level (R101), and the window peak (R102). -/
def measureBlock (s : State) (q : UplinkSum) (r : RemoteId) (level : Nat) : State :=
  let c := q.carrier
  let active := if q.levels.activity ≤ level then 1 else 0
  let m := s.meas
  if s.heldOver q then
    { s with meas :=
      { m with
        heldActivity := m.heldActivity.set r (m.heldActivity[r].set c (m.heldActivity[r][c] + active))
        heldPeak := m.heldPeak.set r (max m.heldPeak[r] level) } }
  else
    { s with meas :=
      { m with
        activity := m.activity.set r (m.activity[r].set c (m.activity[r][c] + active))
        peak := m.peak.set r (max m.peak[r] level) } }

/-! ## Settling (R77, R80, R81, R83) -/

/-- GATE_HOLD_EXPIRY: an open gate whose hold counter has passed the gate hold closes (R81). -/
def expireGate (s : State) (r : RemoteId) (c : CarrierId) : State := s.setGate r c ⟨false, 0⟩

/-- The expiry of one gate, if it is owed, comes before the next block of that gate. -/
def takeExpiry (s : State) (r : RemoteId) (c : CarrierId) : State :=
  if s.due.contains (.gateHoldExpiry r c) then (s.dropDue (.gateHoldExpiry r c)).expireGate r c else s

/-- A sum after the block of one of its expected remotes has been settled. -/
def settledSum (q : UplinkSum) (e : Expected) (passes : Bool) (block : Option (List IQ)) : UplinkSum :=
  let rest := { q with waiting := q.waiting.filter fun x => x.remote ≠ e.remote }
  match block with
  | some xs =>
    if passes then
      { rest with
        contributors := q.contributors + 1
        acc := accumulate (effectiveMultiplier e.m e.g) q.acc (expandBlock e.format xs) }
    else rest
  | none => rest

/-- Block n of a remote and carrier is settled, as taken with its received samples or as missing (R77). The block level is
that of the expanded block, 0 when it is missing (R80). A block that is expected by no sum in progress, or was settled
before, changes nothing. -/
def settleBlock (s : State) (label : Nat) (c : CarrierId) (r : RemoteId) (block : Option (List IQ)) : State :=
  match s.comb.sums.find? fun q => q.is label c && q.waiting.any fun e => e.remote = r with
  | none => s
  | some q =>
    match q.waiting.find? fun e => e.remote = r with
    | none => s
    | some e =>
      let s := s.takeExpiry r c
      let level := match block with
        | some xs => blockLevel (expandBlock e.format xs)
        | none => 0
      let s := match block with
        | some _ => s.measureBlock q r level
        | none => s.modRl r fun l => { l with missing := satInc max32 l.missing }
      let g := (s.gate r c).update level q.levels.gate q.levels.hold
      let s := s.setGate r c g.gate
      let s := if g.expires then s.owe [.gateHoldExpiry r c] else s
      let q' := settledSum q e g.passes block
      formReady { s with comb :=
        { s.comb with sums := s.comb.sums.map fun p => if p.is label c then q' else p } }

/-- The blocks not settled yet, as label, carrier and remote, in increasing label. -/
def unsettled (s : State) : List (Nat × CarrierId × RemoteId) :=
  s.comb.sums.flatMap fun q => q.waiting.map fun e => (q.label, q.carrier, e.remote)

/-- Settles blocks as missing. -/
def settleMissing (s : State) (blocks : List (Nat × CarrierId × RemoteId)) : State :=
  blocks.foldl (fun s (n, c, r) => s.settleBlock n c r none) s

/-- The block deadline of link frame n: every block of a link frame up to n that is not settled is missing (R78). -/
def deadline (s : State) (n : Nat) : State := s.settleMissing (s.unsettled.filter fun b => b.1 ≤ n)

/-- A frame on a remote link that answers a link frame after n, or the bad frame that would have answered n, settles the
remote's blocks up to n as missing (R77). -/
def settleUpTo (s : State) (r : RemoteId) (n : Nat) : State :=
  s.settleMissing (s.unsettled.filter fun b => b.2.2 = r && b.1 ≤ n)

/-- A remote's departure from UP withdraws it from the expected sets of the sums in progress (R91). -/
def withdraw (s : State) (r : RemoteId) : State :=
  formReady { s with comb :=
    { s.comb with sums := s.comb.sums.map fun q => { q with waiting := q.waiting.filter fun e => e.remote ≠ r } } }

/-- The blocks of a received payload for link frame n are taken, or settled missing where the payload has no valid
container (R4, R77). -/
def takeBlocks (s : State) (r : RemoteId) (n : Nat) (payload : List Byte) : State :=
  ((s.comb.sums.filter fun q => q.label = n && q.waiting.any fun e => e.remote = r)).foldl
    (fun s q =>
      match q.waiting.find? fun e => e.remote = r with
      | some e => s.settleBlock n q.carrier r (blockFor e.format q.place.width q.carrier payload)
      | none => s) s

/-! ## Starting and ending sums -/

/-- The expected set of a sum for the link frame that starts: the members of the sector that have the carrier placed
(R76), with the weights in effect (R84). -/
def expectedFor (s : State) (b : Bank) (i : SectorIx) (c : CarrierId) : List Expected :=
  (b.members i).filterMap fun r =>
    if (s.record r).placed.contains c then
      (s.upFormat r).map fun f => ⟨r, f, s.rl[r].mEff, s.comb.guard[r]⟩
    else none

/-- The sum of a carrier for the link frame in progress; none for a carrier that is UNUSED or listed in no sector (R89). -/
def sumFor (s : State) (lf : Nat) (c : CarrierId) : Option UplinkSum :=
  match (s.carrier c).place with
  | none => none
  | some p =>
    let b := (s.opPlan p.op).active
    (b.sectorOfCarrier c).map fun i =>
      { label := s.tb.label
        count := s.tb.count
        lf := lf
        carrier := c
        sector := sectorOf p.op i
        place := p
        h := b.sectors[i].h
        levels := (s.carrier c).eff
        waiting := s.expectedFor b i c
        contributors := 0
        acc := []
        discard := false }

/-- The sums of the link frame that starts; those that expect no block are formed at once (R78). -/
def startSums (s : State) (lf : Nat) : State :=
  formReady { s with comb := { s.comb with sums := s.comb.sums ++ allCarriers.filterMap (s.sumFor lf) } }

/-- A link frame cut short by relocking yields no block, no sum and no source block (R26, R65, R89, R99). What its blocks
have already done to gates, missing-block counters and saturation counts stays: the model's choice
(notes/assumptions/7.md). -/
def cutFrame (s : State) : State :=
  { s with
    meas := s.meas.dropHeld
    comb := { s.comb with
      sums := s.comb.sums.filter fun q => q.label ≠ s.tb.label
      outputs := s.comb.outputs.filter fun x => x.label ≠ s.tb.label }
    dist := { s.dist with source := [] } }

/-- A carrier whose identity changed has its outputs discarded (R89). -/
def dropOutputs (s : State) (c : CarrierId) : State :=
  { s with comb := { s.comb with
      sums := s.comb.sums.map fun q => if q.carrier = c then { q with discard := true } else q
      outputs := s.comb.outputs.filter fun x => x.carrier ≠ c } }

end State

end Sys2Proof.Machine
end

