-- ==== Sys2Proof/Machine/Links.lean ====
section
/-! DEFINITION. The states of the remote links, the operator links, the trunk and the Timebase (sections 1.3 to 1.8):
what entering and leaving each state does. -/

namespace Sys2Proof.Machine

namespace State

/-! ## Remote links: leaving UP, restart, OFF, ISOLATED -/

/-- The conditions of the four far-end flags of a remote end (R12). -/
def clearFar (s : State) (r : RemoteId) : State :=
  [Kind.farPa, .farVswr, .farThermal, .farRxloss].foldl (fun s k => s.clear ⟨k, .remote r⟩) s

/-- The fields that leaving UP sets in the link record (R12). -/
def leftUp (l : RemoteLink) : RemoteLink :=
  { l with downLatch := true, flags := Vector.replicate 4 ⟨false, 0⟩, echoRun := 0, sleepAck := false }

/-- A remote's link leaves UP for a new state (R12, R58, R91): the leave-UP effects, its blocks in progress withdrawn,
its placement record emptied. -/
def leaveUp (s : State) (r : RemoteId) (target : RemoteState) : State :=
  let s := (s.clearFar r).modRl r fun l => { leftUp l with state := target }
  ((s.withdraw r).recompute r).placementChanged

/-- A remote's link goes from its state to another one, with the leave-UP effects if it was UP and the end of
LINK_MISMATCH if it was in MISMATCH (R9, R12). -/
def moveLink (s : State) (r : RemoteId) (target : RemoteState) : State :=
  match s.rl[r].state with
  | .up => s.leaveUp r target
  | .mismatch => (s.modRl r fun l => { l with state := target }).clear ⟨.linkMismatch, .remote r⟩
  | _ => s.modRl r fun l => { l with state := target }

/-- The fields that a link restart clears (R12). -/
def restarted (l : RemoteLink) : RemoteLink :=
  { l with
    phase := .none
    chosen := none
    negTimer := 0
    holdTimer := 0
    format := none
    capability := none
    seekRun := 0 }

/-- A link restart that ends in the given state: SEEK for a restart (R12), ISOLATED for the entry into isolation
(R13). -/
def restartInto (s : State) (r : RemoteId) (target : RemoteState) : State :=
  ((s.moveLink r target).modRl r restarted).closeGates r

/-- A link restart (R12). -/
def restart (s : State) (r : RemoteId) : State := s.restartInto r .seek

/-- LINK SET with enable off on a link that is not OFF (R18), less the isolation list. -/
def disable (s : State) (r : RemoteId) : State :=
  let s := ((s.moveLink r .off).modRl r fun l =>
    { l with phase := .none, chosen := none, format := none, capability := none, lostCond := false }).closeGates r
  s.clear ⟨.linkLost, .remote r⟩

/-- The condition LINK_LOST of a remote begins (R10). -/
def beginLost (s : State) (r : RemoteId) : State := (s.modRl r fun l => { l with lostCond := true }).raise ⟨.linkLost, .remote r⟩

/-- The condition LINK_LOST of a remote ends (R11). -/
def endLost (s : State) (r : RemoteId) : State :=
  (s.modRl r fun l => { l with lostCond := false }).clear ⟨.linkLost, .remote r⟩

/-! ## The steps of a remote link -/

/-- SEEK_RUN_COMPLETE: a run of 4 good frames in SEEK (R6). -/
def seekRunComplete (s : State) (r : RemoteId) : State :=
  if s.rl[r].state = .seek ∧ seekRunLimit ≤ s.rl[r].seekRun then
    s.modRl r fun l => { l with state := .negotiate, phase := .awaitCapability, negTimer := 0, badRun := 0 }
  else s

/-- FAR_FLAG_CHANGE: a flag's run count has reached 3 in UP (R14). -/
def farFlagChange (s : State) (r : RemoteId) (flag : Fin 4) : State :=
  let f := s.rl[r].flags[flag]
  if s.rl[r].state = .up ∧ farRunLimit ≤ f.run then
    let s := s.modRl r fun l => { l with flags := l.flags.set flag f.change }
    if f.change.present then s.raise ⟨farKind flag, .remote r⟩ else s.clear ⟨farKind flag, .remote r⟩
  else s

/-- ECHO_FAILURE: the echo run has reached 3 in UP (R14). -/
def echoFailure (s : State) (r : RemoteId) : State :=
  if s.rl[r].state = .up ∧ farRunLimit ≤ s.rl[r].echoRun then s.restart r else s

/-- A negotiation fails (R8): the link restarts and the failure is counted. -/
def failNegotiation (s : State) (r : RemoteId) : State :=
  (s.modRl r fun l => { l with negFail := satInc max32 l.negFail }).restart r

/-- NEGOTIATION_TIMEOUT: the negotiation timer has reached 10 (R8). -/
def negotiationTimeout (s : State) (r : RemoteId) : State :=
  if s.rl[r].state = .negotiate ∧ negotiationLimit ≤ s.rl[r].negTimer then s.failNegotiation r else s

/-- NEGOTIATE_ALIGNMENT_LOSS: a bad-frame run of 8 in NEGOTIATE (R8). -/
def negotiateAlignmentLoss (s : State) (r : RemoteId) : State :=
  if s.rl[r].state = .negotiate ∧ badRunLimit ≤ s.rl[r].badRun then s.failNegotiation r else s

/-- LINK_ENTERS_UP: a CONFIRMED negotiation at a boundary (R8). The remote's record is derived (R57). -/
def linkEntersUp (s : State) (r : RemoteId) : State :=
  if s.rl[r].state = .negotiate ∧ s.rl[r].phase = .confirmed then
    let s := s.modRl r fun l =>
      { l with
        state := .up
        phase := .none
        format := l.chosen
        chosen := none
        flags := Vector.replicate 4 ⟨false, 0⟩
        echoRun := 0
        badRun := 0 }
    ((s.endLost r).recompute r).placementChanged
  else s

/-- LINK_LOST_ENTRY: a bad-frame run of 8 in UP (R10). -/
def linkLostEntry (s : State) (r : RemoteId) : State :=
  if s.rl[r].state = .up ∧ badRunLimit ≤ s.rl[r].badRun then
    let s := s.leaveUp r .lost
    (s.modRl r fun l => { l with lostEntries := satInc max32 l.lostEntries, holdTimer := 0 }).beginLost r
  else s

/-- LOST_HOLD_END: the hold timer of a LOST link has reached 50 boundaries (R11). -/
def lostHoldEnd (s : State) (r : RemoteId) : State :=
  if s.rl[r].state = .lost ∧ lostHoldLimit ≤ s.rl[r].holdTimer then s.restart r else s

/-- LINK_SETTINGS_TAKE_EFFECT: the uplink multiplier and the composite limit of a LINK SET take effect at a boundary; a
changed limit is handed to the Placement Unit (R20, R57). -/
def linkSettingsTakeEffect (s : State) (r : RemoteId) : State :=
  let changed := s.rl[r].pmaxEff ≠ s.rl[r].pmax
  let s := s.modRl r fun l => { l with mEff := l.m, pmaxEff := l.pmax }
  if changed then (s.recompute r).placementChanged else s

/-! ## The Timebase (R25 to R27) -/

/-- TIMING_HOLDOVER holds in HOLDOVER and RELOCKING (R25). -/
def timingFault : TimebaseState → Bool
  | .holdover => true
  | .relocking => true
  | .locked => false
  | .free => false

/-- The Timebase takes a state; TIMING_HOLDOVER begins or ends with it (R25, R156). -/
def setTimebase (s : State) (t : TimebaseState) : State :=
  { s with tb := { s.tb with state := t } }.hand ⟨.timingHoldover, .device⟩ (timingFault s.tb.state) (timingFault t)

/-- The link that a reference selection names. -/
def referenceLink : Reference → Option TermLinkId
  | .trunk => some .trunk
  | .op o => some (.op o)
  | .free => none

/-- Whether a link is the selected reference. -/
def isReference (s : State) (l : TermLinkId) : Bool := referenceLink s.tb.reference = some l

/-! ## Operator links and the trunk (R22) -/

/-- The loss condition of an operator link or the trunk (R22). -/
def lossKey : TermLinkId → Key
  | .op o => ⟨.operatorLinkLost, .operator o⟩
  | .trunk => ⟨.trunkLinkLost, .device⟩

/-- LINK_SEEK_TO_UP: a run of 4 good frames in SEEK (R22). The loss condition ends; a reference that comes UP puts the
Timebase into RELOCKING (R25). -/
def linkSeekToUp (s : State) (l : TermLinkId) : State :=
  if (s.term l).state = .seek ∧ seekRunLimit ≤ (s.term l).seekRun then
    let s := (s.modTerm l fun t => { t with state := .up, badRun := 0, beenUp := true, lossCond := false }).clear
      (lossKey l)
    if s.isReference l then s.setTimebase .relocking else s
  else s

/-- LINK_LOST_HOLD_END: the hold of 50 boundaries of an operator link or the trunk has ended (R22). -/
def linkLostHoldEnd (s : State) (l : TermLinkId) : State :=
  if (s.term l).state = .lost ∧ lostHoldLimit ≤ (s.term l).holdTimer then
    s.modTerm l fun t => { t with state := .seek, seekRun := 0 }
  else s

/-- Trunk loss (R172, R176, R191): the message in assembly is discarded and counted, the due messages and the ALERT are
discarded, the alert pending flag is set again if alerts are enabled and an ALERT was in the slot, and the service
channel loses its scope. -/
def trunkLoss (s : State) : State :=
  let g := s.mgmt
  { s with
    mgmt :=
      { g with
        assembly := none
        discards := if g.assembly.isSome then satInc max32 g.discards else g.discards
        due := []
        alert := none
        tx := none
        scope := none }
    sup := if g.alert.isSome then { s.sup with pending := s.sup.pending || s.sup.enable } else s.sup }

/-- LINK_UP_TO_LOST: 8 consecutive bad frames in UP (R22). The loss condition begins; the loss of the reference puts the
Timebase into HOLDOVER (R25); the loss of the trunk has the effects of R191. -/
def linkUpToLost (s : State) (l : TermLinkId) : State :=
  if (s.term l).state = .up ∧ badRunLimit ≤ (s.term l).badRun then
    let s := (s.modTerm l fun t =>
      { t with state := .lost, holdTimer := 0, lostEntries := satInc max32 t.lostEntries, lossCond := true }).raise
        (lossKey l)
    let s := if s.isReference l then s.setTimebase .holdover else s
    match l with
    | .trunk => s.trunkLoss
    | .op _ => s
  else s

end State

end Sys2Proof.Machine
end

