-- ==== Sys2Proof/Machine/Channels.lean ====
section
/-! DEFINITION. The Management Channel Unit's messages, return queue and admission (sections 9.1 to 9.3, R176 to R183,
R185, R200, R201). -/

namespace Sys2Proof.Machine

/-! ## The check value (R177) -/

/-- One bit enters the check register. -/
def crcBit (r : BitVec 16) (b : Bool) : BitVec 16 :=
  let out := r.getLsbD 15 ^^ b
  if out then (r <<< 1) ^^^ 0x1021 else r <<< 1

/-- One byte enters the check register, most significant bit first. -/
def crcByte (r : BitVec 16) (b : Byte) : BitVec 16 :=
  [7, 6, 5, 4, 3, 2, 1, 0].foldl (fun r i => crcBit r (b.getLsbD i)) r

/-- The check value of bytes: polynomial x^16 + x^12 + x^5 + 1, all bits set at the start, not inverted at the end. -/
def crc (bs : List Byte) : BitVec 16 := bs.foldl crcByte 0xFFFF

/-- A message with its check value, high byte first. -/
def withCheck (bs : List Byte) : List Byte := bs ++ u16 (crc bs).toNat

/-! ## Outbound messages (section 10.2) -/

/-- Result codes (section 10.5). -/
def Result.code : Result → Byte
  | .done => 0x00
  | .aborted => 0x01
  | .busy => 0x02
  | .unknownCommand => 0x03
  | .badParameter => 0x04
  | .outOfScope => 0x05
  | .barred => 0x06
  | .wrongMode => 0x07
  | .held => 0x09
  | .switchPending => 0x0A
  | .noFit => 0x0B
  | .wouldDarken => 0x0C
  | .listFull => 0x0D
  | .stale => 0x0E
  | .nothingPending => 0x0F
  | .inUse => 0x10
  | .isolated => 0x11

/-- A response as sent (R200). -/
def Response.bytes (x : Response) : List Byte :=
  withCheck ([0x01, x.channel, x.tag, x.code, x.result.code, flagByte x.clamped, byte x.data.length] ++ x.data)

/-- An ALERT as sent (R201). -/
def Alert.bytes (x : Alert) : List Byte :=
  withCheck
    (([0x02] : List Byte) ++ u16 x.seq.toNat ++ [byte x.critical, byte x.major, byte x.minor, byte x.cleared] ++
      [byte ((if x.overflow then 1 else 0) + (if x.advice[0] then 2 else 0) + (if x.advice[1] then 4 else 0) +
        (if x.advice[2] then 8 else 0) + (if x.advice[3] then 16 else 0) + (if x.quiet then 32 else 0))])

/-! ## Channels and places -/

/-- The channel byte of a header. -/
def Channel.code : Channel → Byte
  | .control => 0x01
  | .service => 0x02

/-- The channel that a channel byte names. -/
def channelOfCode (b : Byte) : Option Channel :=
  if b = 0x01 then some .control else if b = 0x02 then some .service else none

/-- A channel as the origin of an armed bank. -/
def Channel.origin : Channel → Origin
  | .control => .control
  | .service => .service

/-- The command code of a timed command. -/
def Timed.code : Timed → Byte
  | .planCommit _ => 0x35
  | .balanceAccept _ _ => 0x38
  | .modeSet => 0x17
  | .isolate _ => 0x18
  | .warm => 0x1E
  | .cold => 0x1F

/-- The command in progress on a channel. -/
def Management.busy (g : Management) : Channel → Option InProgress
  | .control => g.control
  | .service => g.service

/-- A command in progress holds a reserved place, but for COLD, whose response has filled its place (R180). -/
def reserves : Option InProgress → Nat
  | none => 0
  | some p => if p.cmd = .cold then 0 else 1

/-- The reserved places. -/
def Management.reserved (g : Management) : Nat := reserves g.control + reserves g.service

/-- The free places of the return queue (R180). -/
def Management.free (g : Management) : Nat := returnPlaces - (g.due.length + g.reserved)

/-- At most eight places are taken. -/
def Management.wf (g : Management) : Bool := g.due.length + g.reserved ≤ returnPlaces

/-- The data that carries an advice record (R200). -/
def Advice.bytes (a : Advice) : List Byte :=
  u32 a.closing.toNat ++ [byte a.remote.val, byte a.fromSector.val, byte a.toSector.val] ++ u16 a.share ++
    u16 a.fromLoad ++ u16 a.toLoad

namespace State

/-- A response becomes due. While the trunk is not UP it is discarded at once (R191). -/
def respond (s : State) (x : Response) : State :=
  if s.trunk.state = .up then { s with mgmt := { s.mgmt with due := s.mgmt.due ++ [x] } } else s

/-- Sets the command in progress on a channel. -/
def setBusy (s : State) (ch : Channel) (p : Option InProgress) : State :=
  match ch with
  | .control => { s with mgmt := { s.mgmt with control := p } }
  | .service => { s with mgmt := { s.mgmt with service := p } }

/-- The command in progress on a channel completes: the channel becomes IDLE and the response fills the reserved place
(R180, R182). COLD does not complete so: its response has been due since it was taken (R194). -/
def complete (s : State) (ch : Channel) (result : Result) (clamped : Bool) (data : List Byte) : State :=
  match s.mgmt.busy ch with
  | none => s
  | some p =>
    if p.cmd = .cold then s
    else (s.setBusy ch none).respond ⟨ch.code, p.tag, p.cmd.code, result, clamped, data, false⟩

/-- The service channel loses its scope (R188). -/
def dropScope (s : State) : State := { s with mgmt := { s.mgmt with scope := none } }

end State

/-! ## Admission (R179) -/

/-- The verdict of the scope test (R185, R199). -/
inductive ScopeVerdict where
  | taken | outOfScope | badParameter
  deriving DecidableEq, Repr

/-- What a command's own rule decides: an answer at once, a timed command in progress, or COLD, which does both
(R180, R182, R194). -/
inductive Answer where
  | now (result : Result) (clamped : Bool) (data : List Byte) (s : State)
  | later (cmd : Timed) (s : State)
  | cold (s : State)

/-- A refusal: it changes nothing and carries no data (R184). -/
def refuse (result : Result) (s : State) : Answer := .now result false [] s

/-- DONE without data. -/
def answerDone (clamped : Bool) (s : State) : Answer := .now .done clamped [] s

namespace State

/-- The answer of a command's own rule is carried out on its channel: its response fills the place the request claimed,
or the place stays reserved and the channel is BUSY (R180). -/
def carryOut (ch : Channel) (tag code : Byte) : Answer → State
  | .now result clamped data s => s.respond ⟨ch.code, tag, code, result, clamped, data, false⟩
  | .later cmd s => s.setBusy ch (some ⟨tag, cmd⟩)
  | .cold s => (s.respond ⟨ch.code, tag, code, .done, false, [], true⟩).setBusy ch (some ⟨tag, .cold⟩)

/-- A request passes the tests of R179 in order; the first that decides it ends its admission. -/
def request (s : State) (code : Byte) (scope : Channel → List Byte → State → ScopeVerdict)
    (body : Channel → List Byte → State → Answer) (ch tag : Byte) (params : List Byte) : State :=
  if s.mgmt.free = 0 then { s with mgmt := { s.mgmt with dropped := satInc max32 s.mgmt.dropped } }
  else
    let answer := fun (result : Result) => s.respond ⟨ch, tag, code, result, false, [], false⟩
    match channelOfCode ch with
    | none => answer .badParameter
    | some c =>
      if c = .service ∧ s.mgmt.barred then answer .barred
      else if (s.mgmt.busy c).isSome ∧ code ≠ 0x7F then answer .busy
      else
        match scope c params s with
        | .outOfScope => answer .outOfScope
        | .badParameter => answer .badParameter
        | .taken => carryOut c tag code (body c params s)

/-! ## Message assembly (R176, R177) -/

/-- One message is discarded and counted. -/
def discard (s : State) : State :=
  { s with mgmt := { s.mgmt with assembly := none, discards := satInc max32 s.mgmt.discards } }

/-- A message in assembly is discarded as cut off and counted; nothing happens when there is none. -/
def cutOff (s : State) : State := if s.mgmt.assembly.isSome then s.discard else s

/-- The bytes of a message in assembly are judged: oversized once the whole header is there, complete when the stated
length has arrived, and then taken if its check value agrees (R176, R177). The request taken is owed as the command that
its code names. -/
def assemble (s : State) (bytes : List Byte) : State :=
  if bytes.length < 4 then { s with mgmt := { s.mgmt with assembly := some bytes } }
  else
    let len := (bytes.getD 3 0).toNat
    if 256 < len + 6 then s.discard
    else if bytes.length < len + 6 then { s with mgmt := { s.mgmt with assembly := some bytes } }
    else
      let checked := bytes.take (len + 4)
      if (crc checked).toNat = unsigned ((bytes.drop (len + 4)).take 2) then
        { s with mgmt := { s.mgmt with assembly := none } }.owe
          [decodeRequest (bytes.getD 2 0) (bytes.getD 0 0) (bytes.getD 1 0) ((bytes.drop 4).take len)]
      else s.discard

/-- A good word is delivered to the message assembly (R176, R196). -/
def deliver (s : State) (w : Word) : State :=
  if w.type = typeMgmtStart then s.cutOff.assemble w.payload
  else if w.type = typeMgmtCont then
    match s.mgmt.assembly with
    | some bytes => s.assemble (bytes ++ w.payload)
    | none => s
  else s.cutOff

end State

/-! ## Sending (R178, R181) -/

/-- The number of bytes of the message in transmission that have been sent. -/
def Transmission.sent : Transmission → Nat
  | .response n => n
  | .alert n => n

/-- The bytes of the message in transmission. -/
def Management.sending (g : Management) : Transmission → List Byte
  | .response _ => (g.due.head?.map Response.bytes).getD []
  | .alert _ => (g.alert.map Alert.bytes).getD []

/-- The arbiter of the return queue (R181): a message in transmission goes on; otherwise the response that became due
first begins, otherwise the ALERT. -/
def Management.arbitrate (g : Management) : Option Transmission :=
  match g.tx with
  | some t => some t
  | none => if g.due ≠ [] then some (.response 0) else if g.alert.isSome then some (.alert 0) else none

/-- Ten more bytes of a message have been sent; with its last word its place, or the alert slot, is freed (R178). -/
def Management.advance (g : Management) (t : Transmission) : Management :=
  if t.sent + 10 < (g.sending t).length then
    { g with tx := some (match t with
        | .response n => .response (n + 10)
        | .alert n => .alert (n + 10)) }
  else
    match t with
    | .response _ => { g with tx := none, due := g.due.tail }
    | .alert _ => { g with tx := none, alert := none }

/-- The trunk's outbound word type and payload for a link frame, and the return queue after it (R1, R178, R181). -/
def Management.outbound (g : Management) (up : Bool) : Byte × List Byte × Management :=
  if up then
    match g.arbitrate with
    | none => (typeIdle, [], g)
    | some t =>
      (if t.sent = 0 then typeMgmtStart else typeMgmtCont, ((g.sending t).drop t.sent).take 10, g.advance t)
  else (typeIdle, [], g)

end Sys2Proof.Machine
end

