-- ==== Sys2Proof/Machine/Frames.lean ====
section
/-! DEFINITION. Link frames as received and as transmitted (R1 to R10, R14, R22, R24, R65, R66, R89, R196, R197). -/

namespace Sys2Proof.Machine

/-! ## Good and bad frames (R2, R6, R196) -/

/-- The link-frame number that succeeds another in a numbering that wraps from 79 to 0. -/
def wrapNext (lf : Nat) : Nat := (lf + 1) % 80

/-- The hub link frame among the last 80 sent that bears a superframe low byte and link-frame number (R2, R196). -/
def answered (h : List HubFrame) (low : Byte) (lf : Nat) : Option HubFrame :=
  h.find? fun f => lowByte f.count = low && f.lf = lf

/-- The successor of a good word's number in the sequence the hub transmitted (R2): that of the next frame sent; 0 when the
superframe has ended and none has been sent since (R26); and counted up while the sequence does not tell. -/
def Timebase.successor (tb : Timebase) (w : Word) : Nat :=
  match answered tb.history w.low w.lf with
  | none => wrapNext w.lf
  | some f =>
    match tb.history.find? fun g => g.label = f.label + 1 with
    | some g => g.lf
    | none => if tb.lf = none then 0 else wrapNext w.lf

/-- A good word as the link record keeps it (R2). -/
def Timebase.goodFrame (tb : Timebase) (w : Word) : GoodFrame where
  label := (answered tb.history w.low w.lf).map (·.label)
  successor := tb.successor w

/-- A parsed word is good on a remote link when its number succeeds that of the last good frame; the first frame of a
run in SEEK, and the first good frame on a link, follow none (R2, R6). -/
def followsRemote (l : RemoteLink) (w : Word) : Bool :=
  match l.lastGood with
  | none => true
  | some g => (l.state = .seek && l.seekRun = 0) || w.lf = g.successor

/-- A parsed word is good on an operator link or the trunk when its number succeeds the last good one in the far end's
own numbering (R2, R22). -/
def followsTerm (t : TermLink) (w : Word) : Bool :=
  match t.lastGood with
  | none => true
  | some lf => (t.state = .seek && t.seekRun = 0) || w.lf = wrapNext lf

namespace State

/-! ## Remote links: words (R7, R8, R14, R197) -/

/-- A CAPABILITY word in AWAIT_CAPABILITY (R7, R197). -/
def capabilityWord (s : State) (r : RemoteId) (w : Word) : State :=
  let cap : Capability :=
    { formats := formatSetOf (w.payload.getD 0 0)
      serial := BitVec.ofNat 32 (unsigned ((w.payload.drop 1).take 4))
      hint := clamp 1 4000 (unsigned ((w.payload.drop 5).take 2)) }
  match cap.formats.choose s.rl[r].offered with
  | some f => s.modRl r fun l => { l with capability := some cap, phase := .ordered, chosen := some f }
  | none =>
    (s.modRl r fun l => { l with capability := some cap, state := .mismatch, phase := .none, chosen := none }).raise
      ⟨.linkMismatch, .remote r⟩

/-- A word received in link frame 0 in NEGOTIATE (R7, R8). -/
def negotiateWord (s : State) (r : RemoteId) (w : Word) : State :=
  match s.rl[r].phase with
  | .awaitCapability => if w.type = typeCapability then s.capabilityWord r w else s
  | .ordered =>
    if w.type = typeStatus ∧ s.rl[r].chosen ≠ none ∧ formatOfCode (w.payload.getD 2 0) = s.rl[r].chosen then
      s.modRl r fun l => { l with phase := .confirmed }
    else s
  | _ => s

/-- The filters of a link record after a STATUS word (R14, R197). -/
def statusRecord (l : RemoteLink) (w : Word) : RemoteLink :=
  { l with
    flags := tab fun i => l.flags[i].filter ((w.payload.getD 0 0).getLsbD i.val)
    sleepAck := w.payload.getD 1 0 ≠ 0
    echoRun :=
      if l.format ≠ none ∧ formatOfCode (w.payload.getD 2 0) = l.format then 0 else min (l.echoRun + 1) farRunLimit }

/-- A STATUS word received in link frame 0 in UP (R14). The flags whose run count reaches 3, and an echo run that reaches
3, are owed as FAR_FLAG_CHANGE and ECHO_FAILURE. -/
def statusWord (s : State) (r : RemoteId) (w : Word) : State :=
  let l := statusRecord s.rl[r] w
  (s.modRl r fun _ => l).owe
    (((List.finRange 4).filter fun i => farRunLimit ≤ l.flags[i].run).map (fun i => Instr.farFlagChange r i) ++
      if farRunLimit ≤ l.echoRun then [.echoFailure r] else [])

/-! ## Remote links: frames -/

/-- The frame that was due on a remote link has come, or its period has passed: the next one answers the following hub
link frame (R10). -/
def countAnswer (s : State) (r : RemoteId) : State :=
  if s.rl[r].nextAnswer ≤ s.tb.label then s.modRl r fun l => { l with nextAnswer := l.nextAnswer + 1 } else s

/-- A good frame that answers a hub link frame, in UP: earlier blocks that have not come are missing, a STATUS word in link
frame 0 is applied, and the containers are unpacked (R4, R14, R77). -/
def upAnswer (s : State) (r : RemoteId) (w : Word) (f : HubFrame) (payload : List Byte) : State :=
  let s := if f.label = 0 then s else s.settleUpTo r (f.label - 1)
  let s := if w.lf = 0 ∧ w.type = typeStatus then s.statusWord r w else s
  s.takeBlocks r f.label payload

/-- A good frame on a remote link (R6 to R10, R13, R14, R16). -/
def remoteGood (s : State) (r : RemoteId) (w : Word) (payload : List Byte) : State :=
  let before := s.rl[r]
  let s := s.modRl r fun l =>
    { l with
      framesRx := satInc max32 l.framesRx
      lastGood := some (s.tb.goodFrame w)
      seekRun := if l.state = .seek then l.seekRun + 1 else l.seekRun
      badRun := if l.state = .negotiate ∨ l.state = .up then 0 else l.badRun }
  let s := if before.state = .seek ∧ seekRunLimit ≤ before.seekRun + 1 then s.owe [.seekRunComplete r] else s
  match answered s.tb.history w.low w.lf with
  | none => s.countAnswer r
  | some f =>
    let s := match before.state with
      | .negotiate => if w.lf = 0 then s.negotiateWord r w else s
      | .up => s.upAnswer r w f payload
      | _ => s
    s.modRl r fun l => { l with nextAnswer := f.label + 1 }

/-- A bad frame, or a link-frame period without a frame, on a remote link (R2, R6, R8 to R10, R13, R16). -/
def remoteBad (s : State) (r : RemoteId) : State :=
  let n := s.rl[r].nextAnswer
  match s.rl[r].state with
  | .off => s
  | .seek => (s.modRl r fun l => { l with seekRun := 0 }).countAnswer r
  | .lost => s.countAnswer r
  | .mismatch => (s.modRl r fun l => { l with alignErr := satInc max32 l.alignErr }).countAnswer r
  | .isolated => (s.modRl r fun l => { l with alignErr := satInc max32 l.alignErr }).countAnswer r
  | .negotiate =>
    let run := min (s.rl[r].badRun + 1) badRunLimit
    let s := s.modRl r fun l => { l with alignErr := satInc max32 l.alignErr, badRun := run }
    (if badRunLimit ≤ run then s.owe [.negotiateAlignmentLoss r] else s).countAnswer r
  | .up =>
    let run := min (s.rl[r].badRun + 1) badRunLimit
    let s := s.modRl r fun l => { l with alignErr := satInc max32 l.alignErr, badRun := run }
    let s := if n ≤ s.tb.label then s.settleUpTo r n else s
    (if badRunLimit ≤ run then s.owe [.linkLostEntry r] else s).countAnswer r

/-- REMOTE_FRAME_RECEIVED (R2): a frame is classed and applied in the link's state; a link in OFF accepts nothing. -/
def remoteFrame (s : State) (r : RemoteId) (f : RemoteFrame) : State :=
  if s.rl[r].state = .off then s
  else
    match parseWord f.word with
    | some w => if followsRemote s.rl[r] w then s.remoteGood r w f.payload else s.remoteBad r
    | none => s.remoteBad r

/-! ## Operator links and the trunk: frames (R5, R22, R24 to R26) -/

/-- A good frame of an operator link or the trunk in its link record (R22). -/
def termGood (s : State) (l : TermLinkId) (w : Word) : State :=
  let before := s.term l
  let s := s.modTerm l fun t =>
    { t with
      framesRx := satInc max32 t.framesRx
      lastGood := some w.lf
      seekRun := if t.state = .seek then t.seekRun + 1 else t.seekRun
      badRun := if t.state = .up then 0 else t.badRun }
  if before.state = .seek ∧ seekRunLimit ≤ before.seekRun + 1 then s.owe [.linkSeekToUp l] else s

/-- A bad frame, or a period without a frame, of an operator link or the trunk (R2, R22). On the trunk it breaks the
inbound stream (R24, R176). A bad frame of an operator link takes back no block: where it and a good frame are retimed to
the same hub link frame, which the spec does not rule on, the good frame's blocks stay (DESIGN CHOICE,
notes/assumptions/30.md). -/
def termBad (s : State) (l : TermLinkId) : State :=
  match (s.term l).state with
  | .seek => s.modTerm l fun t => { t with seekRun := 0 }
  | .lost => s
  | .up =>
    let run := min ((s.term l).badRun + 1) badRunLimit
    let s := s.modTerm l fun t => { t with alignErr := satInc max32 t.alignErr, badRun := run }
    let s := match l with
      | .trunk => s.cutOff
      | .op _ => s
    if badRunLimit ≤ run then s.owe [.linkUpToLost l] else s

/-- What the start of a good link frame 0 of the reference link means to the Timebase (R25, R26). -/
def referenceStart (s : State) (l : TermLinkId) (w : Word) (atBoundary : Bool) : State :=
  if s.isReference l ∧ (s.term l).state = .up ∧ w.lf = 0 then
    match s.tb.state with
    | .locked => if atBoundary then s else s.setTimebase .relocking
    | .relocking => s.owe [.timebaseRelock atBoundary]
    | _ => s
  else s

/-- The start of a received frame at the boundary being taken is a part of that boundary: a relock that it owes stands before
the steps of the boundary that are still owed, so that TIMING_HOLDOVER has ended when a window end there makes its resweep
(R26, R161). A frame that is taken when the boundary is over comes after its window end (DESIGN CHOICE,
notes/assumptions/37.md). -/
def startAtBoundary (s : State) (l : TermLinkId) (f : TermFrame) : State :=
  if f.atBoundary && s.boundary.isSome then
    match parseWord f.word with
    | some w => if followsTerm (s.term l) w then s.referenceStart l w true else s
    | none => s
  else s

/-- The blocks that a good operator frame brings for the operator's DEFINED carriers; a later frame retimed to the same
hub link frame replaces an earlier one (R5, R65). -/
def takeSlots (s : State) (o : OpId) (slots : List Byte) : State :=
  let mine := allCarriers.filterMap fun c =>
    match (s.carrier c).place with
    | some p => if p.op = o then some ⟨c, slotBlock p.slot p.width slots⟩ else none
    | none => none
  let others := s.dist.incoming.filter fun b => s.plan.owner b.carrier ≠ some o
  { s with dist := { s.dist with incoming := others ++ mine } }

/-- OPERATOR_FRAME_RECEIVED (R2, R5). -/
def operatorFrame (s : State) (o : OpId) (f : TermFrame) : State :=
  match parseWord f.word with
  | some w =>
    if followsTerm s.ol[o] w then
      let s' := (s.referenceStart (.op o) w f.atBoundary).termGood (.op o) w
      if s.ol[o].state = .up then s'.takeSlots o f.slots else s'
    else s.termBad (.op o)
  | none => s.termBad (.op o)

/-- TRUNK_FRAME_RECEIVED (R2, R24, R176). -/
def trunkFrame (s : State) (f : TermFrame) : State :=
  match parseWord f.word with
  | some w =>
    if followsTerm s.trunk w then
      let s' := (s.referenceStart .trunk w f.atBoundary).termGood .trunk w
      if s.trunk.state = .up then s'.deliver w else s'
    else s.termBad .trunk
  | none => s.termBad .trunk

/-- MISSING_FRAME_PERIOD: no frame began on a link (R2). -/
def missingFrame (s : State) (l : LinkId) : State :=
  match l with
  | .remote r => s.remoteBad r
  | .term t => s.termBad t

/-! ## Transmission (R1, R3, R66, R89) -/

/-- The format that a remote's ORDER word names (R1). -/
def orderFormat (l : RemoteLink) : Option Format :=
  match l.state with
  | .up => l.format
  | .negotiate => l.chosen
  | _ => none

/-- The control word of a remote link frame (R1, R197). -/
def remoteWord (s : State) (lf : Nat) (r : RemoteId) : List Byte :=
  if lf = 0 then
    controlWord s.tb.count lf typeOrder [formatCode (orderFormat s.rl[r]), flagByte (s.record r).sleep]
  else controlWord s.tb.count lf typeIdle []

/-- The container of a placed carrier: its source block scaled and reduced, or zero samples (R3, R65, R66). -/
def containerFor (s : State) (f : Format) (factor : CarrierId × Nat) : TxContainer :=
  let c := factor.1
  let k := s.plan.width c
  let block := match s.dist.source.find? fun b => b.carrier = c with
    | some b => b.samples
    | none => zeroBlock k
  ⟨c, f.unitsPerClass * k, scaleBlock f factor.2 block⟩

/-- The link frame that a remote link sends; a link in OFF transmits nothing (R1, R3). -/
def remoteTx (s : State) (lf : Nat) (r : RemoteId) : Option RemoteTx :=
  if s.rl[r].state = .off then none
  else
    some ⟨s.remoteWord lf r, s.upFormat r,
      match s.upFormat r with
      | some f => (s.record r).factors.map (s.containerFor f)
      | none => []⟩

/-- The link frame that an operator link sends: in each slot the combined uplink of the link frame two earlier (R5, R89). -/
def operatorTx (s : State) (lf : Nat) (o : OpId) : OperatorTx :=
  ⟨controlWord s.tb.count lf typeIdle [],
    tab fun slot =>
      match s.comb.outputs.find? fun x => x.label + 2 = s.tb.label && x.place.op = o && x.place.slot = slot with
      | some x => x.samples
      | none => []⟩

/-- The source blocks of the link frame that starts: those retimed to it, of operator links that are UP (R65). -/
def nextSource (s : State) : List SourceBlock :=
  s.dist.incoming.filter fun b =>
    match s.plan.owner b.carrier with
    | some o => s.ol[o].state = .up
    | none => false

/-- The number of the link frame that starts. -/
def nextLf : Option Nat → Nat
  | none => 0
  | some lf => lf + 1

/-- The Timebase starts a link frame. -/
def tickFrame (s : State) : State :=
  let lf := nextLf s.tb.lf
  let n := s.tb.label + 1
  { s with tb :=
    { s.tb with label := n, lf := some lf, history := (⟨n, s.tb.count, lf⟩ :: s.tb.history).take 80 } }

/-- The link frame in progress is sent on every transmitting link (R1). -/
def transmit (s : State) (lf : Nat) : State :=
  let (type, payload, g) := s.mgmt.outbound (s.trunk.state = .up)
  { s with
    mgmt := g
    out :=
      { remote := tab (s.remoteTx lf)
        op := tab fun o => some (s.operatorTx lf o)
        trunk := some (controlWord s.tb.count lf type payload) } }

/-- LINK_FRAME_START (R1): the link frame in progress ends, which is the block deadline of the one before it (R78), and
the next one is sent. Its source blocks and its sums begin (R65, R76), and the counts held for it are released (R99). -/
def startFrame (s : State) : State :=
  let lf := nextLf s.tb.lf
  let s := ((s.deadline (s.tb.label - 1)).tickFrame).transmit lf
  let s := { s with
    meas := s.meas.release
    dist := { incoming := [], source := s.nextSource }
    comb := { s.comb with outputs := s.comb.outputs.filter fun x => s.tb.label < x.label + 2 }
    place := { s.place with lastPlaced := tab fun r => (s.record r).placed } }
  s.startSums lf

end State

end Sys2Proof.Machine
end

