-- ==== Sys2Proof/Machine/Windows.lean ====
section
/-! DEFINITION. The window end: snapshot (R103 to R106), uplink guard (R92 to R94), Balancer (R115 to R126), auto-quiet
(R141, R142) and resweep (R161). -/

namespace Sys2Proof.Machine

/-! ## Snapshot (R103 to R106) -/

/-- Occupancy: the activity count as a fraction of the window, in 1024ths (R103). -/
def occupancy (a wa : Nat) : Nat := a * 1024 / (80 * wa)

/-- Demand share of a remote for an operator, from the bank of the last superframe of the window (R104). -/
def demandShare (b : Bank) (r : RemoteId) (occ : Vector Nat 24) : Nat :=
  match b.calls r with
  | [] => 0
  | cs => (cs.map fun c => occ[c]).sum / cs.length

/-- Sector load (R105). -/
def sectorLoad (b : Bank) (i : SectorIx) (share : Vector Nat 24) : Nat :=
  min 4095 ((b.members i).map fun r => share[r]).sum

/-- The snapshot of a closing window (R106). -/
def formSnapshot (closing : Count) (m : Measurement) (banks : Vector Bank 4) (sat : Vector Nat 32) : Snapshot :=
  let occ : Vector (Vector Nat 24) 24 := tab fun r => tab fun c => occupancy m.activity[r][c] m.position
  let share : Vector (Vector Nat 24) 4 := tab fun o => tab fun r => demandShare banks[o] r occ[r]
  { closing := closing
    length := m.position
    occ := occ
    share := share
    load := tab fun x => sectorLoad banks[sectorOp x] (sectorIx x) share[sectorOp x]
    sat := sat
    peak := m.peak }

/-! ## Uplink guard (R92, R93) -/

/-- The loudest of some remotes: the highest peak, the lowest number of equals. -/
def loudest (peak : Vector Nat 24) : List RemoteId → Option RemoteId
  | [] => none
  | r :: rs =>
    match loudest peak rs with
    | none => some r
    | some q => if peak[q] ≤ peak[r] then some r else some q

/-- The member that an overloaded sector names: the loudest whose guard step is below 8 (R92). -/
def namedBy (banks : Vector Bank 4) (guard : Vector Nat 24) (peak : Vector Nat 24) (x : SectorId) : Option RemoteId :=
  loudest peak ((banks[sectorOp x].members (sectorIx x)).filter fun r => guard[r] < 8)

/-- The sectors whose saturation count exceeds SatLimit (R92). -/
def overloadedSectors (sat : Vector Nat 32) (limit : Nat) : List SectorId := allSectors.filter fun x => limit < sat[x]

namespace State

/-- The overload indication of a sector at a window end (R94). -/
def setOverloadMark (s : State) (overl : List SectorId) (x : SectorId) : State :=
  let now := overl.contains x
  { (s.hand ⟨.uplinkOverload, .sector x⟩ s.comb.overload[x] now) with
    comb := { s.comb with overload := s.comb.overload.set x now } }

/-- A named remote's guard step rises by one; at 8 GUARD_FLOOR begins (R92, R94). -/
def stepGuardUp (s : State) (r : RemoteId) : State :=
  let s := { s with comb := { s.comb with guard := s.comb.guard.set r (s.comb.guard[r] + 1) } }
  if s.comb.guard[r] = 8 then s.raise ⟨.guardFloor, .remote r⟩ else s

/-- The recover run of a remote at a window end (R93). A run that reaches RecoverWindows owes GUARD_STEP_DOWN. -/
def updateRecover (s : State) (overl : List SectorId) (banks : Vector Bank 4) (r : RemoteId) : State :=
  let hit := overl.any fun x => banks[sectorOp x].zones[r].cur = some (sectorIx x)
  let run := if hit then 0 else min (s.comb.recover[r] + 1) 255
  let s := { s with comb := { s.comb with recover := s.comb.recover.set r run } }
  if !hit && s.meas.recoverWindows ≤ run then s.owe [.guardStepDown r] else s

/-- The uplink guard at a window end (R88, R92 to R94). -/
def guardWindow (s : State) (banks : Vector Bank 4) (peak : Vector Nat 24) : State :=
  let overl := overloadedSectors s.comb.sat s.meas.satLimit
  let named := overl.filterMap (namedBy banks s.comb.guard peak)
  let s := allSectors.foldl (fun s x => s.setOverloadMark overl x) s
  let s := (allRemotes.filter fun r => named.contains r).foldl stepGuardUp s
  let s := allRemotes.foldl (fun s r => s.updateRecover overl banks r) s
  { s with comb := { s.comb with sat := Vector.replicate 32 0 } }

/-- GUARD_STEP_DOWN: a recover run that has reached RecoverWindows lowers the guard step and starts again (R93). -/
def guardStepDown (s : State) (r : RemoteId) : State :=
  if s.meas.recoverWindows ≤ s.comb.recover[r] then
    let g := s.comb.guard[r]
    let s := { s with comb :=
      { s.comb with guard := s.comb.guard.set r (g - 1), recover := s.comb.recover.set r 0 } }
    if g = 8 then s.clear ⟨.guardFloor, .remote r⟩ else s
  else s

/-! ## Balancer (R115 to R126) -/

/-- Every hold-off that is not zero is decremented, but for a move whose hold-off was set at this boundary (R115,
R130). -/
def countHoldOffs (s : State) (moved : List (OpId × RemoteId)) : State :=
  { s with bal := tab fun o =>
      { s.bal[o] with
        holdOff := tab fun r => if moved.contains (o, r) then s.bal[o].holdOff[r] else s.bal[o].holdOff[r] - 1 } }

/-- The hot sector of an operator: the in-service sector with the highest load, the lowest index of equals (R118). -/
def hottest (s : State) (o : OpId) (b : Bank) (load : Vector Nat 32) : List SectorIx → Option SectorIx
  | [] => none
  | i :: is =>
    match hottest s o b load is with
    | none => if s.plan.inService s.mode.mode b i then some i else none
    | some j =>
      if s.plan.inService s.mode.mode b i && load[sectorOf o j] ≤ load[sectorOf o i] then some i else some j

/-- Whether the Mode and Isolation Unit answers that a remote is on the isolation list (R151). -/
def onIsolationList (s : State) (r : RemoteId) : Bool :=
  (s.mode.isolated.any fun e => e.remote = r) || (s.mode.pendingIso.map (·.remote) = some r)

/-- A member of the hot sector is a candidate (R119). -/
def isCandidate (s : State) (o : OpId) (b : Bank) (r : RemoteId) : Bool :=
  !b.zones[r].pinned && s.rl[r].state = .up && !s.onIsolationList r && !s.rl[r].flags[0].present &&
    s.bal[o].holdOff[r] = 0 && s.bal[o].minShare ≤ s.meas.snap.share[o][r]

/-- Inserts a remote by descending share; it comes before remotes of equal share, which have higher numbers. -/
def insertByShare (share : Vector Nat 24) (r : RemoteId) : List RemoteId → List RemoteId
  | [] => [r]
  | q :: qs => if share[q] ≤ share[r] then r :: q :: qs else q :: insertByShare share r qs

/-- Remotes in descending share, equal shares in ascending number (R119). -/
def byShare (share : Vector Nat 24) : List RemoteId → List RemoteId
  | [] => []
  | r :: rs => insertByShare share r (byShare share rs)

/-- The targets of a candidate, in order (R120). -/
def targetsOf (z : Zone) (hot : SectorIx) : List SectorIx := (z.home.toList ++ z.alts).filter fun t => t ≠ hot

/-- The load tests of a target (R121). -/
def loadTests (s : State) (o : OpId) (b : Bank) (hot t : SectorIx) (r : RemoteId) : Bool :=
  let d := s.meas.snap.share[o][r]
  let lh := s.meas.snap.load[sectorOf o hot]
  let lt := s.meas.snap.load[sectorOf o t]
  s.plan.inService s.mode.mode b t && 2 * d + lt ≤ lh && lt + d < s.bal[o].hotLevel

/-- The move of an evaluation: the first candidate and target that pass every test (R121 to R123). -/
def findMove (s : State) (o : OpId) (b : Bank) (hot : SectorIx) : Option (RemoteId × SectorIx) :=
  (byShare s.meas.snap.share[o] ((b.members hot).filter (s.isCandidate o b))).findSome? fun r =>
    ((targetsOf b.zones[r] hot).find? fun t => s.loadTests o b hot t r && s.trialPasses r o t).map fun t => (r, t)

/-- Records an outcome with the closing superframe count of the snapshot (R117). -/
def setOutcome (s : State) (o : OpId) (x : BalancerOutcome) : State :=
  s.modBal o fun b => { b with outcome := x, outcomeAt := s.meas.snap.closing }

/-- A deferral (R117). -/
def defer (s : State) (o : OpId) (x : BalancerOutcome) : State :=
  (s.setOutcome o x).modBal o fun b => { b with deferrals := satInc max16 b.deferrals }

/-- The Plan Store takes a move: the target becomes the current sector in the staged bank, which is ARMED from CLEAN
(R46). -/
def stageMove (s : State) (o : OpId) (r : RemoteId) (t : SectorIx) (origin : Origin) : State :=
  s.modPlan o fun p =>
    { p with
      staged := { p.staged with zones := p.staged.zones.set r { p.staged.zones[r] with cur := some t } }
      state := .armed origin false }

/-- A move found in AUTO (R124). -/
def autoMove (s : State) (o : OpId) (hot : SectorIx) (r : RemoteId) (t : SectorIx) : State :=
  let s := s.stageMove o r t .balancer
  (s.setOutcome o .moved).modBal o fun b =>
    { b with
      holdOff := b.holdOff.set r b.holdWindows
      moves := satInc max16 b.moves
      lastMove := some ⟨s.meas.snap.closing, r, hot, t, s.meas.snap.share[o][r], .balancer⟩ }

/-- An advice differs from the one it replaces in remote, from-sector or to-sector (R126). -/
def newAdvice (before : Option Advice) (a : Advice) : Bool :=
  match before with
  | none => true
  | some b => !(b.remote = a.remote && b.fromSector = a.fromSector && b.toSector = a.toSector)

/-- A move found in ADVISE (R126); a posting is a change that the Supervision Unit counts (R167). -/
def advise (s : State) (o : OpId) (hot : SectorIx) (r : RemoteId) (t : SectorIx) : State :=
  let n := s.meas.snap
  let a : Advice :=
    ⟨n.closing, r, hot, t, n.share[o][r], n.load[sectorOf o hot], n.load[sectorOf o t]⟩
  let s' := (s.setOutcome o .advised).modBal o fun b => { b with advice := some a }
  if newAdvice s.bal[o].advice a then { s' with sup := s'.sup.count } else s'

/-- An evaluation of an operator (R118 to R126). -/
def evaluate (s : State) (o : OpId) (b : Bank) : State :=
  match s.hottest o b s.meas.snap.load allSectorIxs with
  | none => s.setOutcome o .noHot
  | some hot =>
    if s.meas.snap.load[sectorOf o hot] < s.bal[o].hotLevel then s.setOutcome o .noHot
    else
      match s.findMove o b hot with
      | none => s.setOutcome o .noMove
      | some (r, t) =>
        match s.bal[o].mode with
        | .auto => s.autoMove o hot r t
        | _ => s.advise o hot r t

/-- The Balancer's decision for one operator at a window end (R117). -/
def balance (s : State) (banks : Vector Bank 4) (staged : Vector StagedState 4) (o : OpId) : State :=
  if s.bal[o].mode = .off then s
  else if s.mode.mode = .quiet then s.defer o .deferredQuiet
  else if s.ol[o].state ≠ .up then s.defer o .deferredLink
  else if staged[o] ≠ .clean then s.defer o .deferredPlan
  else s.evaluate o banks[o]

/-! ## Auto-quiet (R141, R142) -/

/-- The window end is quiet: every sector in service in the last superframe of the closing window has a load of at most
QuietLevel (R141). -/
def quietWindow (s : State) (b : Boundary) : Bool :=
  allSectors.all fun x =>
    !s.plan.inService b.mode b.banks[sectorOp x] (sectorIx x) || s.meas.snap.load[x] ≤ s.mode.quietLevel

/-- The wake test: some sector load is at least WakeLevel (R142). -/
def wakes (s : State) : Bool := allSectors.any fun x => s.mode.wakeLevel ≤ s.meas.snap.load[x]

/-- The auto-quiet check at a window end (R141, R142). A run that reaches QuietWindows owes AUTO_QUIET_ENTRY. -/
def autoQuiet (s : State) (b : Boundary) : State :=
  if !s.mode.aqEnable || b.modeSet then s
  else
    match s.mode.mode with
    | .normal =>
      let run := if s.quietWindow b then min (s.mode.quietRun + 1) 255 else 0
      let s := { s with mode := { s.mode with quietRun := run } }
      if s.mode.quietWindows ≤ run then s.owe [.autoQuietEntry] else s
    | .quiet => if s.wakes then { s with mode := { s.mode with auto := some .normal } } else s

/-- AUTO_QUIET_ENTRY: a quiet run that has reached QuietWindows records a change to QUIET for the next boundary (R141). -/
def autoQuietEntry (s : State) : State :=
  if s.mode.quietWindows ≤ s.mode.quietRun then
    { s with mode := { s.mode with auto := some .quiet, quietRun := 0 } }
  else s

/-! ## Resweep (R161) -/

/-- A condition holds for the superframe that begins: GUARD_FLOOR no longer does when the remote's step down is owed at
this window end (R161). -/
def holdsAhead (s : State) (key : Key) : Bool :=
  s.holds key &&
    match key.kind, key.obj with
    | .guardFloor, .remote r => !s.due.contains (.guardStepDown r)
    | _, _ => true

/-- The resweep, in catalogue order and then object order. -/
def resweep (s : State) : State :=
  { s with sup := s.sup.resweep s.tb.count (catalogue.filter s.holdsAhead) }

/-! ## The window end (R98, R99, R106) -/

/-- The snapshot of the closing window replaces the last one, and the counts start again with the blocks that already
belong to the new window (R98, R99). -/
def closeWindow (s : State) (b : Boundary) : State :=
  let m := s.meas
  { s with meas :=
    { m with
      snap := formSnapshot (s.tb.count - 1) m b.banks s.comb.sat
      wForce := m.wSet
      position := 0
      activity := m.heldActivity
      peak := m.heldPeak
      heldActivity := Vector.replicate 24 (Vector.replicate 24 0)
      heldPeak := Vector.replicate 24 0 } }

/-- WINDOW_END: the measurement window closes at the boundary being taken (R98). R161 leaves open whether the own raise of a
condition that begins here or the resweep is taken first; the own raises, of UPLINK_OVERLOAD and GUARD_FLOOR, come first
(DESIGN CHOICE, notes/assumptions/36.md). -/
def windowEnd (s : State) : State :=
  match s.boundary with
  | none => s
  | some b =>
    let s := s.closeWindow b
    let s := s.guardWindow b.banks s.meas.snap.peak
    let s := s.countHoldOffs b.moved
    let s := allOps.foldl (fun s o => s.balance b.banks b.staged o) s
    (s.autoQuiet b).resweep

end State

end Sys2Proof.Machine
end

