-- ==== Sys2Proof/Machine/Boundary.lean ====
section
/-! DEFINITION. The superframe boundary (R25): what the blocks do there at once, the steps it owes, and the steps that
belong to boundaries alone: settings taking effect, switchovers, the hub mode, isolations, alerts, relocking and the
resets (R26, R31, R41, R136, R146, R148, R169, R193 to R195). -/

namespace Sys2Proof.Machine

/-! ## Timers and counts of a boundary -/

/-- A remote link's timers at a boundary (R8, R11). -/
def RemoteLink.tick (l : RemoteLink) : RemoteLink :=
  match l.state with
  | .negotiate => if l.phase = .confirmed then l else { l with negTimer := min (l.negTimer + 1) negotiationLimit }
  | .lost => { l with holdTimer := min (l.holdTimer + 1) lostHoldLimit }
  | _ => l

/-- A superframe ends with a link frame: that frame's successor is link frame 0, however many frames were sent before it
(R2, R26). -/
def RemoteLink.superframeEnds (l : RemoteLink) (label : Nat) : RemoteLink :=
  { l with lastGood := l.lastGood.map fun g => if g.label = some label then { g with successor := 0 } else g }

/-- The hold of an operator link or the trunk at a boundary (R22). -/
def TermLink.tick (t : TermLink) : TermLink :=
  if t.state = .lost then { t with holdTimer := min (t.holdTimer + 1) lostHoldLimit } else t

/-- The return timers at a boundary (R148). -/
def IsoEntry.tick (e : IsoEntry) : IsoEntry := { e with timer := e.timer.map (· - 1) }

/-- The window ends at a boundary at which the position, already incremented, has reached the W in force, or the W set
value differs from it (R98). -/
def Measurement.windowCloses (m : Measurement) : Bool := m.wForce ≤ m.position || m.wSet ≠ m.wForce

namespace State

/-- WARM is in progress, so the boundary applies the warm reset (R193). -/
def warmDue (s : State) : Bool := s.mgmt.control.map (·.cmd) = some .warm

/-- COLD is in progress and its response has left the return queue, so the boundary applies the cold reset (R194). -/
def coldDue (s : State) : Bool := s.mgmt.control.map (·.cmd) = some .cold && !s.mgmt.due.any fun x => x.isCold

/-! ## What the boundary owes -/

/-- The steps of a boundary that concern the links and the plans before placement is settled, in the order in which they
are taken unless a command takes one of them first. -/
def owedLinks (s : State) : List Instr :=
  ((allCarriers.filter fun c => (s.carrier c).set ≠ (s.carrier c).eff).map Instr.levelFieldTakesEffect) ++
  ((allRemotes.filter fun r => s.rl[r].m ≠ s.rl[r].mEff || s.rl[r].pmax ≠ s.rl[r].pmaxEff).map
    Instr.linkSettingsTakeEffect) ++
  ((s.mode.isolated.filter fun e => e.timer = some 0).map fun e => Instr.isolationTimerExpiry e.remote) ++
  (([TermLinkId.trunk] ++ allOps.map TermLinkId.op).filter fun l =>
    (s.term l).state = .lost && lostHoldLimit ≤ (s.term l).holdTimer).map Instr.linkLostHoldEnd ++
  ((allRemotes.filter fun r => s.rl[r].state = .negotiate && s.rl[r].phase = .confirmed).map Instr.linkEntersUp) ++
  ((allRemotes.filter fun r => s.rl[r].state = .negotiate && negotiationLimit ≤ s.rl[r].negTimer).map
    Instr.negotiationTimeout) ++
  ((allRemotes.filter fun r => s.rl[r].state = .lost && lostHoldLimit ≤ s.rl[r].holdTimer).map Instr.lostHoldEnd)

/-- An operator's staged bank is ARMED. -/
def isArmed (s : State) (o : OpId) : Bool :=
  match (s.opPlan o).state with
  | .armed _ _ => true
  | _ => false

/-- The switchovers and the mode decision of a boundary at which no warm reset is applied (R41, R51, R136, R154). -/
def owedPlans (s : State) : List Instr :=
  if s.warmDue then []
  else
    (allOps.filter s.isArmed).map Instr.switchover ++
      if s.mode.requested.isSome || s.mode.auto.isSome then [.hubModeDecision] else []

/-- The end of the window, or the warm reset in its place (R98, R111). -/
def owedWindow (s : State) : List Instr :=
  if s.warmDue then [.warmResetApplied] else if s.meas.windowCloses then [.windowEnd] else []

/-- Every step that the boundary owes. A cold reset stands in place of all of them (R49, R153, R194). -/
def owedAtBoundary (s : State) : List Instr :=
  if s.coldDue then [.coldResetApplied]
  else
    s.owedLinks ++ s.owedPlans ++ (if s.mode.pendingIso.isSome then [.pendingIsolationApply] else []) ++ s.owedWindow ++
      [.alertPlacement]

/-! ## The boundary itself -/

/-- What governs the superframe that ends (R41, R104, R116). -/
def closingView (s : State) : Boundary where
  banks := tab fun o => (s.opPlan o).active
  staged := tab fun o => (s.opPlan o).state
  mode := s.mode.mode
  moved := []
  modeSet := s.mode.requested.isSome
  settled := false

/-- The counts and timers of a boundary (R8, R11, R22, R25, R98, R148), and the end of the superframe's numbering (R2). -/
def tickBoundary (s : State) : State :=
  { s with
    tb := { s.tb with count := s.tb.count + 1, lf := none }
    rl := tab fun r => s.rl[r].tick.superframeEnds s.tb.label
    ol := tab fun o => s.ol[o].tick
    trunk := s.trunk.tick
    mode := { s.mode with isolated := s.mode.isolated.map IsoEntry.tick }
    meas := { s.meas with position := s.meas.position + 1 } }

/-- SUPERFRAME_BOUNDARY (R25): the superframe ends, cut short or not; its last block deadline passes (R78, R99), the counts
and timers advance, and the steps of the boundary are owed. -/
def makeBoundary (s : State) (cut : Bool) : State :=
  let s := s.deadline (s.tb.label - 1)
  let s := if cut then s.cutFrame else s
  let s := { s.tickBoundary with boundary := some s.closingView }
  let s := s.owe s.owedAtBoundary
  if s.warmDue || s.meas.windowCloses then s else { s with meas := s.meas.release }

/-! ## TIMEBASE_RELOCK (R26) -/

/-- The count of the superframe that begins at the boundary at which the reference relocks the hub (R157). A relock at the
hub's own boundary that is taken ahead of it, with a later link frame than 0 in progress and no boundary being taken, belongs
to the superframe that is still to begin (notes/assumptions/37.md). -/
def relockCount (s : State) : Count :=
  let ahead : Bool := match s.tb.lf with
    | some lf => s.boundary.isNone && 0 < lf
    | none => false
  if ahead then s.tb.count + 1 else s.tb.count

/-- The Timebase enters LOCKED, and TIMING_HOLDOVER ends in the superframe that begins there (R25, R26, R157). -/
def lock (s : State) : State :=
  { s with
    tb := { s.tb with state := .locked }
    sup := s.sup.clear s.relockCount ⟨.timingHoldover, .device⟩ }

/-- TIMEBASE_RELOCK: link frame 0 of the reference has started in RELOCKING. Inside a hub superframe, a boundary is made
there first. -/
def timebaseRelock (s : State) (atBoundary : Bool) : State :=
  if s.tb.state = .relocking then (if atBoundary then s else s.makeBoundary true).lock else s

/-! ## LEVEL_FIELD_TAKES_EFFECT (R31) -/

/-- LEVEL_FIELD_TAKES_EFFECT: the set values of a carrier become its values in effect; a changed downlink multiplier or
power of a DEFINED carrier is handed to the Placement Unit. -/
def levelFieldTakesEffect (s : State) (c : CarrierId) : State :=
  let k := s.carrier c
  let s := s.modCarrier c fun k => { k with eff := k.set }
  if k.place.isSome && (k.set.mdl ≠ k.eff.mdl || k.set.power ≠ k.eff.power) then
    (s.recomputeCarrier c).placementChanged
  else s

/-! ## SWITCHOVER (R41, R130) -/

/-- What the Balancer does when a bank armed by BALANCE ACCEPT is switched (R130). -/
def acceptedMove (s : State) (o : OpId) (origin : Origin) (a : Advice) : State :=
  let s := s.modBal o fun b =>
    { b with
      holdOff := b.holdOff.set a.remote b.holdWindows
      moves := satInc max16 b.moves
      lastMove := some ⟨a.closing, a.remote, a.fromSector, a.toSector, a.share, origin⟩ }
  { s with boundary := s.boundary.map fun b => { b with moved := b.moved ++ [(o, a.remote)] } }

/-- The command that armed a bank completes DONE on its channel (R41, R130, R200). -/
def completeArming (s : State) (o : OpId) (ch : Channel) : State :=
  match s.mgmt.busy ch with
  | some ⟨_, .planCommit _⟩ => s.complete ch .done false []
  | some ⟨_, .balanceAccept _ a⟩ => (s.acceptedMove o ch.origin a).complete ch .done false a.bytes
  | _ => s

/-- SWITCHOVER: the ARMED staged bank of an operator becomes its active bank. -/
def switchover (s : State) (o : OpId) : State :=
  match (s.opPlan o).state with
  | .armed origin _ =>
    let s := (s.modPlan o fun p => { p with active := p.staged, state := .clean }).recomputeAll.placementChanged
    match origin with
    | .control => s.completeArming o .control
    | .service => s.completeArming o .service
    | .balancer => s
  | _ => s

/-! ## HUB_MODE_DECISION (R136, R138) -/

/-- The hub takes a mode; a change of mode is a recomputation cause for every remote (R57, R136). -/
def takeMode (s : State) (m : HubMode) : State :=
  let s' := { s with mode := { s.mode with mode := m } }
  if m = s.mode.mode then s' else s'.recomputeAll.placementChanged

/-- HUB_MODE_DECISION: the mode of a MODE SET in progress, otherwise that of a pending automatic change. -/
def hubModeDecision (s : State) : State :=
  match s.mode.requested, s.mode.auto with
  | some m, _ =>
    ({ s with mode := { s.mode with requested := none, auto := none, quietRun := 0 } }.takeMode m).complete
      .control .done false []
  | none, some m => { s with mode := { s.mode with auto := none } }.takeMode m
  | none, none => s

/-! ## Isolation (R146, R148) -/

/-- The remote leaves the isolation list; the entries after it move up (R143). -/
def unlist (s : State) (r : RemoteId) : State :=
  { s with mode := { s.mode with isolated := s.mode.isolated.filter fun e => e.remote ≠ r } }

/-- The sector that the re-check of a pending isolation reports (R146): the darkening test with every remote whose
negotiation is confirmed taken as UP, which is how it governs the superframe that begins. -/
def recheck (s : State) (r : RemoteId) : Option SectorId :=
  (allRemotes.foldl (fun s q => if s.due.contains (.linkEntersUp q) then s.linkEntersUp q else s) s).darkening r

/-- The clamped flag of an ISOLATE in progress (R146). -/
def isolateClamped (s : State) : Bool :=
  match s.mgmt.control with
  | some ⟨_, .isolate c⟩ => c
  | _ => false

/-- The return timer for a delay in seconds (R143). -/
def returnTimer (delay : Nat) : Option Nat := if delay = 0 then none else some (superframesPerSecond * delay)

/-- An isolation begins (R13, R146). -/
def beginIsolation (s : State) (p : PendingIso) : State :=
  let s := s.restartInto p.remote .isolated
  { s with mode :=
    { s.mode with isolated :=
      s.mode.isolated ++ [⟨p.remote, s.tb.count, p.delay, returnTimer p.delay, p.force⟩] } }

/-- PENDING_ISOLATION_APPLY (R146). -/
def pendingIsolationApply (s : State) : State :=
  match s.mode.pendingIso with
  | none => s
  | some p =>
    let s' := { s with mode := { s.mode with pendingIso := none } }
    match (if p.force then none else s.recheck p.remote) with
    | some x => s'.complete .control .wouldDarken s.isolateClamped [(Obj.sector x).code]
    | none => (s'.beginIsolation p).complete .control .done s.isolateClamped []

/-- ISOLATION_TIMER_EXPIRY (R148). -/
def isolationTimerExpiry (s : State) (r : RemoteId) : State :=
  if s.mode.isolated.any fun e => e.remote = r && e.timer = some 0 then (s.unlist r).restart r else s

/-! ## ALERT_PLACEMENT (R169, R170) -/

/-- The hub mode that governs the superframe that begins, as it stands or as the decision still owed will make it
(R136, R170). -/
def decidedMode (s : State) : HubMode :=
  if s.due.contains .hubModeDecision then (s.mode.requested.orElse fun _ => s.mode.auto).getD s.mode.mode
  else s.mode.mode

/-- The ALERT that is formed now (R170, R201). -/
def formAlert (s : State) : Alert where
  seq := s.sup.seq
  critical := Supervision.activeCount s.sup.alarms .critical
  major := Supervision.activeCount s.sup.alarms .major
  minor := Supervision.activeCount s.sup.alarms .minor
  cleared := Supervision.clearedCount s.sup.alarms
  overflow := s.sup.overflow
  advice := tab fun o => s.bal[o].advice.isSome
  quiet := s.decidedMode = .quiet

/-- The transmission of the ALERT in the slot has begun. -/
def alertBegun (s : State) : Bool :=
  match s.mgmt.tx with
  | some (.alert _) => true
  | _ => false

/-- ALERT_PLACEMENT: the try of a boundary to place an ALERT (R169). -/
def alertPlacement (s : State) : State :=
  if s.sup.pending && s.sup.enable && s.trunk.state = .up && !s.alertBegun then
    { s with
      mgmt := { s.mgmt with alert := some s.formAlert }
      sup := { s.sup with pending := false } }
  else s

/-! ## WARM_RESET_APPLIED -/

/-- A remote link after warm reset (R28). -/
def warmRemote (l : RemoteLink) : RemoteLink :=
  { l with framesRx := 0, alignErr := 0, missing := 0, negFail := 0, lostEntries := 0, downLatch := false }

/-- An operator link or the trunk after warm reset (R28). -/
def warmTerm (t : TermLink) : TermLink := { t with framesRx := 0, alignErr := 0, lostEntries := 0 }

/-- The Balancer's state for one operator after warm reset (R135). -/
def warmBalancer (b : BalancerOp) : BalancerOp :=
  { b with
    holdOff := Vector.replicate 24 0, advice := none, lastMove := none, outcome := .none, outcomeAt := 0
    deferrals := 0, moves := 0 }

/-- The Measurement Unit after warm reset (R111). -/
def warmMeasurement (m : Measurement) : Measurement :=
  { m with
    activity := m.heldActivity
    peak := m.heldPeak
    heldActivity := Vector.replicate 24 (Vector.replicate 24 0)
    heldPeak := Vector.replicate 24 0
    position := 0
    wForce := m.wSet
    snap := .empty }

/-- The conditions that end at the warm reset itself (R175). -/
def endsAtWarm (s : State) : List Key :=
  (catalogue.filter fun k => k.kind = .uplinkOverload || k.kind = .guardFloor || k.kind = .accessBarred).filter s.holds

/-- The Supervision Unit at the warm reset (R175): the clears of the ending conditions, each before or after the emptying
as the free value says, the emptying, the overflow flag and the resweep of the conditions that go on to hold. -/
def warmSupervision (p : Supervision) (now : Count) (ending holding : List Key) : Supervision :=
  let early := fun (k : Key) => Config.clearBeforeEmptying p.warmResets k.kind.code k.obj.code
  let p := (ending.filter early).foldl (fun p k => p.clear now k) p
  let p := p.empty
  let p := (ending.filter fun k => !early k).foldl (fun p k => p.clear now k) p
  let p := p.clearOverflow.resweep now holding
  { p with warmResets := p.warmResets + 1 }

/-- The command in progress on the service channel is cancelled (R51, R193, R200). -/
def cancelService (s : State) : State :=
  match s.mgmt.service with
  | some ⟨_, .balanceAccept _ a⟩ => s.complete .service .aborted false a.bytes
  | some _ => s.complete .service .aborted false []
  | none => s

/-- The two completions of the warm reset, in either order (R193). -/
def warmCompletions (s : State) : State :=
  if s.mgmt.service.isSome && Config.warmDoneFirst s.sup.warmResets then
    (s.complete .control .done false []).cancelService
  else s.cancelService.complete .control .done false []

/-- The blocks' state after the warm reset, but for the Supervision Unit and the channels (R28, R51, R97, R111, R135, R154,
R195). -/
def warmBlocks (s : State) : State :=
  { s with
    rl := tab fun r => warmRemote s.rl[r]
    ol := tab fun o => warmTerm s.ol[o]
    trunk := warmTerm s.trunk
    plan := { s.plan with plans := tab fun o => { s.opPlan o with staged := (s.opPlan o).active, state := .clean } }
    comb := { s.comb with
      sat := Vector.replicate 32 0
      overload := Vector.replicate 32 false
      guard := Vector.replicate 24 0
      recover := Vector.replicate 24 0 }
    meas := warmMeasurement s.meas
    bal := tab fun o => warmBalancer s.bal[o]
    mode := { s.mode with auto := none, quietRun := 0 }
    mgmt := { s.mgmt with scope := none, barred := false, discards := 0, dropped := 0 } }

/-- WARM_RESET_APPLIED (R193). -/
def warmResetApplied (s : State) : State :=
  let s' := s.warmBlocks.warmCompletions
  { s' with sup := warmSupervision s.sup s.tb.count s.endsAtWarm (catalogue.filter s'.holds) }

/-! ## COLD_RESET_APPLIED, RESET_PIN_ASSERT and RESET_PIN_RELEASE (R194, R195) -/

/-- Every block takes its cold reset values; the commands that wait outside the hub stay. -/
def coldReset (s : State) : State := { State.reset with pending := s.pending }

/-- The reset pin is asserted: the hub transmits on no link (R195). -/
def assertPin (s : State) : State :=
  { s with
    resetPin := true
    out := { remote := Vector.replicate 24 none, op := Vector.replicate 4 none, trunk := none } }

end State

end Sys2Proof.Machine
end

