-- ==== Sys2Proof/Machine/Operands.lean ====
section
/-! DEFINITION. The parameters of the requests: identifiers, flags, enumerations, format sets, numeric settings and
lists, each read as R184, R199, R203 and section 10.4 say. A command's parameter record is `none` when R199 or the command's
own identifier tests refuse it with BAD_PARAMETER. Numeric settings are kept as received; clamping is a step of the
command. -/

namespace Sys2Proof.Machine

/-! ## Fields -/

/-- A flag byte (R199). -/
def flagOf (b : Byte) : Option Bool := if b = 0x00 then some false else if b = 0x01 then some true else none

/-- A remote. -/
def remoteOf (b : Byte) : Option RemoteId := if h : b.toNat < 24 then some ⟨b.toNat, h⟩ else none

/-- An operator. -/
def opOf (b : Byte) : Option OpId := if h : b.toNat < 4 then some ⟨b.toNat, h⟩ else none

/-- A carrier. -/
def carrierOf (b : Byte) : Option CarrierId := if h : b.toNat < 24 then some ⟨b.toNat, h⟩ else none

/-- A sector index. -/
def sectorIxOf (b : Byte) : Option SectorIx := if h : b.toNat < 8 then some ⟨b.toNat, h⟩ else none

/-- A slot. -/
def slotOf (b : Byte) : Option SlotIx := if h : b.toNat < 8 then some ⟨b.toNat, h⟩ else none

/-- A format set: bits 0 to 2, at least one set, no other bit (R199). -/
def offeredOf (b : Byte) : Option FormatSet := if b.toNat = 0 ∨ 8 ≤ b.toNat then none else some (formatSetOf b)

/-- A home sector: an index, or 0xFF for NONE. -/
def homeOf (b : Byte) : Option (Option SectorIx) := if b = 0xFF then some none else (sectorIxOf b).map some

/-- A reference (section 10.4, "Enumerated values"). -/
def referenceOf (b : Byte) : Option Reference :=
  match b.toNat with
  | 0 => some .trunk
  | 1 => some (.op 0)
  | 2 => some (.op 1)
  | 3 => some (.op 2)
  | 4 => some (.op 3)
  | 5 => some .free
  | _ => none

/-- A hub mode. -/
def hubModeOf (b : Byte) : Option HubMode := if b = 0x00 then some .normal else if b = 0x01 then some .quiet else none

/-- A balancer mode. -/
def balancerModeOf (b : Byte) : Option BalancerMode :=
  if b = 0x00 then some .off else if b = 0x01 then some .advise else if b = 0x02 then some .auto else none

/-- A bank: whether it is the STAGED one. -/
def bankOf (b : Byte) : Option Bool := if b = 0x00 then some false else if b = 0x01 then some true else none

/-- A part of PLAN READ. -/
inductive PlanPart where
  | sectors | zones | carriers
  deriving DecidableEq, Repr

def planPartOf (b : Byte) : Option PlanPart :=
  if b = 0x00 then some .sectors else if b = 0x01 then some .zones else if b = 0x02 then some .carriers else none

/-- Reads every item of a list; `none` when one of them is refused. -/
def allOf {α β : Type} (f : α → Option β) : List α → Option (List β)
  | [] => some []
  | x :: xs =>
    match f x, allOf f xs with
    | some y, some ys => some (y :: ys)
    | _, _ => none

/-- A value clamped into its range, and whether it lay outside (R184). -/
def clamped (lo hi n : Nat) : Bool := clamp lo hi n ≠ n

/-- Two bytes, high byte first. -/
def word16 (a b : Byte) : Nat := 256 * a.toNat + b.toNat

/-! ## Parameter records, in the order of section 10.4 -/

/-- A command without parameters takes none (R199). -/
def noParams (ps : List Byte) : Option Unit := if ps = [] then some () else none

/-- ACCESS SET and ATTACH: an operator and a 32-bit code. -/
def codeParams : List Byte → Option (OpId × BitVec 32)
  | [o, a, b, c, d] => (opOf o).map fun o => (o, BitVec.ofNat 32 (unsigned [a, b, c, d]))
  | _ => none

/-- LINK SET. -/
structure LinkSettings where
  remote : RemoteId
  enable : Bool
  offered : FormatSet
  m : Nat
  pmax : Nat
  deriving DecidableEq, Repr

def linkParams : List Byte → Option LinkSettings
  | [r, e, f, m1, m0, p1, p0] =>
    match remoteOf r, flagOf e, offeredOf f with
    | some r, some e, some f => some ⟨r, e, f, word16 m1 m0, word16 p1 p0⟩
    | _, _, _ => none
  | _ => none

/-- LINK RESTART, RESTORE and LINK READ: a remote. -/
def remoteParams : List Byte → Option RemoteId
  | [r] => remoteOf r
  | _ => none

/-- TIMING SET. -/
def referenceParams : List Byte → Option Reference
  | [b] => referenceOf b
  | _ => none

/-- WINDOW SET: W, SatLimit and RecoverWindows. -/
def windowParams : List Byte → Option (Nat × Nat × Nat)
  | [w, s1, s0, r] => some (w.toNat, word16 s1 s0, r.toNat)
  | _ => none

/-- QUIET SET. -/
structure QuietSettings where
  enable : Bool
  level : Nat
  windows : Nat
  wake : Nat
  deriving DecidableEq, Repr

def quietParams : List Byte → Option QuietSettings
  | [e, l1, l0, n, w1, w0] => (flagOf e).map fun e => ⟨e, word16 l1 l0, n.toNat, word16 w1 w0⟩
  | _ => none

/-- MODE SET. -/
def modeParams : List Byte → Option HubMode
  | [b] => hubModeOf b
  | _ => none

/-- ISOLATE: remote, delay and force flag. -/
def isolateParams : List Byte → Option (RemoteId × Nat × Bool)
  | [r, d1, d0, f] =>
    match remoteOf r, flagOf f with
    | some r, some f => some (r, word16 d1 d0, f)
    | _, _ => none
  | _ => none

/-- ALERT SET: enable and masks; bit 0 names no kind (R171). -/
def alertParams : List Byte → Option (Bool × BitVec 16)
  | [e, m1, m0] =>
    match flagOf e with
    | some e => if m0.getLsbD 0 then none else some (e, BitVec.ofNat 16 (word16 m1 m0))
    | none => none
  | _ => none

/-- Key byte pairs. -/
def keyPairs : List Byte → Option (List Key)
  | [] => some []
  | k :: o :: rest =>
    match keyOfCodes k o, keyPairs rest with
    | some key, some keys => some (key :: keys)
    | _, _ => none
  | [_] => none

/-- ALARM ACK: 0 to 16 keys (R165). -/
def ackParams : List Byte → Option (List Key)
  | [] => none
  | n :: rest => if n.toNat ≤ 16 ∧ rest.length = 2 * n.toNat then keyPairs rest else none

/-- CARRIER SET. -/
structure CarrierSettings where
  carrier : CarrierId
  op : OpId
  slot : SlotIx
  width : Nat
  priority : Nat
  eventOnly : Bool
  levels : Levels
  deriving DecidableEq, Repr

def carrierSetParams : List Byte → Option CarrierSettings
  | [c, o, sl, w, p, e, m1, m0, q1, q0, a1, a0, g1, g0, h1, h0] =>
    match carrierOf c, opOf o, slotOf sl, flagOf e with
    | some c, some o, some sl, some e =>
      some ⟨c, o, sl, w.toNat, p.toNat, e, ⟨word16 m1 m0, word16 q1 q0, word16 a1 a0, word16 g1 g0, word16 h1 h0⟩⟩
    | _, _, _, _ => none
  | _ => none

/-- CARRIER CLEAR: a carrier. -/
def carrierParams : List Byte → Option CarrierId
  | [c] => carrierOf c
  | _ => none

/-- PLAN SECTOR, as its bytes name it; the ownership of the carriers is tested by the command (R38). -/
structure SectorEdit where
  op : OpId
  sector : SectorIx
  h : Nat
  carriers : List CarrierId
  deriving DecidableEq, Repr

def sectorParams : List Byte → Option SectorEdit
  | o :: i :: h :: n :: rest =>
    match opOf o, sectorIxOf i, allOf carrierOf rest with
    | some o, some i, some cs => if n.toNat ≤ 8 ∧ rest.length = n.toNat ∧ cs.Nodup then some ⟨o, i, h.toNat, cs⟩ else none
    | _, _, _ => none
  | _ => none

/-- PLAN ZONE (R39). -/
structure ZoneEdit where
  op : OpId
  remote : RemoteId
  home : Option SectorIx
  pinned : Bool
  alts : List SectorIx
  deriving DecidableEq, Repr

/-- The alternates list fits the home (R34, R39). -/
def altsFit (home : Option SectorIx) (alts : List SectorIx) : Bool :=
  match home with
  | none => alts = []
  | some i => alts.Nodup && !alts.contains i

def zoneParams : List Byte → Option ZoneEdit
  | o :: r :: i :: p :: n :: rest =>
    match opOf o, remoteOf r, homeOf i, flagOf p, allOf sectorIxOf rest with
    | some o, some r, some i, some p, some alts =>
      if n.toNat ≤ 3 ∧ rest.length = n.toNat ∧ altsFit i alts then some ⟨o, r, i, p, alts⟩ else none
    | _, _, _, _, _ => none
  | _ => none

/-- The commands whose one parameter is an operator. -/
def opParams : List Byte → Option OpId
  | [o] => opOf o
  | _ => none

/-- BALANCE SET. -/
structure BalanceSettings where
  op : OpId
  mode : BalancerMode
  hotLevel : Nat
  minShare : Nat
  holdWindows : Nat
  deriving DecidableEq, Repr

def balanceParams : List Byte → Option BalanceSettings
  | [o, b, h1, h0, s1, s0, w] =>
    match opOf o, balancerModeOf b with
    | some o, some b => some ⟨o, b, word16 h1 h0, word16 s1 s0, w.toNat⟩
    | _, _ => none
  | _ => none

/-- PLAN READ: operator, whether the STAGED bank, part. -/
def planReadParams : List Byte → Option (OpId × Bool × PlanPart)
  | [o, b, p] =>
    match opOf o, bankOf b, planPartOf p with
    | some o, some b, some p => some (o, b, p)
    | _, _, _ => none
  | _ => none

/-- A part of MEASURE READ with what its selector names (R108, R203). -/
inductive MeasurePart where
  | sectors (o : OpId)
  | allSectors
  | shares (o : OpId)
  | occupancy (r : RemoteId)
  | peaks
  deriving DecidableEq, Repr

def measureParams : List Byte → Option MeasurePart
  | [p, x] =>
    match p.toNat with
    | 0 => if x = 0xFF then some .allSectors else (opOf x).map .sectors
    | 1 => (opOf x).map .shares
    | 2 => (remoteOf x).map .occupancy
    | 3 => some .peaks
    | _ => none
  | _ => none

/-- ALARM LIST: a start position 0 to 63. -/
def startParams : List Byte → Option Nat
  | [b] => if b.toNat < alarmCapacity then some b.toNat else none
  | _ => none

end Sys2Proof.Machine
end

