-- ==== Sys2Proof/Machine/Reads.lean ====
section
/-! DEFINITION. The data of the reads (R48, R73, R95, R108, R109, R132, R152, R163, R164, R173, R186, R192, R200,
R202). -/

namespace Sys2Proof.Machine

/-! ## Codes of section 10.4, "Enumerated values" -/

def HubMode.code : HubMode → Byte
  | .normal => 0x00
  | .quiet => 0x01

def BalancerMode.code : BalancerMode → Byte
  | .off => 0x00
  | .advise => 0x01
  | .auto => 0x02

def Reference.code : Reference → Byte
  | .trunk => 0x00
  | .op o => byte (o.val + 1)
  | .free => 0x05

def RemoteState.code : RemoteState → Byte
  | .off => 0x00
  | .seek => 0x01
  | .negotiate => 0x02
  | .up => 0x03
  | .lost => 0x04
  | .mismatch => 0x05
  | .isolated => 0x06

def TermState.code : TermState → Byte
  | .seek => 0x01
  | .up => 0x03
  | .lost => 0x04

def NegPhase.code : NegPhase → Byte
  | .none => 0x00
  | .awaitCapability => 0x01
  | .ordered => 0x02
  | .confirmed => 0x03

def TimebaseState.code : TimebaseState → Byte
  | .locked => 0x00
  | .relocking => 0x01
  | .holdover => 0x02
  | .free => 0x03

def BalancerOutcome.code : BalancerOutcome → Byte
  | .none => 0x00
  | .deferredQuiet => 0x01
  | .deferredLink => 0x02
  | .deferredPlan => 0x03
  | .noHot => 0x04
  | .noMove => 0x05
  | .moved => 0x06
  | .advised => 0x07

def Origin.code : Origin → Byte
  | .control => 0x01
  | .service => 0x02
  | .balancer => 0x03

def Severity.code : Severity → Byte
  | .critical => 0x01
  | .major => 0x02
  | .minor => 0x03

/-- The staged-bank state and its holder or origin. -/
def StagedState.bytes : StagedState → List Byte
  | .clean => [0x00, 0x00]
  | .editing ch => [0x01, ch.code]
  | .armed origin _ => [0x02, origin.code]

/-- A sector index in a read, 0xFF for NONE. -/
def sectorByte : Option SectorIx → Byte
  | none => 0xFF
  | some i => byte i.val

/-- A channel's state and the code of its command in progress. -/
def channelBytes : Option InProgress → List Byte
  | none => [0x00, 0x00]
  | some p => [0x01, p.cmd.code]

/-- A list of carriers: a count, then one byte each (R200). -/
def carrierList (cs : List CarrierId) : List Byte := byte cs.length :: cs.map fun c => byte c.val

/-! ## LINK READ (R17, R73, R95, R152, R186) -/

/-- A capability record. -/
def Capability.bytes (c : Capability) : List Byte := formatSetByte c.formats :: (u32 c.serial.toNat ++ u16 c.hint)

/-- The far-end flags as bits. -/
def flagBits (f : Vector FarFlag 4) : Byte :=
  byte ((if f[0].present then 1 else 0) + (if f[1].present then 2 else 0) + (if f[2].present then 4 else 0) +
    (if f[3].present then 8 else 0))

/-- The remote is downlink impaired (R15). -/
def RemoteLink.impaired (l : RemoteLink) : Bool := l.state = .up && l.flags[0].present

/-- The link record in the order of section 1.3, with the impairment (R17). -/
def RemoteLink.bytes (l : RemoteLink) (guard : Nat) : List Byte :=
  [flagByte l.enable, formatSetByte l.offered, l.state.code, l.phase.code, formatCode l.chosen, byte l.negTimer,
    byte l.holdTimer, formatCode l.format] ++
  optional Capability.bytes l.capability ++
  [flagBits l.flags, byte l.flags[0].run, byte l.flags[1].run, byte l.flags[2].run, byte l.flags[3].run,
    byte l.echoRun, flagByte l.sleepAck] ++
  u32 l.framesRx ++ u32 l.alignErr ++ u32 l.missing ++ u32 l.negFail ++ u32 l.lostEntries ++
  [flagByte l.downLatch] ++ u16 l.m ++ u16 l.pmax ++ [byte guard, byte l.badRun, flagByte l.impaired]

/-- The isolation fields: place in the list, return timer and forced field, or none (R152). The first place is 0: the spec
does not say whether places count from 0 or 1 (DESIGN CHOICE, notes/assumptions/33.md). -/
def isoFields (l : List IsoEntry) (r : RemoteId) : List Byte :=
  optional (fun (e : IsoEntry) =>
    byte (l.findIdx fun x => x.remote = r) :: (optional u24 e.timer ++ [flagByte e.forced]))
    (l.find? fun e => e.remote = r)

/-- The placement fields (R73), with the carriers that the reader may see. -/
def PlacementRecord.bytes (p : PlacementRecord) (see : CarrierId → Bool) : List Byte :=
  carrierList (p.routed.filter see) ++ u16 p.routedUnits ++ carrierList (p.placed.filter see) ++ [byte p.units] ++
    carrierList (p.shed.filter see) ++ u16 p.power ++ [byte p.backoff, flagByte p.overload, flagByte p.sleep] ++
    (p.factors.filter fun f => see f.1).flatMap fun f => u16 f.2

namespace State

/-- The combiner's fields for a remote (R95). -/
def guardFields (s : State) (r : RemoteId) (see : CarrierId → Bool) : List Byte :=
  [byte s.comb.guard[r], byte s.comb.recover[r]] ++ u16 (effectiveMultiplier s.rl[r].mEff s.comb.guard[r]) ++
    ((s.record r).placed.filter see).flatMap fun c =>
      (if (s.gate r c).isOpen then (0x01 : Byte) else 0x00) :: u16 (s.gate r c).counter

/-- The carriers that a channel may see in a filtered read: all on the control channel, those of the attached operator on
the service channel (R186). -/
def sees (s : State) (ch : Channel) (c : CarrierId) : Bool :=
  match ch with
  | .control => true
  | .service => s.mgmt.scope.isSome && s.plan.owner c = s.mgmt.scope

/-- The data of LINK READ. R72 says that the acknowledgement and its agreement or disagreement with the sleep order are
reported; no list of the fields (R17, R73, R95, R152) has a field for the agreement. The model sends the acknowledgement and
the order, from which it follows, and no field of its own (DESIGN CHOICE, notes/assumptions/38.md). -/
def linkReadData (s : State) (ch : Channel) (r : RemoteId) : List Byte :=
  s.rl[r].bytes s.comb.guard[r] ++ isoFields s.mode.isolated r ++ (s.record r).bytes (s.sees ch) ++
    s.guardFields r (s.sees ch)

/-! ## STATUS (R152, R173, R186, R192) -/

/-- The counters of an operator link or the trunk. -/
def termCounters (t : TermLink) : List Byte := u32 t.framesRx ++ u32 t.alignErr ++ u32 t.lostEntries

/-- An isolation list entry in STATUS (R152). -/
def isoBytes (e : IsoEntry) : List Byte :=
  byte e.remote.val :: (u32 e.entered.toNat ++ u16 e.delay ++ optional u24 e.timer ++ [flagByte e.forced])

/-- The Mode and Isolation Unit's fields in STATUS (R152). -/
def modeFields (u : ModeUnit) : List Byte :=
  [u.mode.code] ++ optional (fun (m : HubMode) => [m.code]) u.requested ++
    optional (fun (m : HubMode) => [m.code]) u.auto ++ [flagByte u.aqEnable] ++ u16 u.quietLevel ++
    [byte u.quietWindows] ++ u16 u.wakeLevel ++ [byte u.quietRun, byte u.isolated.length] ++
    u.isolated.flatMap isoBytes ++
    optional (fun (p : PendingIso) => byte p.remote.val :: (u16 p.delay ++ [flagByte p.force])) u.pendingIso

/-- The counts of a list of alarm entries (R173). -/
def countFields (l : List AlarmEntry) : List Byte :=
  [byte (Supervision.activeCount l .critical), byte (Supervision.activeCount l .major),
    byte (Supervision.activeCount l .minor), byte (Supervision.clearedCount l)]

/-- An entry belongs to the filtered list of an operator (R164). -/
def inFiltered (p : OpId) (e : AlarmEntry) : Bool :=
  match e.key.obj with
  | .remote _ => true
  | .operator o => o = p
  | .sector x => sectorOp x = p
  | .device => false

/-- The alarm list as a channel reads it (R164). -/
def listFor (s : State) (ch : Channel) : List AlarmEntry :=
  match ch, s.mgmt.scope with
  | .control, _ => s.sup.alarms
  | .service, some p => s.sup.alarms.filter (inFiltered p)
  | .service, none => []

/-- The fields of STATUS that every reader sees first: identity, count, Timebase and trunk (R192). -/
def statusHead (s : State) : List Byte :=
  u16 0x6420 ++ [0x01] ++ u32 s.tb.count.toNat ++ [s.tb.reference.code, s.tb.state.code, s.trunk.state.code]

/-- The states of the remote links (R192). -/
def remoteStates (s : State) : List Byte := allRemotes.map fun r => s.rl[r].state.code

/-- An operator link's state and has-been-UP marker (R192). -/
def opStatus (s : State) (o : OpId) : List Byte := [s.ol[o].state.code, flagByte s.ol[o].beenUp]

/-- The service scope (section 10.4). -/
def scopeByte (s : State) : Byte :=
  match s.mgmt.scope with
  | some o => byte o.val
  | none => 0xFF

/-- The data of STATUS on the control channel (R192). The free places do not include the one that STATUS itself
claimed. -/
def statusControl (s : State) : List Byte :=
  s.statusHead ++ allOps.flatMap s.opStatus ++ allOps.flatMap (fun o => termCounters s.ol[o]) ++ termCounters s.trunk ++
    s.remoteStates ++ channelBytes s.mgmt.control ++ channelBytes s.mgmt.service ++
    [s.scopeByte, flagByte s.mgmt.barred, byte (s.mgmt.free - 1)] ++ u32 s.mgmt.discards ++ u32 s.mgmt.dropped ++
    modeFields s.mode ++ countFields s.sup.alarms ++ [flagByte s.sup.overflow] ++ u16 s.sup.seq.toNat ++
    [flagByte s.sup.pending, flagByte s.sup.enable]

/-- The data of STATUS on the service channel, filtered (R186). -/
def statusService (s : State) : List Byte :=
  s.statusHead ++
    (match s.mgmt.scope with
     | some p => s.opStatus p
     | none => []) ++
    s.remoteStates ++ channelBytes s.mgmt.service ++ [s.scopeByte, s.mode.mode.code] ++
    (match s.mgmt.scope with
     | some _ => countFields (s.listFor .service)
     | none => []) ++
    [flagByte s.sup.overflow] ++ u16 s.sup.seq.toNat

/-- The data of STATUS. -/
def statusData (s : State) (ch : Channel) : List Byte :=
  match ch with
  | .control => s.statusControl
  | .service => s.statusService

/-! ## PLAN READ (R48) -/

/-- A sector record. -/
def sectorBytes (x : SectorRec) : List Byte := carrierList x.carriers ++ [byte x.h]

/-- A zone entry. -/
def zoneBytes (z : Zone) : List Byte :=
  [sectorByte z.home, sectorByte z.cur, flagByte z.pinned, byte z.alts.length] ++ z.alts.map fun i => byte i.val

/-- A DEFINED carrier's identity fields and set values (R48). The record opens with the carrier number, which R48 does not list
and R200 does not lay out (DESIGN CHOICE, notes/assumptions/35.md). -/
def carrierBytes (s : State) (c : CarrierId) (p : CarrierPlace) : List Byte :=
  let k := s.carrier c
  [byte c.val, byte p.op.val, byte p.slot.val, byte p.width, byte k.priority, flagByte k.eventOnly] ++ u16 k.set.mdl ++
    u16 k.set.power ++ u16 k.set.activity ++ u16 k.set.gate ++ [byte k.set.hold]

/-- The records of the DEFINED carriers of an operator, as a list with its count. -/
def carriersOf (s : State) (o : OpId) : List Byte :=
  let mine := allCarriers.filter fun c => s.plan.owner c = some o
  byte mine.length :: mine.flatMap fun c =>
    match (s.carrier c).place with
    | some p => s.carrierBytes c p
    | none => []

/-- The data of PLAN READ. -/
def planReadData (s : State) (o : OpId) (staged : Bool) (part : PlanPart) : List Byte :=
  let p := s.opPlan o
  let b := if staged then p.staged else p.active
  p.state.bytes ++
    match part with
    | .sectors => allSectorIxs.flatMap fun i => sectorBytes b.sectors[i]
    | .zones => allRemotes.flatMap fun r => zoneBytes b.zones[r]
    | .carriers => s.carriersOf o

/-! ## MEASURE READ (R108, R109) -/

/-- The header of every MEASURE READ. -/
def measureHeader (m : Measurement) : List Byte :=
  u32 m.snap.closing.toNat ++ [byte m.snap.length, byte m.position, byte m.wForce, byte m.wSet] ++ u16 m.satLimit ++
    [byte m.recoverWindows]

/-- The load and saturation count of a sector. -/
def loadBytes (n : Snapshot) (x : SectorId) : List Byte := u16 n.load[x] ++ u16 n.sat[x]

/-- The data of MEASURE READ (R108, R109). The OCCUPANCY of a service channel is the two-byte values of the attached
operator's carriers in ascending carrier number, with neither a count nor the carrier numbers: the spec gives that list no
byte layout (DESIGN CHOICE, notes/assumptions/32.md). -/
def measureReadData (s : State) (ch : Channel) (part : MeasurePart) : List Byte :=
  let n := s.meas.snap
  measureHeader s.meas ++
    match part with
    | .sectors o => allSectorIxs.flatMap fun i => loadBytes n (sectorOf o i)
    | .allSectors => allSectors.flatMap (loadBytes n)
    | .shares o => allRemotes.flatMap fun r => u16 n.share[o][r]
    | .occupancy r => (allCarriers.filter (s.sees ch)).flatMap fun c => u16 n.occ[r][c]
    | .peaks => allRemotes.flatMap fun r => u16 n.peak[r]

/-! ## BALANCE READ (R132) -/

/-- A last move record (R124). -/
def lastMoveBytes (x : LastMove) : List Byte :=
  u32 x.closing.toNat ++ [byte x.remote.val, byte x.fromSector.val, byte x.toSector.val] ++ u16 x.share ++
    [x.origin.code]

/-- The data of BALANCE READ. -/
def balanceReadData (s : State) (o : OpId) : List Byte :=
  let b := s.bal[o]
  [b.mode.code] ++ u16 b.hotLevel ++ u16 b.minShare ++ [byte b.holdWindows, b.outcome.code] ++ u32 b.outcomeAt.toNat ++
    u16 b.deferrals ++ u16 b.moves ++ optional Advice.bytes b.advice ++ optional lastMoveBytes b.lastMove ++
    allRemotes.map fun r => byte b.holdOff[r]

/-! ## ALARM LIST (R163, R202) -/

/-- An alarm entry at a position. -/
def entryBytes (e : AlarmEntry) (position : Nat) : List Byte :=
  [byte position, byte e.key.kind.code, e.key.obj.code, e.key.kind.severity.code,
    if e.active then 0x01 else 0x02] ++ u32 e.first.toNat ++ u32 e.last.toNat ++ u16 e.occ

/-- The entries that a read returns. -/
def page (l : List AlarmEntry) (start : Nat) : List AlarmEntry := (l.drop start).take 12

/-- The data of ALARM LIST. -/
def alarmListData (s : State) (ch : Channel) (start : Nat) : List Byte :=
  let l := s.listFor ch
  let shown := page l start
  u16 s.sup.seq.toNat ++ [flagByte s.sup.overflow, byte l.length, byte start, byte shown.length] ++
    (shown.zipIdx start).flatMap fun e => entryBytes e.1 e.2

end State

end Sys2Proof.Machine
end

