-- ==== Sys2Proof/Machine/Requests.lean ====
section
/-! DEFINITION. The requests of the management channels: the scope test of each class (R185, R199) and what each command's
own rule decides (tests 6 and 7 of R179). -/

namespace Sys2Proof.Machine

/-! ## Scope (R185, R199) -/

/-- Venue commands: the control channel alone. -/
def venueScope (ch : Channel) (_ps : List Byte) (_s : State) : ScopeVerdict :=
  match ch with
  | .control => .taken
  | .service => .outOfScope

/-- STATUS and ABORT: any channel. -/
def anyScope (_ch : Channel) (_ps : List Byte) (_s : State) : ScopeVerdict := .taken

/-- Filtered reads: the control channel, and the service channel with scope. -/
def filteredScope (ch : Channel) (_ps : List Byte) (s : State) : ScopeVerdict :=
  match ch with
  | .control => .taken
  | .service => if s.mgmt.scope.isSome then .taken else .outOfScope

/-- ATTACH: the service channel. -/
def attachScope (ch : Channel) (_ps : List Byte) (_s : State) : ScopeVerdict :=
  match ch with
  | .control => .outOfScope
  | .service => .taken

/-- DETACH: the service channel with scope. -/
def detachScope (ch : Channel) (_ps : List Byte) (s : State) : ScopeVerdict :=
  match ch with
  | .control => .outOfScope
  | .service => if s.mgmt.scope.isSome then .taken else .outOfScope

/-- A command taken on the service channel when a test on its parameters says that it concerns the attached operator
alone. -/
def ownScope (concerns : OpId → List Byte → State → ScopeVerdict) (ch : Channel) (ps : List Byte) (s : State) :
    ScopeVerdict :=
  match ch, s.mgmt.scope with
  | .control, _ => .taken
  | .service, none => .outOfScope
  | .service, some p => concerns p ps s

/-- A byte names the attached operator, or not. -/
def names (p : OpId) (b : Byte) : ScopeVerdict := if b.toNat = p.val then .taken else .outOfScope

/-- The command names its operator in its first byte. -/
def concernsFirst (p : OpId) (ps : List Byte) (_s : State) : ScopeVerdict :=
  match ps with
  | [] => .badParameter
  | o :: _ => names p o

/-- CARRIER SET concerns the operator it names and the owner of a DEFINED carrier (R30). -/
def concernsCarrierSet (p : OpId) (ps : List Byte) (s : State) : ScopeVerdict :=
  match ps with
  | c :: o :: _ =>
    match (carrierOf c).bind s.plan.owner with
    | some q => if q = p then names p o else .outOfScope
    | none => names p o
  | _ => .badParameter

/-- CARRIER CLEAR concerns the owner of the carrier; a carrier without owner concerns no operator (R32, R185). -/
def concernsCarrierClear (p : OpId) (ps : List Byte) (s : State) : ScopeVerdict :=
  match ps with
  | c :: _ => if (carrierOf c).bind s.plan.owner = some p then .taken else .outOfScope
  | [] => .badParameter

/-- What a MEASURE READ concerns (R109, R203). -/
def concernsMeasure (p : OpId) (ps : List Byte) (_s : State) : ScopeVerdict :=
  match ps with
  | [] => .badParameter
  | part :: rest =>
    match part.toNat, rest with
    | 0, [] => .badParameter
    | 0, x :: _ => names p x
    | 1, [] => .badParameter
    | 1, x :: _ => names p x
    | 2, _ => .taken
    | _, _ => .outOfScope

/-- BAD_PARAMETER when the parameters are refused (R184). -/
def withParams {α : Type} (p : Option α) (s : State) (f : α → Answer) : Answer :=
  match p with
  | none => refuse .badParameter s
  | some a => f a

/-! ## Venue commands -/

/-- ACCESS SET (R190). -/
def doAccessSet (_ch : Channel) (ps : List Byte) (s : State) : Answer :=
  withParams (codeParams ps) s fun (o, code) =>
    let s' := if s.mgmt.scope = some o ∧ s.mgmt.codes[o] ≠ code then s.dropScope else s
    answerDone false { s' with mgmt := { s'.mgmt with codes := s'.mgmt.codes.set o code } }

/-- RELEASE (R189). -/
def doRelease (_ch : Channel) (ps : List Byte) (s : State) : Answer :=
  withParams (noParams ps) s fun _ =>
    if s.mgmt.barred then
      answerDone false ({ s with mgmt := { s.mgmt with barred := false } }.clear ⟨.accessBarred, .device⟩)
    else refuse .nothingPending s

/-- The enable setting of a LINK SET (R18, R150). -/
def applyEnable (s : State) (x : LinkSettings) : State :=
  let off := s.rl[x.remote].state = .off
  let s := s.modRl x.remote fun l => { l with enable := x.enable }
  if x.enable then if off then s.restart x.remote else s
  else if off then s else (s.unlist x.remote).disable x.remote

/-- A new offered set restarts the link in the cases of R19. -/
def offeredRestarts (l : RemoteLink) (f : FormatSet) : Bool :=
  match l.state with
  | .negotiate =>
    match l.chosen with
    | some c => l.phase ≠ .awaitCapability && !f.has c
    | none => false
  | .up =>
    match l.format with
    | some c => !f.has c
    | none => false
  | .mismatch => f ≠ l.offered
  | _ => false

/-- The offered set of a LINK SET (R19). -/
def applyOffered (s : State) (x : LinkSettings) : State :=
  let again := offeredRestarts s.rl[x.remote] x.offered
  let s := s.modRl x.remote fun l => { l with offered := x.offered }
  if again then s.restart x.remote else s

/-- LINK SET (R18 to R20). -/
def doLinkSet (_ch : Channel) (ps : List Byte) (s : State) : Answer :=
  withParams (linkParams ps) s fun x =>
    let s := applyOffered (applyEnable s x) x
    let s := s.modRl x.remote fun l => { l with m := clamp 0 4096 x.m, pmax := clamp 1 4000 x.pmax }
    answerDone (clamped 0 4096 x.m || clamped 1 4000 x.pmax) s

/-- LINK RESTART (R21). -/
def doLinkRestart (_ch : Channel) (ps : List Byte) (s : State) : Answer :=
  withParams (remoteParams ps) s fun r =>
    match s.rl[r].state with
    | .isolated => refuse .isolated s
    | .off => answerDone false s
    | _ => answerDone false (s.restart r)

/-- The Timebase state that a new selection gives (R27). -/
def timingState (s : State) (ref : Reference) : TimebaseState :=
  match State.referenceLink ref with
  | none => .free
  | some l =>
    if (s.term l).state ≠ .up then .holdover
    else if ref = s.tb.reference ∧ s.tb.state = .locked then .locked
    else .relocking

/-- TIMING SET (R27). -/
def doTimingSet (_ch : Channel) (ps : List Byte) (s : State) : Answer :=
  withParams (referenceParams ps) s fun ref =>
    answerDone false ({ s with tb := { s.tb with reference := ref } }.setTimebase (timingState s ref))

/-- WINDOW SET (R100). -/
def doWindowSet (_ch : Channel) (ps : List Byte) (s : State) : Answer :=
  withParams (windowParams ps) s fun (w, limit, n) =>
    answerDone (clamped 1 255 w || clamped 1 255 n)
      { s with meas := { s.meas with wSet := clamp 1 255 w, satLimit := limit, recoverWindows := clamp 1 255 n } }

/-- QUIET SET (R140). -/
def doQuietSet (_ch : Channel) (ps : List Byte) (s : State) : Answer :=
  withParams (quietParams ps) s fun x =>
    answerDone (clamped 0 4095 x.level || clamped 1 255 x.windows || clamped 0 4095 x.wake)
      { s with mode :=
        { s.mode with
          aqEnable := x.enable
          quietLevel := clamp 0 4095 x.level
          quietWindows := clamp 1 255 x.windows
          wakeLevel := clamp 0 4095 x.wake
          quietRun := 0
          auto := if x.enable then s.mode.auto else none } }

/-- MODE SET (R138). -/
def doModeSet (_ch : Channel) (ps : List Byte) (s : State) : Answer :=
  withParams (modeParams ps) s fun m => .later .modeSet { s with mode := { s.mode with requested := some m } }

/-- The renewal of a listed remote (R145). -/
def renew (s : State) (r : RemoteId) (delay : Nat) (force : Bool) : State :=
  { s with mode :=
    { s.mode with isolated := s.mode.isolated.map fun e =>
        if e.remote = r then { e with delay := delay, timer := State.returnTimer delay, forced := force } else e } }

/-- ISOLATE (R144, R145). -/
def doIsolate (_ch : Channel) (ps : List Byte) (s : State) : Answer :=
  withParams (isolateParams ps) s fun (r, d, force) =>
    let delay := clamp 0 3600 d
    let flag := clamped 0 3600 d
    if s.mode.isolated.any fun e => e.remote = r then answerDone flag (renew s r delay force)
    else if s.rl[r].state = .off then .now .wrongMode flag [] s
    else if isolationCapacity ≤ s.mode.isolated.length then .now .listFull flag [] s
    else
      match (if force then none else s.darkening r) with
      | some x => .now .wouldDarken flag [(Obj.sector x).code] s
      | none => .later (.isolate flag) { s with mode := { s.mode with pendingIso := some ⟨r, delay, force⟩ } }

/-- RESTORE (R149). -/
def doRestore (_ch : Channel) (ps : List Byte) (s : State) : Answer :=
  withParams (remoteParams ps) s fun r =>
    if s.mode.isolated.any fun e => e.remote = r then answerDone false ((s.unlist r).restart r)
    else refuse .nothingPending s

/-- ALERT SET (R171, R200). -/
def doAlertSet (_ch : Channel) (ps : List Byte) (s : State) : Answer :=
  withParams (alertParams ps) s fun (on, masks) =>
    let stop := s.sup.enable && !on
    let sup := { s.sup with enable := on, masks := masks, pending := s.sup.pending && !stop }
    let alert := if stop && !s.alertBegun then none else s.mgmt.alert
    .now .done false (flagByte on :: u16 masks.toNat) { s with sup := sup, mgmt := { s.mgmt with alert := alert } }

/-- ALARM ACK (R165, R200). -/
def doAlarmAck (_ch : Channel) (ps : List Byte) (s : State) : Answer :=
  withParams (ackParams ps) s fun keys =>
    let (sup, outcomes) := s.sup.ack s.tb.count keys
    .now .done false (flagByte sup.overflow :: byte keys.length :: outcomes.map Supervision.AckOutcome.code)
      { s with sup := sup }

/-- WARM (R193). -/
def doWarm (_ch : Channel) (ps : List Byte) (s : State) : Answer := withParams (noParams ps) s fun _ => .later .warm s

/-- COLD (R194). -/
def doCold (_ch : Channel) (ps : List Byte) (s : State) : Answer := withParams (noParams ps) s fun _ => .cold s

/-! ## The carrier table (R30 to R32) -/

/-- The level fields clamped into their ranges (R29, R30). -/
def clampLevels (x : Levels) : Levels where
  mdl := clamp 0 4096 x.mdl
  power := clamp 1 1000 x.power
  activity := clamp 0 32767 x.activity
  gate := clamp 0 32767 x.gate
  hold := clamp 0 255 x.hold

/-- A carrier is listed in some sector of the active or the staged bank of its operator (R30). -/
def isListed (s : State) (c : CarrierId) : Bool :=
  match s.plan.owner c with
  | some o => (s.opPlan o).active.lists c || (s.opPlan o).staged.lists c
  | none => false

/-- Another DEFINED carrier of an operator holds a slot (R30). -/
def slotHeld (s : State) (c : CarrierId) (o : OpId) (slot : SlotIx) : Bool :=
  allCarriers.any fun d => d ≠ c &&
    match (s.carrier d).place with
    | some p => p.op = o && p.slot = slot
    | none => false

/-- CARRIER SET (R30, R31, R203). -/
def doCarrierSet (_ch : Channel) (ps : List Byte) (s : State) : Answer :=
  withParams (carrierSetParams ps) s fun x =>
    let width := clamp 1 4 x.width
    let priority := clamp 0 7 x.priority
    let levels := clampLevels x.levels
    let flag := clamped 1 4 x.width || clamped 0 7 x.priority || levels ≠ x.levels
    let place : CarrierPlace := ⟨x.op, x.slot, width⟩
    let k := s.carrier x.carrier
    let identity := k.place = some place && k.priority = priority && k.eventOnly = x.eventOnly
    if slotHeld s x.carrier x.op x.slot then .now .inUse flag [] s
    else if isListed s x.carrier && !identity then .now .inUse flag [] s
    else
      let s := if k.place = some place then s else s.dropOutputs x.carrier
      answerDone flag (s.modCarrier x.carrier fun k =>
        { k with place := some place, priority := priority, eventOnly := x.eventOnly, set := levels })

/-- CARRIER CLEAR (R32). -/
def doCarrierClear (_ch : Channel) (ps : List Byte) (s : State) : Answer :=
  withParams (carrierParams ps) s fun c =>
    if isListed s c then refuse .inUse s
    else if (s.carrier c).place.isSome then
      answerDone false ((s.dropOutputs c).modCarrier c fun _ => CarrierRecord.unused)
    else answerDone false s

/-! ## Editing and committing plans (R35 to R47) -/

/-- The verdict of the staged-bank state on an edit (R35): the refusal, if there is one. -/
def editRefusal (st : StagedState) (ch : Channel) : Option Result :=
  match st with
  | .clean => none
  | .editing holder => if holder = ch then none else some .held
  | .armed _ _ => some .switchPending

/-- An edit of an operator's staged bank, admitted by its state (R35, R37). -/
def edit (ch : Channel) (o : OpId) (flag : Bool) (f : Bank → Bank) (s : State) : Answer :=
  match editRefusal (s.opPlan o).state ch with
  | some x => refuse x s
  | none => answerDone flag (s.modPlan o fun p => { p with staged := f p.staged, state := .editing ch })

/-- The bank after PLAN SECTOR (R38): the list in ascending order, its carriers removed from every other sector. -/
def editSector (x : SectorEdit) (h : Nat) (b : Bank) : Bank :=
  { b with sectors := tab fun i =>
      if i = x.sector then ⟨allCarriers.filter fun c => x.carriers.contains c, h⟩
      else { b.sectors[i] with carriers := b.sectors[i].carriers.filter fun c => !x.carriers.contains c } }

/-- PLAN SECTOR (R38). -/
def doPlanSector (ch : Channel) (ps : List Byte) (s : State) : Answer :=
  withParams (sectorParams ps) s fun x =>
    if x.carriers.all fun c => s.plan.owner c = some x.op then
      edit ch x.op (clamped 0 4 x.h) (editSector x (clamp 0 4 x.h)) s
    else refuse .badParameter s

/-- The bank after PLAN ZONE (R39). -/
def editZone (x : ZoneEdit) (b : Bank) : Bank :=
  { b with zones := b.zones.set x.remote ⟨x.home, x.home, x.pinned, x.alts⟩ }

/-- PLAN ZONE (R39). -/
def doPlanZone (ch : Channel) (ps : List Byte) (s : State) : Answer :=
  withParams (zoneParams ps) s fun x => edit ch x.op false (editZone x) s

/-- The bank after PLAN HOME (R40). -/
def editHome (b : Bank) : Bank := { b with zones := tab fun r => { b.zones[r] with cur := b.zones[r].home } }

/-- PLAN HOME (R40). -/
def doPlanHome (ch : Channel) (ps : List Byte) (s : State) : Answer :=
  withParams (opParams ps) s fun o => edit ch o false editHome s

/-- PLAN COMMIT (R35, R42, R43). -/
def doPlanCommit (ch : Channel) (ps : List Byte) (s : State) : Answer :=
  withParams (opParams ps) s fun o =>
    match (s.opPlan o).state with
    | .clean => refuse .nothingPending s
    | .armed _ _ => refuse .switchPending s
    | .editing holder =>
      if holder ≠ ch then refuse .held s
      else
        match s.fitFailure o with
        | some (r, units) => .now .noFit false (byte r.val :: u16 units) s
        | none => .later (.planCommit o) (s.modPlan o fun p => { p with state := .armed ch.origin true })

/-- The active bank is copied into the staged bank, which is CLEAN (R44, R47). -/
def revert (s : State) (o : OpId) : State := s.modPlan o fun p => { p with staged := p.active, state := .clean }

/-- PLAN REVERT (R35, R47). -/
def doPlanRevert (ch : Channel) (ps : List Byte) (s : State) : Answer :=
  withParams (opParams ps) s fun o =>
    match (s.opPlan o).state with
    | .clean => refuse .nothingPending s
    | .armed _ _ => refuse .switchPending s
    | .editing holder => if holder ≠ ch ∧ ch = .service then refuse .held s else answerDone false (revert s o)

/-! ## Balancer commands (R113, R114, R128 to R130) -/

/-- BALANCE SET (R113, R114). -/
def doBalanceSet (_ch : Channel) (ps : List Byte) (s : State) : Answer :=
  withParams (balanceParams ps) s fun x =>
    answerDone (clamped 0 4095 x.hotLevel || clamped 0 1024 x.minShare || clamped 1 63 x.holdWindows)
      (s.modBal x.op fun b =>
        { b with
          mode := x.mode
          hotLevel := clamp 0 4095 x.hotLevel
          minShare := clamp 0 1024 x.minShare
          holdWindows := clamp 1 63 x.holdWindows
          advice := if x.mode = b.mode then b.advice else none })

/-- The tests that a taken advice must pass (R129). -/
def adviceHolds (s : State) (o : OpId) (a : Advice) : Bool :=
  let b := (s.opPlan o).active
  let z := b.zones[a.remote]
  z.cur = some a.fromSector && !z.pinned && (z.home = some a.toSector || z.alts.contains a.toSector) &&
    s.plan.inService s.mode.mode b a.toSector && s.bal[o].holdOff[a.remote] = 0 && (s.opPlan o).state = .clean &&
    s.trialPasses a.remote o a.toSector

/-- BALANCE ACCEPT (R128 to R130). -/
def doBalanceAccept (ch : Channel) (ps : List Byte) (s : State) : Answer :=
  withParams (opParams ps) s fun o =>
    if s.mode.mode = .quiet then refuse .wrongMode s
    else
      match s.bal[o].advice with
      | none => refuse .nothingPending s
      | some a =>
        let s' := s.modBal o fun b => { b with advice := none }
        if adviceHolds s o a then .later (.balanceAccept o a) (s'.stageMove o a.remote a.toSector ch.origin)
        else .now .stale false a.bytes s'

/-! ## Reads -/

/-- STATUS (R192). -/
def doStatus (ch : Channel) (ps : List Byte) (s : State) : Answer :=
  withParams (noParams ps) s fun _ => .now .done false (s.statusData ch) s

/-- LINK READ (R17): the latch is returned as it stood, and cleared. -/
def doLinkRead (ch : Channel) (ps : List Byte) (s : State) : Answer :=
  withParams (remoteParams ps) s fun r =>
    .now .done false (s.linkReadData ch r) (s.modRl r fun l => { l with downLatch := false })

/-- PLAN READ (R48). -/
def doPlanRead (_ch : Channel) (ps : List Byte) (s : State) : Answer :=
  withParams (planReadParams ps) s fun (o, staged, part) => .now .done false (s.planReadData o staged part) s

/-- MEASURE READ (R108). -/
def doMeasureRead (ch : Channel) (ps : List Byte) (s : State) : Answer :=
  withParams (measureParams ps) s fun part => .now .done false (s.measureReadData ch part) s

/-- BALANCE READ (R132). -/
def doBalanceRead (_ch : Channel) (ps : List Byte) (s : State) : Answer :=
  withParams (opParams ps) s fun o => .now .done false (s.balanceReadData o) s

/-- ALARM LIST (R163). -/
def doAlarmList (ch : Channel) (ps : List Byte) (s : State) : Answer :=
  withParams (startParams ps) s fun start => .now .done false (s.alarmListData ch start) s

/-! ## The service channel and ABORT (R183, R187, R188) -/

/-- ATTACH (R187). -/
def doAttach (_ch : Channel) (ps : List Byte) (s : State) : Answer :=
  withParams (codeParams ps) s fun (o, code) =>
    if s.mgmt.codes[o] = 0 then refuse .outOfScope s
    else if s.mgmt.codes[o] = code then answerDone false { s with mgmt := { s.mgmt with scope := some o } }
    else .now .barred false []
      ({ s with mgmt := { s.mgmt with scope := none, barred := true } }.raise ⟨.accessBarred, .device⟩)

/-- DETACH (R188). -/
def doDetach (_ch : Channel) (ps : List Byte) (s : State) : Answer :=
  withParams (noParams ps) s fun _ => answerDone false s.dropScope

/-- The cancellation of an ARMED bank (R44). -/
def cancelArmed (s : State) (o : OpId) (ch : Channel) : State :=
  match (s.opPlan o).state with
  | .armed _ true => s.modPlan o fun p => { p with state := .editing ch }
  | .armed _ false => revert s o
  | _ => s

/-- ABORT (R45, R138, R147, R183). -/
def doAbort (ch : Channel) (ps : List Byte) (s : State) : Answer :=
  withParams (noParams ps) s fun _ =>
    match (s.mgmt.busy ch).map InProgress.cmd with
    | some (.planCommit o) => answerDone false ((cancelArmed s o ch).complete ch .aborted false [])
    | some (.balanceAccept o a) => answerDone false ((cancelArmed s o ch).complete ch .aborted false a.bytes)
    | some .modeSet =>
      answerDone false
        ({ s with mode := { s.mode with requested := none } }.complete ch .aborted false [])
    | some (.isolate flag) =>
      answerDone false
        ({ s with mode := { s.mode with pendingIso := none } }.complete ch .aborted flag [])
    | some .warm => refuse .nothingPending s
    | some .cold => refuse .nothingPending s
    | none => refuse .nothingPending s

/-- UNKNOWN_COMMAND (R179). -/
def doUnknown (_ch : Channel) (_ps : List Byte) (s : State) : Answer := refuse .unknownCommand s

end Sys2Proof.Machine
end

