-- ==== Sys2Proof/Machine/Agenda.lean ====
section
/-! DEFINITION. How the steps of the table follow one another: what each step that the hub owes does, and the order in
which owed steps are taken (notes/assumptions/1.md). -/

namespace Sys2Proof.Machine

/-- The place of a step among the steps owed at one instant: relocking, then what concerns links and plans, the pending
isolation (R146), the links that enter UP or restart, the window end or warm reset, what the window end finds, the
ALERT, and last the requests. The rows that stand for an event from outside are never owed. That the raises and clears of
the conditions of links and placement that begin or end at a warm-reset boundary are therefore taken before the list is
emptied there, an order that R158 and R175 leave open, is a DESIGN CHOICE (notes/assumptions/39.md). -/
def phase : Instr → Nat
  | .timebaseRelock _ => 0
  | .levelFieldTakesEffect _ | .linkSettingsTakeEffect _ | .seekRunComplete _ | .farFlagChange _ _ | .echoFailure _
  | .negotiateAlignmentLoss _ | .linkLostEntry _ | .linkSeekToUp _ | .linkUpToLost _ | .linkLostHoldEnd _
  | .gateHoldExpiry _ _ | .switchover _ | .hubModeDecision | .isolationTimerExpiry _ | .coldResetApplied => 1
  | .pendingIsolationApply => 2
  | .negotiationTimeout _ | .linkEntersUp _ | .lostHoldEnd _ => 3
  | .windowEnd | .warmResetApplied => 4
  | .guardStepDown _ | .autoQuietEntry => 5
  | .alertPlacement => 6
  | .accessSet .. | .release .. | .linkSet .. | .linkRestart .. | .timingSet .. | .windowSet .. | .quietSet ..
  | .modeSet .. | .isolate .. | .restore .. | .alertSet .. | .alarmAck .. | .warm .. | .cold .. | .carrierSet ..
  | .carrierClear .. | .planSector .. | .planZone .. | .planHome .. | .planCommit .. | .planRevert ..
  | .balanceSet .. | .balanceAccept .. | .status .. | .linkRead .. | .planRead .. | .measureRead ..
  | .balanceRead .. | .alarmList .. | .attach .. | .detach .. | .abort .. | .unknownCommand .. => 7
  | .resetPinAssert | .resetPinRelease | .linkFrameStart | .superframeBoundary | .remoteFrameReceived _ _
  | .missingFramePeriod _ | .operatorFrameReceived _ _ | .trunkFrameReceived _ | .blockDeadline => 8

/-- The last phase at which the placement inputs of a new superframe can change. -/
def placementPhase : Nat := 3

/-- The phase of the requests. -/
def requestPhase : Nat := 7

/-- What a step does when it is taken. -/
def effect (x : Instr) (s : State) : State :=
  match x with
  | .levelFieldTakesEffect c => s.levelFieldTakesEffect c
  | .linkSettingsTakeEffect r => s.linkSettingsTakeEffect r
  | .seekRunComplete r => s.seekRunComplete r
  | .farFlagChange r flag => s.farFlagChange r flag
  | .echoFailure r => s.echoFailure r
  | .negotiationTimeout r => s.negotiationTimeout r
  | .negotiateAlignmentLoss r => s.negotiateAlignmentLoss r
  | .linkEntersUp r => s.linkEntersUp r
  | .linkLostEntry r => s.linkLostEntry r
  | .lostHoldEnd r => s.lostHoldEnd r
  | .linkSeekToUp l => s.linkSeekToUp l
  | .linkUpToLost l => s.linkUpToLost l
  | .linkLostHoldEnd l => s.linkLostHoldEnd l
  | .timebaseRelock b => s.timebaseRelock b
  | .gateHoldExpiry r c => s.expireGate r c
  | .windowEnd => s.windowEnd
  | .guardStepDown r => s.guardStepDown r
  | .autoQuietEntry => s.autoQuietEntry
  | .switchover o => s.switchover o
  | .hubModeDecision => s.hubModeDecision
  | .pendingIsolationApply => s.pendingIsolationApply
  | .isolationTimerExpiry r => s.isolationTimerExpiry r
  | .warmResetApplied => s.warmResetApplied
  | .coldResetApplied => s.coldReset
  | .alertPlacement => s.alertPlacement
  | .accessSet ch tag ps => s.request 0x10 venueScope doAccessSet ch tag ps
  | .release ch tag ps => s.request 0x11 venueScope doRelease ch tag ps
  | .linkSet ch tag ps => s.request 0x12 venueScope doLinkSet ch tag ps
  | .linkRestart ch tag ps => s.request 0x13 venueScope doLinkRestart ch tag ps
  | .timingSet ch tag ps => s.request 0x14 venueScope doTimingSet ch tag ps
  | .windowSet ch tag ps => s.request 0x15 venueScope doWindowSet ch tag ps
  | .quietSet ch tag ps => s.request 0x16 venueScope doQuietSet ch tag ps
  | .modeSet ch tag ps => s.request 0x17 venueScope doModeSet ch tag ps
  | .isolate ch tag ps => s.request 0x18 venueScope doIsolate ch tag ps
  | .restore ch tag ps => s.request 0x19 venueScope doRestore ch tag ps
  | .alertSet ch tag ps => s.request 0x1A venueScope doAlertSet ch tag ps
  | .alarmAck ch tag ps => s.request 0x1B venueScope doAlarmAck ch tag ps
  | .warm ch tag ps => s.request 0x1E venueScope doWarm ch tag ps
  | .cold ch tag ps => s.request 0x1F venueScope doCold ch tag ps
  | .carrierSet ch tag ps => s.request 0x30 (ownScope concernsCarrierSet) doCarrierSet ch tag ps
  | .carrierClear ch tag ps => s.request 0x31 (ownScope concernsCarrierClear) doCarrierClear ch tag ps
  | .planSector ch tag ps => s.request 0x32 (ownScope concernsFirst) doPlanSector ch tag ps
  | .planZone ch tag ps => s.request 0x33 (ownScope concernsFirst) doPlanZone ch tag ps
  | .planHome ch tag ps => s.request 0x34 (ownScope concernsFirst) doPlanHome ch tag ps
  | .planCommit ch tag ps => s.request 0x35 (ownScope concernsFirst) doPlanCommit ch tag ps
  | .planRevert ch tag ps => s.request 0x36 (ownScope concernsFirst) doPlanRevert ch tag ps
  | .balanceSet ch tag ps => s.request 0x37 (ownScope concernsFirst) doBalanceSet ch tag ps
  | .balanceAccept ch tag ps => s.request 0x38 (ownScope concernsFirst) doBalanceAccept ch tag ps
  | .status ch tag ps => s.request 0x50 anyScope doStatus ch tag ps
  | .linkRead ch tag ps => s.request 0x51 filteredScope doLinkRead ch tag ps
  | .planRead ch tag ps => s.request 0x52 (ownScope concernsFirst) doPlanRead ch tag ps
  | .measureRead ch tag ps => s.request 0x53 (ownScope concernsMeasure) doMeasureRead ch tag ps
  | .balanceRead ch tag ps => s.request 0x54 (ownScope concernsFirst) doBalanceRead ch tag ps
  | .alarmList ch tag ps => s.request 0x55 filteredScope doAlarmList ch tag ps
  | .attach ch tag ps => s.request 0x70 attachScope doAttach ch tag ps
  | .detach ch tag ps => s.request 0x71 detachScope doDetach ch tag ps
  | .abort ch tag ps => s.request 0x7F anyScope doAbort ch tag ps
  | .unknownCommand ch tag code ps => s.request code anyScope doUnknown ch tag ps
  | .resetPinAssert | .resetPinRelease | .linkFrameStart | .superframeBoundary | .remoteFrameReceived _ _
  | .missingFramePeriod _ | .operatorFrameReceived _ _ | .trunkFrameReceived _ | .blockDeadline => s

namespace State

/-- Takes up to n of the owed steps of a phase, in the order in which they became owed. -/
def takePhase (p : Nat) : Nat → State → State
  | 0, s => s
  | n + 1, s =>
    match s.due.find? fun x => phase x = p with
    | none => s
    | some x => takePhase p n (effect x (s.dropDue x))

/-- Takes every owed step of a phase; after the last placement phase of a boundary, the work that waits for all the new
records (R57, R63, R71, R82). -/
def finishPhase (p : Nat) (s : State) : State :=
  let s := s.takePhase p s.due.length
  if p = placementPhase then s.settleBoundary else s

/-- Takes every owed step of the phases below n. -/
def drainTo : Nat → State → State
  | 0, s => s
  | n + 1, s => finishPhase n (drainTo n s)

/-- The boundary that was being taken is over. -/
def endBoundary (s : State) : State := { s with boundary := none }

/-- Takes every owed step: the boundary being taken is over before the requests are taken (R58). An event from outside finds
nothing left of the instant before it. -/
def drain (s : State) : State := (s.drainTo requestPhase).endBoundary.finishPhase requestPhase

/-- An owed step taken by its own command: the owed steps of earlier phases come first. A step that is not owed does not
happen. -/
def owedStep (s : State) (x : Instr) : State :=
  if s.due.contains x then
    let s := s.drainTo (phase x)
    if s.due.contains x then effect x (s.dropDue x) else s
  else s

/-- ALERT_PLACEMENT taken by its own command. It has no fixed place among the steps of its boundary: the ALERT shows what
has been taken before it (R169). -/
def owedFreely (s : State) (x : Instr) : State :=
  if s.due.contains x then effect x (s.dropDue x) else s

/-- A request taken by its own command: one that the trunk has just brought in (R176), which is then owed, or one handed to
the Management Channel Unit after the requests that are owed. -/
def requestStep (s : State) (x : Instr) : State :=
  let s := (s.drainTo requestPhase).endBoundary
  if s.due.contains x then effect x (s.dropDue x) else effect x (s.finishPhase requestPhase)

/-- LINK_FRAME_START, after the boundary that is due when link frame 79 ends (R25). -/
def nextFrame (s : State) : State :=
  let s := s.drain
  let atEnd : Bool := match s.tb.lf with
    | some lf => lastFrame ≤ lf
    | none => false
  (if atEnd then (s.makeBoundary false).drain else s).startFrame

end State

end Sys2Proof.Machine
end

