-- ==== Sys2Proof/Machine/Events.lean ====
section
/-! DEFINITION. The meanings of the rows that are events on the hub's pins, links and time base, and of the steps that
follow from them. -/

namespace Sys2Proof.Machine

/-- What a command answers. -/
abbrev Out := Host.Outcome State Fault Refusal

/-- While the reset pin is asserted, the hub takes nothing (R195). -/
def awake (s : State) (f : State → State) : Out := .next (if s.resetPin then s else f s)

/-- RESET_PIN_ASSERT (R195). -/
def execResetPinAssert (s : State) : Out := awake s fun s => s.assertPin

/-- RESET_PIN_RELEASE (R195). -/
def execResetPinRelease (s : State) : Out := .next s.coldReset

/-- LINK_FRAME_START (R1). -/
def execLinkFrameStart (s : State) : Out := awake s fun s => s.nextFrame

/-- SUPERFRAME_BOUNDARY (R25). -/
def execSuperframeBoundary (s : State) : Out := awake s fun s => s.drain.makeBoundary false

/-- LEVEL_FIELD_TAKES_EFFECT (R31). -/
def execLevelFieldTakesEffect (c : CarrierId) (s : State) : Out :=
  awake s fun s => s.owedStep (.levelFieldTakesEffect c)

/-- LINK_SETTINGS_TAKE_EFFECT (R20). -/
def execLinkSettingsTakeEffect (r : RemoteId) (s : State) : Out :=
  awake s fun s => s.owedStep (.linkSettingsTakeEffect r)

/-- REMOTE_FRAME_RECEIVED (R2). -/
def execRemoteFrameReceived (r : RemoteId) (f : RemoteFrame) (s : State) : Out :=
  awake s fun s => s.drain.remoteFrame r f

/-- MISSING_FRAME_PERIOD (R2). -/
def execMissingFramePeriod (l : LinkId) (s : State) : Out := awake s fun s => s.drain.missingFrame l

/-- SEEK_RUN_COMPLETE (R6). -/
def execSeekRunComplete (r : RemoteId) (s : State) : Out := awake s fun s => s.owedStep (.seekRunComplete r)

/-- FAR_FLAG_CHANGE (R14). -/
def execFarFlagChange (r : RemoteId) (flag : Fin 4) (s : State) : Out :=
  awake s fun s => s.owedStep (.farFlagChange r flag)

/-- ECHO_FAILURE (R14). -/
def execEchoFailure (r : RemoteId) (s : State) : Out := awake s fun s => s.owedStep (.echoFailure r)

/-- NEGOTIATION_TIMEOUT (R8). -/
def execNegotiationTimeout (r : RemoteId) (s : State) : Out := awake s fun s => s.owedStep (.negotiationTimeout r)

/-- NEGOTIATE_ALIGNMENT_LOSS (R8). -/
def execNegotiateAlignmentLoss (r : RemoteId) (s : State) : Out :=
  awake s fun s => s.owedStep (.negotiateAlignmentLoss r)

/-- LINK_ENTERS_UP (R8). -/
def execLinkEntersUp (r : RemoteId) (s : State) : Out := awake s fun s => s.owedStep (.linkEntersUp r)

/-- LINK_LOST_ENTRY (R10). -/
def execLinkLostEntry (r : RemoteId) (s : State) : Out := awake s fun s => s.owedStep (.linkLostEntry r)

/-- LOST_HOLD_END (R11). -/
def execLostHoldEnd (r : RemoteId) (s : State) : Out := awake s fun s => s.owedStep (.lostHoldEnd r)

/-- OPERATOR_FRAME_RECEIVED (R5). -/
def execOperatorFrameReceived (o : OpId) (f : TermFrame) (s : State) : Out :=
  awake s fun s => (s.startAtBoundary (.op o) f).drain.operatorFrame o f

/-- TRUNK_FRAME_RECEIVED (R24). -/
def execTrunkFrameReceived (f : TermFrame) (s : State) : Out := awake s fun s => (s.startAtBoundary .trunk f).drain.trunkFrame f

/-- LINK_SEEK_TO_UP (R22). -/
def execLinkSeekToUp (l : TermLinkId) (s : State) : Out := awake s fun s => s.owedStep (.linkSeekToUp l)

/-- LINK_UP_TO_LOST (R22). -/
def execLinkUpToLost (l : TermLinkId) (s : State) : Out := awake s fun s => s.owedStep (.linkUpToLost l)

/-- LINK_LOST_HOLD_END (R22). -/
def execLinkLostHoldEnd (l : TermLinkId) (s : State) : Out := awake s fun s => s.owedStep (.linkLostHoldEnd l)

/-- TIMEBASE_RELOCK (R26). -/
def execTimebaseRelock (atBoundary : Bool) (s : State) : Out :=
  awake s fun s => s.owedStep (.timebaseRelock atBoundary)

/-- GATE_HOLD_EXPIRY (R81). -/
def execGateHoldExpiry (r : RemoteId) (c : CarrierId) (s : State) : Out :=
  awake s fun s => s.owedStep (.gateHoldExpiry r c)

/-- BLOCK_DEADLINE (R78). The row names no link frame: the model takes it as the end of the link frame in progress, and so
as the deadline of every block of an earlier one (DESIGN CHOICE, notes/assumptions/31.md). -/
def execBlockDeadline (s : State) : Out := awake s fun s => let s := s.drain; s.deadline (s.tb.label - 1)

/-- WINDOW_END (R98). -/
def execWindowEnd (s : State) : Out := awake s fun s => s.owedStep .windowEnd

/-- GUARD_STEP_DOWN (R93). -/
def execGuardStepDown (r : RemoteId) (s : State) : Out := awake s fun s => s.owedStep (.guardStepDown r)

/-- AUTO_QUIET_ENTRY (R141). -/
def execAutoQuietEntry (s : State) : Out := awake s fun s => s.owedStep .autoQuietEntry

/-- SWITCHOVER (R41). -/
def execSwitchover (o : OpId) (s : State) : Out := awake s fun s => s.owedStep (.switchover o)

/-- HUB_MODE_DECISION (R136). -/
def execHubModeDecision (s : State) : Out := awake s fun s => s.owedStep .hubModeDecision

/-- PENDING_ISOLATION_APPLY (R146). -/
def execPendingIsolationApply (s : State) : Out := awake s fun s => s.owedStep .pendingIsolationApply

/-- ISOLATION_TIMER_EXPIRY (R148). -/
def execIsolationTimerExpiry (r : RemoteId) (s : State) : Out := awake s fun s => s.owedStep (.isolationTimerExpiry r)

/-- WARM_RESET_APPLIED (R193). -/
def execWarmResetApplied (s : State) : Out := awake s fun s => s.owedStep .warmResetApplied

/-- COLD_RESET_APPLIED (R194). -/
def execColdResetApplied (s : State) : Out := awake s fun s => s.owedStep .coldResetApplied

/-- ALERT_PLACEMENT (R169). -/
def execAlertPlacement (s : State) : Out := awake s fun s => s.owedFreely .alertPlacement

end Sys2Proof.Machine
end

