-- ==== Sys2Proof/Machine/Commands.lean ====
section
/-! DEFINITION. The meanings of the requests of the management channels (section 10.4). -/

namespace Sys2Proof.Machine

/-- ACCESS_SET (R190). -/
def execAccessSet (ch : Byte) (tag : Byte) (params : List Byte) (s : State) : Out :=
  awake s fun s => s.requestStep (.accessSet ch tag params)

/-- RELEASE (R189). -/
def execRelease (ch : Byte) (tag : Byte) (params : List Byte) (s : State) : Out :=
  awake s fun s => s.requestStep (.release ch tag params)

/-- LINK_SET (R18). -/
def execLinkSet (ch : Byte) (tag : Byte) (params : List Byte) (s : State) : Out :=
  awake s fun s => s.requestStep (.linkSet ch tag params)

/-- LINK_RESTART (R21). -/
def execLinkRestart (ch : Byte) (tag : Byte) (params : List Byte) (s : State) : Out :=
  awake s fun s => s.requestStep (.linkRestart ch tag params)

/-- TIMING_SET (R27). -/
def execTimingSet (ch : Byte) (tag : Byte) (params : List Byte) (s : State) : Out :=
  awake s fun s => s.requestStep (.timingSet ch tag params)

/-- WINDOW_SET (R100). -/
def execWindowSet (ch : Byte) (tag : Byte) (params : List Byte) (s : State) : Out :=
  awake s fun s => s.requestStep (.windowSet ch tag params)

/-- QUIET_SET (R140). -/
def execQuietSet (ch : Byte) (tag : Byte) (params : List Byte) (s : State) : Out :=
  awake s fun s => s.requestStep (.quietSet ch tag params)

/-- MODE_SET (R138). -/
def execModeSet (ch : Byte) (tag : Byte) (params : List Byte) (s : State) : Out :=
  awake s fun s => s.requestStep (.modeSet ch tag params)

/-- ISOLATE (R144). -/
def execIsolate (ch : Byte) (tag : Byte) (params : List Byte) (s : State) : Out :=
  awake s fun s => s.requestStep (.isolate ch tag params)

/-- RESTORE (R149). -/
def execRestore (ch : Byte) (tag : Byte) (params : List Byte) (s : State) : Out :=
  awake s fun s => s.requestStep (.restore ch tag params)

/-- ALERT_SET (R171). -/
def execAlertSet (ch : Byte) (tag : Byte) (params : List Byte) (s : State) : Out :=
  awake s fun s => s.requestStep (.alertSet ch tag params)

/-- ALARM_ACK (R165). -/
def execAlarmAck (ch : Byte) (tag : Byte) (params : List Byte) (s : State) : Out :=
  awake s fun s => s.requestStep (.alarmAck ch tag params)

/-- WARM (R193). -/
def execWarm (ch : Byte) (tag : Byte) (params : List Byte) (s : State) : Out :=
  awake s fun s => s.requestStep (.warm ch tag params)

/-- COLD (R194). -/
def execCold (ch : Byte) (tag : Byte) (params : List Byte) (s : State) : Out :=
  awake s fun s => s.requestStep (.cold ch tag params)

/-- CARRIER_SET (R30). -/
def execCarrierSet (ch : Byte) (tag : Byte) (params : List Byte) (s : State) : Out :=
  awake s fun s => s.requestStep (.carrierSet ch tag params)

/-- CARRIER_CLEAR (R32). -/
def execCarrierClear (ch : Byte) (tag : Byte) (params : List Byte) (s : State) : Out :=
  awake s fun s => s.requestStep (.carrierClear ch tag params)

/-- PLAN_SECTOR (R38). -/
def execPlanSector (ch : Byte) (tag : Byte) (params : List Byte) (s : State) : Out :=
  awake s fun s => s.requestStep (.planSector ch tag params)

/-- PLAN_ZONE (R39). -/
def execPlanZone (ch : Byte) (tag : Byte) (params : List Byte) (s : State) : Out :=
  awake s fun s => s.requestStep (.planZone ch tag params)

/-- PLAN_HOME (R40). -/
def execPlanHome (ch : Byte) (tag : Byte) (params : List Byte) (s : State) : Out :=
  awake s fun s => s.requestStep (.planHome ch tag params)

/-- PLAN_COMMIT (R42). -/
def execPlanCommit (ch : Byte) (tag : Byte) (params : List Byte) (s : State) : Out :=
  awake s fun s => s.requestStep (.planCommit ch tag params)

/-- PLAN_REVERT (R47). -/
def execPlanRevert (ch : Byte) (tag : Byte) (params : List Byte) (s : State) : Out :=
  awake s fun s => s.requestStep (.planRevert ch tag params)

/-- BALANCE_SET (R113). -/
def execBalanceSet (ch : Byte) (tag : Byte) (params : List Byte) (s : State) : Out :=
  awake s fun s => s.requestStep (.balanceSet ch tag params)

/-- BALANCE_ACCEPT (R128). -/
def execBalanceAccept (ch : Byte) (tag : Byte) (params : List Byte) (s : State) : Out :=
  awake s fun s => s.requestStep (.balanceAccept ch tag params)

/-- STATUS (R192). -/
def execStatus (ch : Byte) (tag : Byte) (params : List Byte) (s : State) : Out :=
  awake s fun s => s.requestStep (.status ch tag params)

/-- LINK_READ (R17). -/
def execLinkRead (ch : Byte) (tag : Byte) (params : List Byte) (s : State) : Out :=
  awake s fun s => s.requestStep (.linkRead ch tag params)

/-- PLAN_READ (R48). -/
def execPlanRead (ch : Byte) (tag : Byte) (params : List Byte) (s : State) : Out :=
  awake s fun s => s.requestStep (.planRead ch tag params)

/-- MEASURE_READ (R108). -/
def execMeasureRead (ch : Byte) (tag : Byte) (params : List Byte) (s : State) : Out :=
  awake s fun s => s.requestStep (.measureRead ch tag params)

/-- BALANCE_READ (R132). -/
def execBalanceRead (ch : Byte) (tag : Byte) (params : List Byte) (s : State) : Out :=
  awake s fun s => s.requestStep (.balanceRead ch tag params)

/-- ALARM_LIST (R163). -/
def execAlarmList (ch : Byte) (tag : Byte) (params : List Byte) (s : State) : Out :=
  awake s fun s => s.requestStep (.alarmList ch tag params)

/-- ATTACH (R187). -/
def execAttach (ch : Byte) (tag : Byte) (params : List Byte) (s : State) : Out :=
  awake s fun s => s.requestStep (.attach ch tag params)

/-- DETACH (R188). -/
def execDetach (ch : Byte) (tag : Byte) (params : List Byte) (s : State) : Out :=
  awake s fun s => s.requestStep (.detach ch tag params)

/-- ABORT (R183). -/
def execAbort (ch : Byte) (tag : Byte) (params : List Byte) (s : State) : Out :=
  awake s fun s => s.requestStep (.abort ch tag params)

/-- UNKNOWN_COMMAND (R179). -/
def execUnknownCommand (ch : Byte) (tag : Byte) (code : Byte) (params : List Byte) (s : State) : Out :=
  awake s fun s => s.requestStep (.unknownCommand ch tag code params)

end Sys2Proof.Machine
end

