-- ==== Sys2Proof/Machine/Dispatch.lean ====
section
/-! DEFINITION. What each command does: one arm per row of spec/opcode_table.json. -/

namespace Sys2Proof.Machine

def exec (i : Instr) (s : State) : Host.Outcome State Fault Refusal :=
  match i with
  | .resetPinAssert => Sys2Proof.Machine.execResetPinAssert s
  | .resetPinRelease => Sys2Proof.Machine.execResetPinRelease s
  | .linkFrameStart => Sys2Proof.Machine.execLinkFrameStart s
  | .superframeBoundary => Sys2Proof.Machine.execSuperframeBoundary s
  | .levelFieldTakesEffect c => Sys2Proof.Machine.execLevelFieldTakesEffect c s
  | .linkSettingsTakeEffect r => Sys2Proof.Machine.execLinkSettingsTakeEffect r s
  | .remoteFrameReceived r f => Sys2Proof.Machine.execRemoteFrameReceived r f s
  | .missingFramePeriod l => Sys2Proof.Machine.execMissingFramePeriod l s
  | .seekRunComplete r => Sys2Proof.Machine.execSeekRunComplete r s
  | .farFlagChange r flag => Sys2Proof.Machine.execFarFlagChange r flag s
  | .echoFailure r => Sys2Proof.Machine.execEchoFailure r s
  | .negotiationTimeout r => Sys2Proof.Machine.execNegotiationTimeout r s
  | .negotiateAlignmentLoss r => Sys2Proof.Machine.execNegotiateAlignmentLoss r s
  | .linkEntersUp r => Sys2Proof.Machine.execLinkEntersUp r s
  | .linkLostEntry r => Sys2Proof.Machine.execLinkLostEntry r s
  | .lostHoldEnd r => Sys2Proof.Machine.execLostHoldEnd r s
  | .operatorFrameReceived o f => Sys2Proof.Machine.execOperatorFrameReceived o f s
  | .trunkFrameReceived f => Sys2Proof.Machine.execTrunkFrameReceived f s
  | .linkSeekToUp l => Sys2Proof.Machine.execLinkSeekToUp l s
  | .linkUpToLost l => Sys2Proof.Machine.execLinkUpToLost l s
  | .linkLostHoldEnd l => Sys2Proof.Machine.execLinkLostHoldEnd l s
  | .timebaseRelock atBoundary => Sys2Proof.Machine.execTimebaseRelock atBoundary s
  | .gateHoldExpiry r c => Sys2Proof.Machine.execGateHoldExpiry r c s
  | .blockDeadline => Sys2Proof.Machine.execBlockDeadline s
  | .windowEnd => Sys2Proof.Machine.execWindowEnd s
  | .guardStepDown r => Sys2Proof.Machine.execGuardStepDown r s
  | .autoQuietEntry => Sys2Proof.Machine.execAutoQuietEntry s
  | .switchover o => Sys2Proof.Machine.execSwitchover o s
  | .hubModeDecision => Sys2Proof.Machine.execHubModeDecision s
  | .pendingIsolationApply => Sys2Proof.Machine.execPendingIsolationApply s
  | .isolationTimerExpiry r => Sys2Proof.Machine.execIsolationTimerExpiry r s
  | .warmResetApplied => Sys2Proof.Machine.execWarmResetApplied s
  | .coldResetApplied => Sys2Proof.Machine.execColdResetApplied s
  | .alertPlacement => Sys2Proof.Machine.execAlertPlacement s
  | .accessSet ch tag params => Sys2Proof.Machine.execAccessSet ch tag params s
  | .release ch tag params => Sys2Proof.Machine.execRelease ch tag params s
  | .linkSet ch tag params => Sys2Proof.Machine.execLinkSet ch tag params s
  | .linkRestart ch tag params => Sys2Proof.Machine.execLinkRestart ch tag params s
  | .timingSet ch tag params => Sys2Proof.Machine.execTimingSet ch tag params s
  | .windowSet ch tag params => Sys2Proof.Machine.execWindowSet ch tag params s
  | .quietSet ch tag params => Sys2Proof.Machine.execQuietSet ch tag params s
  | .modeSet ch tag params => Sys2Proof.Machine.execModeSet ch tag params s
  | .isolate ch tag params => Sys2Proof.Machine.execIsolate ch tag params s
  | .restore ch tag params => Sys2Proof.Machine.execRestore ch tag params s
  | .alertSet ch tag params => Sys2Proof.Machine.execAlertSet ch tag params s
  | .alarmAck ch tag params => Sys2Proof.Machine.execAlarmAck ch tag params s
  | .warm ch tag params => Sys2Proof.Machine.execWarm ch tag params s
  | .cold ch tag params => Sys2Proof.Machine.execCold ch tag params s
  | .carrierSet ch tag params => Sys2Proof.Machine.execCarrierSet ch tag params s
  | .carrierClear ch tag params => Sys2Proof.Machine.execCarrierClear ch tag params s
  | .planSector ch tag params => Sys2Proof.Machine.execPlanSector ch tag params s
  | .planZone ch tag params => Sys2Proof.Machine.execPlanZone ch tag params s
  | .planHome ch tag params => Sys2Proof.Machine.execPlanHome ch tag params s
  | .planCommit ch tag params => Sys2Proof.Machine.execPlanCommit ch tag params s
  | .planRevert ch tag params => Sys2Proof.Machine.execPlanRevert ch tag params s
  | .balanceSet ch tag params => Sys2Proof.Machine.execBalanceSet ch tag params s
  | .balanceAccept ch tag params => Sys2Proof.Machine.execBalanceAccept ch tag params s
  | .status ch tag params => Sys2Proof.Machine.execStatus ch tag params s
  | .linkRead ch tag params => Sys2Proof.Machine.execLinkRead ch tag params s
  | .planRead ch tag params => Sys2Proof.Machine.execPlanRead ch tag params s
  | .measureRead ch tag params => Sys2Proof.Machine.execMeasureRead ch tag params s
  | .balanceRead ch tag params => Sys2Proof.Machine.execBalanceRead ch tag params s
  | .alarmList ch tag params => Sys2Proof.Machine.execAlarmList ch tag params s
  | .attach ch tag params => Sys2Proof.Machine.execAttach ch tag params s
  | .detach ch tag params => Sys2Proof.Machine.execDetach ch tag params s
  | .abort ch tag params => Sys2Proof.Machine.execAbort ch tag params s
  | .unknownCommand ch tag code params => Sys2Proof.Machine.execUnknownCommand ch tag code params s

end Sys2Proof.Machine
end

