-- ==== Sys2Proof/WellFormed.lean ====
section
/-! DEFINITION. When a command is one that the hub's links can bring: the sizes of frames and messages (sections 10.1 and
10.2). Every other operand is in range by its type. -/

namespace Sys2Proof

/-- Bytes of a control word. -/
def wordBytes : Nat := 16

/-- Bytes of a remote link frame's payload: the container directory and 192 units of 960 bytes. -/
def remotePayloadBytes : Nat := 48 + 192 * 960

/-- Bytes of an operator link frame's eight slots of 16 units. -/
def slotsBytes : Nat := 8 * 16 * 960

/-- The longest parameter part of a request (R176): a request is at most 256 bytes. -/
def maxParams : Nat := 250

/-- A remote link frame has a whole control word and at most a whole payload; bytes that are not given are zero. -/
def RemoteFrame.WellFormed (f : RemoteFrame) : Bool :=
  f.word.length = wordBytes && f.payload.length ≤ remotePayloadBytes

/-- An operator link frame has a whole control word and at most eight whole slots. -/
def TermFrame.WellFormedOperator (f : TermFrame) : Bool := f.word.length = wordBytes && f.slots.length ≤ slotsBytes

/-- A trunk frame has a whole control word and carries no samples. -/
def TermFrame.WellFormedTrunk (f : TermFrame) : Bool := f.word.length = wordBytes && f.slots = []

/-- A command code names a command of section 10.4. -/
def namesCommand (code : Byte) : Bool := decodeRequest code 0 0 [] ≠ .unknownCommand 0 0 code []

/-- A command that the links can bring. -/
def Instr.WellFormed (i : Instr) : Bool :=
  match i with
  | .remoteFrameReceived _ f => f.WellFormed
  | .operatorFrameReceived _ f => f.WellFormedOperator
  | .trunkFrameReceived f => f.WellFormedTrunk
  | .unknownCommand _ _ code params => !namesCommand code && params.length ≤ maxParams
  | i =>
    match i.request with
    | some (_, _, _, params) => params.length ≤ maxParams
    | none => true

end Sys2Proof
end

