-- ==== Sys2Proof/Safety.lean ====
section
/-! DEFINITION. The terms in which claims about the hub are made: the states between instants, the step that is next, a
channel ready for a request, and the invariants of the spec's prose. -/

namespace Sys2Proof.Machine

/-- A response on a channel (section 10.2). -/
def reply (ch : Channel) (tag code : Byte) (result : Result) (clamped : Bool) (data : List Byte) : Response :=
  ⟨ch.code, tag, code, result, clamped, data, false⟩

namespace State

/-! ## Instants -/

/-- Nothing of an earlier instant is left to be taken, and the reset pin is not asserted. -/
def Quiet (s : State) : Prop := s.resetPin = false ∧ s.due = [] ∧ s.boundary = none

/-- An owed step is next: no owed step of an earlier phase stands before it, and the placement of the boundary being taken is
settled where the step comes after it. -/
def Next (s : State) (x : Instr) : Prop :=
  s.resetPin = false ∧ x ∈ s.due ∧ (∀ y ∈ s.due, phase x ≤ phase y) ∧
    (placementPhase < phase x → ∀ b, s.boundary = some b → b.settled = true)

/-- A channel is ready for a request (R179): quiet, with a free place in the return queue, the trunk UP, the channel IDLE
and, for the service channel, not barred. -/
def Ready (s : State) (ch : Channel) : Prop :=
  s.Quiet ∧ 0 < s.mgmt.free ∧ s.trunk.state = .up ∧ s.mgmt.busy ch = none ∧ (ch = .service → s.mgmt.barred = false)

/-- A changed Management Channel Unit. -/
def withMgmt (s : State) (f : Management → Management) : State := { s with mgmt := f s.mgmt }

/-- A changed Mode and Isolation Unit. -/
def withMode (s : State) (f : ModeUnit → ModeUnit) : State := { s with mode := f s.mode }

/-- A changed Measurement Unit. -/
def withMeas (s : State) (f : Measurement → Measurement) : State := { s with meas := f s.meas }

/-- A changed Supervision Unit. -/
def withSup (s : State) (f : Supervision → Supervision) : State := { s with sup := f s.sup }

/-- The state with one more due response. -/
def answering (s : State) (x : Response) : State := { s with mgmt := { s.mgmt with due := s.mgmt.due ++ [x] } }

/-! ## What a step of a link leaves -/

/-- Everything but the remote links, gates and sums, placement records and the alarm list is the same. -/
def SameButLinks (s t : State) : Prop :=
  t = { s with rl := t.rl, comb := t.comb, place := t.place, sup := t.sup }

/-- Every other remote keeps its link record, gates and placement record. -/
def SameOtherRemotes (s t : State) (r : RemoteId) : Prop :=
  ∀ q : RemoteId, q ≠ r → t.rl[q] = s.rl[q] ∧ t.comb.gates[q] = s.comb.gates[q] ∧ t.record q = s.record q

/-- The effects of leaving UP on the link record and the placement record (R12, R58). -/
def LeftUp (t : State) (r : RemoteId) : Prop :=
  t.rl[r].downLatch = true ∧ t.rl[r].flags = Vector.replicate 4 ⟨false, 0⟩ ∧ t.rl[r].echoRun = 0 ∧
    t.rl[r].sleepAck = false ∧ t.record r = .empty

/-- The effects of a link restart that ends in a state (R12): what it clears, what it keeps, the gates, leaving UP, and the
other remotes and blocks untouched. -/
def Restarted (s t : State) (r : RemoteId) (target : RemoteState) : Prop :=
  t.rl[r].state = target ∧ t.rl[r].phase = .none ∧ t.rl[r].chosen = none ∧ t.rl[r].negTimer = 0 ∧
    t.rl[r].holdTimer = 0 ∧ t.rl[r].format = none ∧ t.rl[r].capability = none ∧ t.rl[r].seekRun = 0 ∧
    t.rl[r].enable = s.rl[r].enable ∧ t.rl[r].offered = s.rl[r].offered ∧ t.rl[r].m = s.rl[r].m ∧
    t.rl[r].pmax = s.rl[r].pmax ∧ t.rl[r].framesRx = s.rl[r].framesRx ∧ t.rl[r].alignErr = s.rl[r].alignErr ∧
    t.rl[r].missing = s.rl[r].missing ∧ t.rl[r].lostEntries = s.rl[r].lostEntries ∧
    t.rl[r].lostCond = s.rl[r].lostCond ∧ t.comb.gates[r] = Vector.replicate 24 ⟨false, 0⟩ ∧
    t.comb.guard = s.comb.guard ∧ (s.rl[r].state = .up → t.LeftUp r) ∧ s.SameOtherRemotes t r ∧ s.SameButLinks t

/-- A raise has been recorded: the key has an ACTIVE entry, or the list was full of ACTIVE entries and the overflow flag is
set (R158, R159). -/
def Recorded (t : State) (key : Key) : Prop := (∃ e ∈ t.sup.alarms, e.key = key ∧ e.active = true) ∨ t.sup.overflow = true

/-! ## Timebase -/

/-- The relock that a good frame of an UP link owes: link frame 0 of the reference link, in RELOCKING (R26). -/
def relockOwed (s : State) (l : TermLinkId) (w : Word) (atBoundary : Bool) : List Instr :=
  if s.isReference l = true ∧ w.lf = 0 ∧ s.tb.state = .relocking then [.timebaseRelock atBoundary] else []

/-- What a good frame of an UP link does to the Timebase (R25): link frame 0 of the reference link that does not start at the
hub's own boundary takes a LOCKED Timebase into RELOCKING, and TIMING_HOLDOVER begins; otherwise nothing changes. -/
def TimebaseFollows (s t : State) (l : TermLinkId) (w : Word) (atBoundary : Bool) : Prop :=
  let lost : Prop := s.isReference l = true ∧ w.lf = 0 ∧ s.tb.state = .locked ∧ atBoundary = false
  (lost → t.tb = { s.tb with state := .relocking } ∧ t.Recorded ⟨.timingHoldover, .device⟩) ∧
    (¬ lost → t.tb = s.tb ∧ t.sup = s.sup)

/-! ## Blocks -/

/-- A sum still waits for a block of a remote. -/
def Awaits (q : UplinkSum) (r : RemoteId) : Prop := ∃ e ∈ q.waiting, e.remote = r

/-- No block of a remote and carrier of a link frame up to n is left to settle. -/
def NoBlock (s : State) (n : Nat) (r : RemoteId) (c : CarrierId) : Prop :=
  ∀ q ∈ s.comb.sums, q.label ≤ n → q.carrier = c → ¬ Awaits q r

/-- One block alone of a remote and carrier of a link frame up to n is left to settle: that of a sum. -/
def OnlyBlock (s : State) (n : Nat) (r : RemoteId) (c : CarrierId) (q : UplinkSum) : Prop :=
  q ∈ s.comb.sums ∧ q.label ≤ n ∧ q.carrier = c ∧ Awaits q r ∧
    ∀ p ∈ s.comb.sums, p.label ≤ n → p.carrier = c → Awaits p r → p = q

/-- A gate takes one level (R81), and GATE_HOLD_EXPIRY is owed exactly when its hold has passed. -/
def GateTakes (s t : State) (r : RemoteId) (c : CarrierId) (q : UplinkSum) (level : Nat) : Prop :=
  t.gate r c = ((s.gate r c).update level q.levels.gate q.levels.hold).gate ∧
    (.gateHoldExpiry r c ∈ t.due ↔ ((s.gate r c).update level q.levels.gate q.levels.hold).expires = true)

/-! ## Placement, as the rules spell it -/

/-- A sector is in service under a hub mode: its list holds a carrier that is not suspended (R33, R53). -/
def InService (s : State) (mode : HubMode) (b : Bank) (i : SectorIx) : Prop :=
  ∃ c ∈ b.sectors[i].carriers, s.plan.suspended mode c = false

/-- A remote has a carrier placed that a sector of a bank lists, and the sector is its current sector. -/
def Carries (s : State) (b : Bank) (i : SectorIx) (r : RemoteId) : Prop :=
  b.zones[r].cur = some i ∧ ∃ c ∈ b.sectors[i].carriers, c ∈ (s.record r).placed

/-- A sector is dark (R63): in service, and carried by no remote. -/
def IsDark (s : State) (x : SectorId) : Prop :=
  s.InService s.mode.mode (s.opPlan (sectorOp x)).active (sectorIx x) ∧
    ∀ r : RemoteId, ¬ s.Carries (s.opPlan (sectorOp x)).active (sectorIx x) r

/-- A sector is in service and one remote alone carries it: without that remote it would be dark (R62). -/
def WouldDarken (s : State) (r : RemoteId) (x : SectorId) : Prop :=
  s.InService s.mode.mode (s.opPlan (sectorOp x)).active (sectorIx x) ∧
    s.Carries (s.opPlan (sectorOp x)).active (sectorIx x) r ∧
    ∀ q : RemoteId, q ≠ r → ¬ s.Carries (s.opPlan (sectorOp x)).active (sectorIx x) q

/-- A list holds, each once, the carriers that are called for, less the suspended ones (R53). -/
def Routes (s : State) (called : CarrierId → Prop) (cs : List CarrierId) : Prop :=
  cs.Nodup ∧ ∀ c, c ∈ cs ↔ called c ∧ s.plan.suspended s.mode.mode c = false

/-- A bank of an operator calls for a carrier at a remote (R34). -/
def Calls (b : Bank) (r : RemoteId) (c : CarrierId) : Prop := ∃ i, b.zones[r].cur = some i ∧ c ∈ b.sectors[i].carriers

/-- The container units of a set of carriers at a format (R54). -/
def unitsAt (s : State) (f : Format) (cs : List CarrierId) : Nat :=
  (cs.map fun c => (match f with | .w16 => 4 | .w12 => 3 | .w8 => 2) * s.plan.width c).sum

/-- The trial placement of a remote in a sector of an operator fits and does not raise its backoff step (R61, R122). -/
def TrialFits (s : State) (r : RemoteId) (o : OpId) (k : SectorIx) : Prop :=
  ∃ f cs, s.rl[r].state = .up ∧ s.rl[r].format = some f ∧
    s.Routes (fun c => c ∈ (s.opPlan o).active.sectors[k].carriers ∨ ∃ p : OpId, p ≠ o ∧ Calls (s.opPlan p).active r c) cs ∧
    s.unitsAt f cs ≤ 192 ∧
    (8 ≤ (s.record r).backoff ∨ ∃ b ≤ (s.record r).backoff,
      (cs.map fun c => (s.carrier c).eff.power).sum * stepT b ^ 2 ≤ s.rl[r].pmaxEff * 4096 ^ 2)

/-! ## Invariants -/

/-- At most eight places of the return queue are taken (R180). -/
def PlacesBounded (s : State) : Prop := s.mgmt.due.length + s.mgmt.reserved ≤ returnPlaces

/-- The alarm list holds at most 64 entries and at most one per key (R157). -/
def AlarmsBounded (s : State) : Prop := s.sup.alarms.length ≤ alarmCapacity ∧ (s.sup.alarms.map (·.key)).Nodup

/-- Every guard step lies in 0 to 8 (R84). -/
def GuardBounded (s : State) : Prop := ∀ r : RemoteId, s.comb.guard[r] ≤ 8

/-- The sums in progress are well formed: one for each carrier and link frame, of no later link frame than the one in
progress, each waiting for some remotes, each of them once; and the counters they count into are in range (R16, R76, R87). -/
def SumsFormed (s : State) : Prop :=
  (s.comb.sums.map fun q => (q.label, q.carrier)).Nodup ∧
    (∀ q ∈ s.comb.sums, q.waiting ≠ [] ∧ (q.waiting.map (·.remote)).Nodup ∧ q.label ≤ s.tb.label) ∧
    (∀ r : RemoteId, s.rl[r].missing ≤ max32) ∧ ∀ x : SectorId, s.comb.sat[x] ≤ max16

/-- Every carrier that a bank lists is DEFINED and owned by the bank's operator (R33, R38), and a link in UP has a format and
one in ORDERED or CONFIRMED a chosen one (R7, R8). -/
def PlansAndLinksFormed (s : State) : Prop :=
  (∀ (o : OpId) (i : SectorIx) (c : CarrierId),
    c ∈ (s.opPlan o).active.sectors[i].carriers ∨ c ∈ (s.opPlan o).staged.sectors[i].carriers → s.plan.owner c = some o) ∧
  ∀ r : RemoteId, (s.rl[r].state = .up → s.rl[r].format.isSome) ∧
    (s.rl[r].state = .negotiate → s.rl[r].phase = .ordered ∨ s.rl[r].phase = .confirmed → s.rl[r].chosen.isSome)

/-- Every placement record is the one that the inputs in force derive (R57), and, but while a boundary's own placement is not
settled yet, the dark indications and the conditions of shedding and overload are those of the records (R55, R56, R63). -/
def PlacementDerived (s : State) : Prop :=
  (∀ r : RemoteId, s.record r = s.derive r) ∧
    ((∀ b, s.boundary = some b → b.settled = true) →
      (∀ x : SectorId, s.place.dark[x] = true ↔ s.IsDark x) ∧
      ∀ r : RemoteId, (s.place.shedCond[r] = true ↔ (s.record r).shed ≠ []) ∧ s.place.overCond[r] = (s.record r).overload)

/-- A CLEAN staged bank equals the active bank (section 2.3). -/
def CleanMatches (s : State) : Prop := ∀ o : OpId, (s.opPlan o).state = .clean → (s.opPlan o).staged = (s.opPlan o).active

/-- A bank is well formed: each sector lists at most 8 carriers in ascending order, none of them in another sector, with a
headroom shift of 0 to 4 (R33); and each zone entry has at most 3 alternates, distinct, none of them the home and none without a
home, and a current sector that is NONE exactly when the home is, and otherwise the home or, unless pinned, an alternate
(R34). -/
def BankFormed (b : Bank) : Prop :=
  (∀ i : SectorIx, b.sectors[i].carriers.length ≤ 8 ∧ b.sectors[i].carriers.Pairwise (· < ·) ∧ b.sectors[i].h ≤ 4 ∧
    ∀ j : SectorIx, j ≠ i → ∀ c ∈ b.sectors[i].carriers, c ∉ b.sectors[j].carriers) ∧
  ∀ r : RemoteId, let z := b.zones[r]
    z.alts.length ≤ 3 ∧ z.alts.Nodup ∧ (∀ i, z.home = some i → i ∉ z.alts) ∧ (z.home = none → z.alts = []) ∧
      (z.cur = none ↔ z.home = none) ∧ ∀ i, z.cur = some i → z.home = some i ∨ (z.pinned = false ∧ i ∈ z.alts)

/-- Two zone entries agree on what a move does not write: the home, the pinned flag and the alternates (R46). -/
def SameZone (y z : Zone) : Prop := y.home = z.home ∧ y.pinned = z.pinned ∧ y.alts = z.alts

/-- Every bank is well formed, and where an operator's staged bank was CLEAN when the boundary being taken was made, the bank
that governed the closing window has the same zone entries as both banks, moves apart (R33, R34, R116). -/
def BanksFormed (s : State) : Prop :=
  (∀ o : OpId, BankFormed (s.opPlan o).active ∧ BankFormed (s.opPlan o).staged) ∧
    ∀ b, s.boundary = some b → ∀ o : OpId, b.staged[o] = .clean → ∀ r : RemoteId,
      SameZone b.banks[o].zones[r] (s.opPlan o).active.zones[r] ∧ SameZone b.banks[o].zones[r] (s.opPlan o).staged.zones[r]

/-- A remote is on the isolation list. -/
def Listed (s : State) (r : RemoteId) : Prop := ∃ e ∈ s.mode.isolated, e.remote = r

/-- The isolation list holds at most 4 distinct remotes, and a pending isolation is of none of them and finds room
(R143, R144). -/
def IsolationBounded (s : State) : Prop :=
  s.mode.isolated.length + s.mode.pendingIso.toList.length ≤ isolationCapacity ∧
    (s.mode.isolated.map (·.remote)).Nodup ∧ ∀ p, s.mode.pendingIso = some p → ¬ s.Listed p.remote

/-- A remote is on the isolation list exactly when its link is ISOLATED (R143). -/
def IsolatedExactly (s : State) : Prop := ∀ r : RemoteId, s.Listed r ↔ s.rl[r].state = .isolated

end State

end Sys2Proof.Machine
end

