-- ==== Sys2Proof/Certificates/Slice0/Obligations.lean ====
section
/-! DEFINITION. The statements for the provers, from the spec's rules. -/

open Sys2Proof Sys2Proof.Machine

/-! ## The queue, the reset pin and the values after reset -/

/-- A step takes the command at the front of the queue: it is exec of that command on the state with the queue's rest. -/
def Obligations.StepTakesFront : Prop :=
  ∀ (s : State) (c : Instr) (rest : List Instr), s.pending = c :: rest →
    step s = exec c { s with pending := rest }

/-- The values after cold reset that the spec gives, block by block (R28, R49, R74, R96, R110, R134, R153, R174, R195). -/
def Obligations.ColdResetValues : Prop :=
  (State.reset.tb.count = 0 ∧ State.reset.tb.reference = .trunk ∧ State.reset.tb.state = .holdover) ∧
  (∀ r : RemoteId, State.reset.rl[r].state = .seek ∧ State.reset.rl[r].enable = true ∧
    State.reset.rl[r].offered = ⟨true, true, true⟩ ∧ State.reset.rl[r].m = 4096 ∧ State.reset.rl[r].mEff = 4096 ∧
    State.reset.rl[r].pmax = 1000 ∧ State.reset.rl[r].pmaxEff = 1000 ∧ State.reset.rl[r].phase = .none ∧
    State.reset.rl[r].negTimer = 0 ∧ State.reset.rl[r].holdTimer = 0 ∧ State.reset.rl[r].badRun = 0 ∧
    State.reset.rl[r].seekRun = 0 ∧ State.reset.rl[r].format = none ∧ State.reset.rl[r].chosen = none ∧
    State.reset.rl[r].capability = none ∧ (∀ i : Fin 4, State.reset.rl[r].flags[i] = ⟨false, 0⟩) ∧
    State.reset.rl[r].echoRun = 0 ∧ State.reset.rl[r].sleepAck = false ∧ State.reset.rl[r].framesRx = 0 ∧
    State.reset.rl[r].alignErr = 0 ∧ State.reset.rl[r].missing = 0 ∧ State.reset.rl[r].negFail = 0 ∧
    State.reset.rl[r].lostEntries = 0 ∧ State.reset.rl[r].downLatch = false ∧ State.reset.rl[r].lostCond = false) ∧
  (∀ l : TermLinkId, (State.reset.term l).state = .seek ∧ (State.reset.term l).seekRun = 0 ∧
    (State.reset.term l).badRun = 0 ∧ (State.reset.term l).holdTimer = 0 ∧ (State.reset.term l).framesRx = 0 ∧
    (State.reset.term l).alignErr = 0 ∧ (State.reset.term l).lostEntries = 0 ∧ (State.reset.term l).beenUp = false ∧
    (State.reset.term l).lossCond = false) ∧
  (∀ c : CarrierId,
    State.reset.carrier c = ⟨none, 4, false, ⟨4096, 100, 512, 256, 8⟩, ⟨4096, 100, 512, 256, 8⟩⟩) ∧
  (∀ o : OpId, (State.reset.opPlan o).state = .clean ∧
    (∀ i : SectorIx, (State.reset.opPlan o).active.sectors[i] = ⟨[], 2⟩ ∧
      (State.reset.opPlan o).staged.sectors[i] = ⟨[], 2⟩) ∧
    ∀ r : RemoteId, (State.reset.opPlan o).active.zones[r] = ⟨none, none, false, []⟩ ∧
      (State.reset.opPlan o).staged.zones[r] = ⟨none, none, false, []⟩) ∧
  ((∀ r : RemoteId, State.reset.record r = ⟨[], 0, [], 0, [], 0, 0, false, false, []⟩) ∧
    ∀ x : SectorId, State.reset.place.dark[x] = false) ∧
  ((∀ r : RemoteId, State.reset.comb.guard[r] = 0 ∧ State.reset.comb.recover[r] = 0 ∧
      ∀ c : CarrierId, State.reset.gate r c = ⟨false, 0⟩) ∧
    (∀ x : SectorId, State.reset.comb.sat[x] = 0 ∧ State.reset.comb.overload[x] = false) ∧
    State.reset.comb.sums = [] ∧ State.reset.comb.outputs = []) ∧
  ((∀ r : RemoteId, State.reset.meas.peak[r] = 0 ∧ ∀ c : CarrierId, State.reset.meas.activity[r][c] = 0) ∧
    State.reset.meas.position = 0 ∧ State.reset.meas.wForce = 100 ∧ State.reset.meas.wSet = 100 ∧
    State.reset.meas.satLimit = 64 ∧ State.reset.meas.recoverWindows = 10 ∧ State.reset.meas.snap.closing = 0 ∧
    State.reset.meas.snap.length = 0 ∧
    (∀ r : RemoteId, State.reset.meas.snap.peak[r] = 0 ∧ (∀ c : CarrierId, State.reset.meas.snap.occ[r][c] = 0) ∧
      ∀ o : OpId, State.reset.meas.snap.share[o][r] = 0) ∧
    ∀ x : SectorId, State.reset.meas.snap.load[x] = 0 ∧ State.reset.meas.snap.sat[x] = 0) ∧
  (∀ o : OpId, State.reset.bal[o].mode = .off ∧ State.reset.bal[o].hotLevel = 1536 ∧ State.reset.bal[o].minShare = 32 ∧
    State.reset.bal[o].holdWindows = 30 ∧ (∀ r : RemoteId, State.reset.bal[o].holdOff[r] = 0) ∧
    State.reset.bal[o].advice = none ∧ State.reset.bal[o].lastMove = none ∧ State.reset.bal[o].outcome = .none ∧
    State.reset.bal[o].deferrals = 0 ∧ State.reset.bal[o].moves = 0) ∧
  (State.reset.mode.mode = .normal ∧ State.reset.mode.requested = none ∧ State.reset.mode.auto = none ∧
    State.reset.mode.aqEnable = false ∧ State.reset.mode.quietLevel = 64 ∧ State.reset.mode.quietWindows = 60 ∧
    State.reset.mode.wakeLevel = 256 ∧ State.reset.mode.quietRun = 0 ∧ State.reset.mode.isolated = [] ∧
    State.reset.mode.pendingIso = none) ∧
  (State.reset.sup.alarms = [⟨⟨.timingHoldover, .device⟩, true, 0, 0, 1⟩] ∧ State.reset.sup.overflow = false ∧
    State.reset.sup.seq = 1 ∧ State.reset.sup.pending = true ∧ State.reset.sup.enable = true ∧
    State.reset.sup.masks = 0) ∧
  State.reset.mgmt.assembly = none ∧ State.reset.mgmt.control = none ∧ State.reset.mgmt.service = none ∧
  State.reset.mgmt.scope = none ∧ State.reset.mgmt.barred = false ∧ (∀ o : OpId, State.reset.mgmt.codes[o] = 0) ∧
  State.reset.mgmt.due = [] ∧ State.reset.mgmt.alert = none ∧ State.reset.mgmt.tx = none ∧
  State.reset.mgmt.discards = 0 ∧ State.reset.mgmt.dropped = 0

/-- The invariants below hold after reset. -/
def Obligations.ResetInvariants : Prop :=
  State.reset.PlacesBounded ∧ State.reset.AlarmsBounded ∧ State.reset.GuardBounded ∧ State.reset.SumsFormed ∧
    State.reset.CleanMatches ∧ State.reset.BanksFormed ∧ State.reset.PlansAndLinksFormed ∧ State.reset.PlacementDerived ∧
    State.reset.IsolationBounded ∧ State.reset.IsolatedExactly

/-! ## Words, samples and messages -/

/-- A control word that the hub builds has sixteen bytes that sum to zero and opens with the alignment pattern, and is read
back as the fields it was built from (R1, R196); received bytes are read as a word exactly when they open with the pattern, sum
to zero and number a link frame of 0 to 79 (R2, R196); samples in the range of a format are read back from their packed bytes
as they were (R198). That a control word of another length than sixteen bytes is bad is the model's choice, log entry 9. -/
def Obligations.WordsAndSamplesReadBack : Prop :=
  (∀ (count : Count) (lf : Nat) (type : Byte) (payload : List Byte), lf ≤ 79 →
    (controlWord count lf type payload).length = 16 ∧ byteSum (controlWord count lf type payload) = 0 ∧
    parseWord (controlWord count lf type payload) = some ⟨lf, lowByte count, type, padTo 10 payload⟩) ∧
  (∀ bs : List Byte, parseWord bs = none ↔
    ¬ (bs.length = 16 ∧ bs.take 2 = [0xD2, 0x47] ∧ byteSum bs = 0 ∧ (bs.getD 2 0).toNat ≤ 79)) ∧
  ∀ (f : Format) (xs : List IQ),
    (∀ x ∈ xs, -(2 : Int) ^ (f.bits - 1) ≤ x.i ∧ x.i < (2 : Int) ^ (f.bits - 1) ∧ -(2 : Int) ^ (f.bits - 1) ≤ x.q ∧
      x.q < (2 : Int) ^ (f.bits - 1)) → unpack f (pack f xs) = xs

/-- A well-formed request is what its command code names: decoding its code, channel byte, tag and parameters gives it
back (section 10.4). A request sent whole in consecutive good words, ten bytes a word, is taken as exactly that request and
nothing else of the hub changes (R24, R176, R177, R178). The words are given by the bytes that each delivers. -/
def Obligations.RequestsAreTaken : Prop :=
  (∀ (i : Instr) (code ch tag : Byte) (ps : List Byte), i.WellFormed = true → i.request = some (code, ch, tag, ps) →
    decodeRequest code ch tag ps = i) ∧
  ∀ (s : State) (i : Instr) (code ch tag : Byte) (ps : List Byte) (first : List Byte) (others : List (List Byte))
    (fill : List Byte),
    i.WellFormed = true → i.request = some (code, ch, tag, ps) → s.mgmt.assembly = none →
    (∀ w ∈ first :: others, w.length = 10) → fill.length < 10 →
    (first :: others).flatten = withCheck ([ch, tag, code, byte ps.length] ++ ps) ++ fill →
    others.foldl (fun t w => t.deliver ⟨0, 0, typeMgmtCont, w⟩) (s.deliver ⟨0, 0, typeMgmtStart, first⟩) = s.owe [i]

/-- TRUNK_FRAME_RECEIVED: on an UP trunk a good frame is counted, ends the bad-frame run and is delivered to the message
assembly (R24, R176). An IDLE word, or a MGMT_START word ahead of its own message, discards a message in assembly as cut off;
MGMT_CONT is ignored without one; a message is discarded as oversized as soon as its whole header is there, and at its stated
length is taken as the command it names or, with a wrong check value, discarded; each discard adds one to the integrity discard
counter (R176, R177). So a MGMT_START frame that holds a whole ABORT brings it in. Link frame 0 of a trunk that is the
reference takes a LOCKED Timebase into RELOCKING when it does not start at the hub's own boundary, and owes TIMEBASE_RELOCK
in RELOCKING (R25, R26). In SEEK a good frame is counted and lengthens the run, and the fourth owes LINK_SEEK_TO_UP; in LOST
it is counted; nothing else changes in either (R16, R22). -/
def Obligations.TrunkFrame : Prop :=
  (∀ (s : State) (f : TermFrame) (w : Word), s.Quiet → s.trunk.state ≠ .up → parseWord f.word = some w →
    followsTerm s.trunk w = true → exec (.trunkFrameReceived f) s = .next { s with
      trunk := { s.trunk with
        framesRx := min (s.trunk.framesRx + 1) 4294967295, lastGood := some w.lf
        seekRun := if s.trunk.state = .seek then s.trunk.seekRun + 1 else s.trunk.seekRun }
      due := if s.trunk.state = .seek ∧ 3 ≤ s.trunk.seekRun then [.linkSeekToUp .trunk] else [] }) ∧
  ∀ (s : State) (f : TermFrame) (w : Word), s.Quiet → s.trunk.state = .up → parseWord f.word = some w →
    followsTerm s.trunk w = true →
    let discarded : Management → Management := fun g =>
      { g with assembly := none, discards := min (g.discards + 1) 4294967295 }
    let cut : Management := if s.mgmt.assembly.isSome then discarded s.mgmt else s.mgmt
    let leaves : Management → List Instr → Prop := fun g taken => ∃ t : State,
      exec (.trunkFrameReceived f) s = .next t ∧ s.TimebaseFollows t .trunk w f.atBoundary ∧
      t = { s with
        tb := t.tb, sup := t.sup, mgmt := g, due := s.relockOwed .trunk w f.atBoundary ++ taken
        trunk := { s.trunk with
          framesRx := min (s.trunk.framesRx + 1) 4294967295, lastGood := some w.lf, badRun := 0 } }
    let assembled : Management → List Byte → Prop := fun g bytes =>
      let len := (bytes.getD 3 0).toNat
      let right : Prop := (bytes.drop (len + 4)).take 2 = u16 (crc (bytes.take (len + 4))).toNat
      (len + 6 ≤ 256 → bytes.length < len + 6 → leaves { g with assembly := some bytes } []) ∧
      (256 < len + 6 → leaves (discarded g) []) ∧
      (len + 6 ≤ 256 → len + 6 ≤ bytes.length → ¬ right → leaves (discarded g) []) ∧
      (len + 6 ≤ 256 → len + 6 ≤ bytes.length → right → leaves { g with assembly := none }
        [decodeRequest (bytes.getD 2 0) (bytes.getD 0 0) (bytes.getD 1 0) ((bytes.drop 4).take len)])
    (w.type ≠ typeMgmtStart → w.type ≠ typeMgmtCont → leaves cut []) ∧
    (w.type = typeMgmtStart → assembled cut w.payload) ∧
    (w.type = typeMgmtCont → s.mgmt.assembly = none → leaves s.mgmt []) ∧
    (∀ bytes, w.type = typeMgmtCont → s.mgmt.assembly = some bytes → assembled s.mgmt (bytes ++ w.payload)) ∧
    ∀ ch tag : Byte, w.type = typeMgmtStart → w.payload = withCheck [ch, tag, 0x7F, 0x00] ++ [0, 0, 0, 0] →
      leaves cut [.abort ch tag []]

/-! ## Link frames and boundaries -/

/-- LINK_FRAME_START. The next link frame is sent with the hub's own number on every transmitting link, and a link in OFF
transmits nothing: on a remote link an ORDER word in link frame 0, with the negotiated or chosen format or NONE and the sleep
order, and an IDLE word otherwise (R1); in UP the containers of the placed carriers, each the source block of the frame
before or zeros, scaled and reduced (R3, R66, R68, R69); on an operator link an IDLE word and in each slot the combined uplink
of the link frame two earlier (R5, R89); on the trunk ten more bytes of the message in transmission, or else of the first due
response, or else of the ALERT, or an IDLE word (R178, R181). The blocks retimed to the frame become its source blocks (R65),
and its expected sets are formed (R76). Link frame 79 is followed by a boundary and link frame 0 (R25), for which the sleep
orders (R71), the dark sectors (R63) and the gates of newly placed carriers (R82) are settled. The labels of link frames (log
entry 25), the boundary made here (log entry 6) and the placed sets last sent (log entry 26) are the model's choices. -/
def Obligations.LinkFrameStart : Prop :=
  (∀ s : State, s.Quiet → ∃ (t : State) (lf : Nat), exec .linkFrameStart s = .next t ∧ t.tb.lf = some lf ∧ lf ≤ 79 ∧
    (∀ r : RemoteId, t.rl[r].state = .off → t.out.remote[r] = none) ∧
    (∀ r : RemoteId, t.rl[r].state ≠ .off → ∃ x, t.out.remote[r] = some x ∧
      x.word = (if lf = 0 then
          controlWord t.tb.count 0 typeOrder
            [formatCode (if t.rl[r].state = .up then t.rl[r].format
              else if t.rl[r].state = .negotiate then t.rl[r].chosen else none), flagByte (t.record r).sleep]
        else controlWord t.tb.count lf typeIdle []) ∧
      (t.rl[r].state ≠ .up → x.containers = [])) ∧
    (∀ o : OpId, ∃ x, t.out.op[o] = some x ∧ x.word = controlWord t.tb.count lf typeIdle []) ∧
    ∃ type payload, t.out.trunk = some (controlWord t.tb.count lf type payload)) ∧
  (∀ (s : State) (lf : Nat), s.Quiet → s.tb.lf = none ∧ lf = 0 ∨ s.tb.lf = some (lf - 1) ∧ 1 ≤ lf ∧ lf ≤ 79 →
    ∃ t : State, exec .linkFrameStart s = .next t ∧
    t.tb.label = s.tb.label + 1 ∧ t.tb.lf = some lf ∧ t.tb.count = s.tb.count ∧
    (∀ r : RemoteId, t.rl[r] = { s.rl[r] with missing := t.rl[r].missing }) ∧
    t.plan = s.plan ∧ t.bal = s.bal ∧ t.mode = s.mode ∧ t.sup = s.sup ∧ t.ol = s.ol ∧ t.trunk = s.trunk ∧
    t.place.records = s.place.records ∧ t.meas.snap = s.meas.snap ∧
    (∀ (r : RemoteId) (f : Format), s.rl[r].state = .up → s.rl[r].format = some f →
      ∃ x, t.out.remote[r] = some x ∧ x.format = some f ∧
        x.containers = (s.record r).factors.map fun p =>
          ⟨p.1, (match f with | .w16 => 4 | .w12 => 3 | .w8 => 2) * s.plan.width p.1,
            match s.dist.source.find? (fun b => b.carrier = p.1) with
            | some b => b.samples.map fun v => ⟨reduceValue f (scaleValue p.2 v.i), reduceValue f (scaleValue p.2 v.q)⟩
            | none => List.replicate (960 * s.plan.width p.1) ⟨0, 0⟩⟩) ∧
    (∀ d : State, exec .blockDeadline s = .next d → ∀ (o : OpId) (i : SlotIx), ∃ x, t.out.op[o] = some x ∧
      x.slots[i] =
        match d.comb.outputs.find? (fun y => y.label + 1 = s.tb.label && y.place.op = o && y.place.slot = i) with
        | some y => y.samples
        | none => []) ∧
    (s.trunk.state ≠ .up ∨ (s.mgmt.tx = none ∧ s.mgmt.due = [] ∧ s.mgmt.alert = none) →
      t.out.trunk = some (controlWord s.tb.count lf typeIdle []) ∧ t.mgmt = s.mgmt) ∧
    (∀ (x : Response) (rest : List Response) (n : Nat), s.trunk.state = .up → s.mgmt.due = x :: rest →
      s.mgmt.tx = some (.response n) ∨ s.mgmt.tx = none ∧ n = 0 →
      t.out.trunk = some (controlWord s.tb.count lf (if n = 0 then typeMgmtStart else typeMgmtCont)
        ((x.bytes.drop n).take 10)) ∧
      t.mgmt = (if n + 10 < x.bytes.length then { s.mgmt with tx := some (.response (n + 10)) }
        else { s.mgmt with tx := none, due := rest })) ∧
    (∀ (a : Alert) (n : Nat), s.trunk.state = .up → s.mgmt.alert = some a →
      s.mgmt.tx = some (.alert n) ∨ s.mgmt.tx = none ∧ s.mgmt.due = [] ∧ n = 0 →
      t.out.trunk = some (controlWord s.tb.count lf (if n = 0 then typeMgmtStart else typeMgmtCont)
        ((a.bytes.drop n).take 10)) ∧
      t.mgmt = (if n + 10 < a.bytes.length then { s.mgmt with tx := some (.alert (n + 10)) }
        else { s.mgmt with tx := none, alert := none })) ∧
    t.dist.incoming = [] ∧
    t.dist.source = s.dist.incoming.filter
      (fun b => decide (∃ o : OpId, s.plan.owner b.carrier = some o ∧ s.ol[o].state = .up)) ∧
    ∀ (c : CarrierId) (p : CarrierPlace) (i : SectorIx), (s.carrier c).place = some p →
      c ∈ (s.opPlan p.op).active.sectors[i].carriers →
      (∀ j < i, c ∉ (s.opPlan p.op).active.sectors[j].carriers) →
      let expected : RemoteId → Prop := fun r => (s.opPlan p.op).active.zones[r].cur = some i ∧
        c ∈ (s.record r).placed ∧ s.rl[r].state = .up ∧ s.rl[r].format.isSome
      ((∃ r, expected r) → ∃ q ∈ t.comb.sums, q.label = s.tb.label + 1 ∧ q.carrier = c ∧ q.sector = sectorOf p.op i ∧
        q.place = p ∧ q.h = (s.opPlan p.op).active.sectors[i].h ∧ q.levels = (s.carrier c).eff ∧ q.contributors = 0 ∧
        (∀ r, (∃ e ∈ q.waiting, e.remote = r) ↔ expected r) ∧
        ∀ e ∈ q.waiting, s.rl[e.remote].format = some e.format ∧ e.m = s.rl[e.remote].mEff ∧
          e.g = s.comb.guard[e.remote]) ∧
      ((∀ r, ¬ expected r) → ⟨s.tb.label + 1, c, p, List.replicate (960 * p.width) ⟨0, 0⟩⟩ ∈ t.comb.outputs)) ∧
  ∀ (s : State) (lf : Nat), s.Quiet → s.tb.lf = some lf → 79 ≤ lf →
    let cold : Prop := (∃ tag, s.mgmt.control = some ⟨tag, .cold⟩) ∧ ∀ x ∈ s.mgmt.due, x.isCold = false
    ∃ t : State, exec .linkFrameStart s = .next t ∧ t.tb.lf = some 0 ∧ (cold → t.tb.count = 0) ∧
      (¬ cold → t.tb.count = s.tb.count + 1 ∧ t.tb.label = s.tb.label + 1) ∧
      (∀ r : RemoteId, (t.record r).sleep = true ↔
        t.mode.mode = .quiet ∧ t.rl[r].state = .up ∧ (t.record r).placed = []) ∧
      (∀ x : SectorId, t.place.dark[x] = true ↔ t.IsDark x) ∧
      (s.SumsFormed → ∀ (r : RemoteId) (c : CarrierId), c ∈ (t.record r).placed → c ∉ s.place.lastPlaced[r] →
        t.gate r c = ⟨false, 0⟩)

/-- SUPERFRAME_BOUNDARY: the count goes up by one; the plans, placement records, Balancer, alarms, channels and every link
state wait for the boundary's own steps; a negotiation not CONFIRMED, a LOST hold of any link and a return timer each count
the boundary (R8, R11, R22, R25, R98, R148), and the successor of the last link frame sent is frame 0 (R2, R26). Where no cold reset is applied the boundary owes, each exactly when its rule
has it: level fields and link settings taking effect (R20, R31), isolation timer expiries (R148), the ends of LOST holds (R11,
R22), the entries into UP and the negotiation timeouts (R8), the switchovers and the hub mode decision unless a warm reset is
applied (R41, R51, R136, R154), the pending isolation (R146), the window end or in its place the warm reset (R98, R111), and
the try to place an ALERT (R169). A cold reset stands in place of them all (R194). That they are owed, and taken one by one,
is the model's choice, log entry 1. -/
def Obligations.BoundaryCounts : Prop :=
  ∀ s : State, s.Quiet →
    let cold : Prop := (∃ tag, s.mgmt.control = some ⟨tag, .cold⟩) ∧ ∀ x ∈ s.mgmt.due, x.isCold = false
    let warm : Prop := ∃ tag, s.mgmt.control = some ⟨tag, .warm⟩
    ∃ t : State, exec .superframeBoundary s = .next t ∧ t.tb = { s.tb with count := s.tb.count + 1, lf := none } ∧
    t.plan = s.plan ∧ t.place = s.place ∧ t.bal = s.bal ∧ t.sup = s.sup ∧ t.mgmt = s.mgmt ∧ t.out = s.out ∧
    t.meas.position = s.meas.position + 1 ∧ t.meas.snap = s.meas.snap ∧ t.mode.mode = s.mode.mode ∧
    (∀ r : RemoteId, t.rl[r].state = s.rl[r].state ∧
      (s.rl[r].state = .negotiate → s.rl[r].phase ≠ .confirmed → t.rl[r].negTimer = min (s.rl[r].negTimer + 1) 10) ∧
      (s.rl[r].state = .lost → t.rl[r].holdTimer = min (s.rl[r].holdTimer + 1) 50) ∧
      t.rl[r].lastGood = s.rl[r].lastGood.map fun g => if g.label = some s.tb.label then ⟨g.label, 0⟩ else g) ∧
    (∀ l : TermLinkId, t.term l = (if (s.term l).state = .lost then
      { s.term l with holdTimer := min ((s.term l).holdTimer + 1) 50 } else s.term l)) ∧
    t.mode.isolated = s.mode.isolated.map (fun e => { e with timer := e.timer.map (· - 1) }) ∧
    (cold → .coldResetApplied ∈ t.due ∧ ∀ x ∈ t.due, x = .coldResetApplied ∨ ∃ r c, x = .gateHoldExpiry r c) ∧
    (¬ cold → .coldResetApplied ∉ t.due ∧ .alertPlacement ∈ t.due ∧
      (∀ c : CarrierId, .levelFieldTakesEffect c ∈ t.due ↔ (s.carrier c).set ≠ (s.carrier c).eff) ∧
      (∀ r : RemoteId, .linkSettingsTakeEffect r ∈ t.due ↔
        s.rl[r].m ≠ s.rl[r].mEff ∨ s.rl[r].pmax ≠ s.rl[r].pmaxEff) ∧
      (∀ r : RemoteId, .isolationTimerExpiry r ∈ t.due ↔
        ∃ e ∈ s.mode.isolated, e.remote = r ∧ (e.timer = some 0 ∨ e.timer = some 1)) ∧
      (∀ l : TermLinkId, .linkLostHoldEnd l ∈ t.due ↔ (s.term l).state = .lost ∧ 49 ≤ (s.term l).holdTimer) ∧
      (∀ r : RemoteId, .linkEntersUp r ∈ t.due ↔ s.rl[r].state = .negotiate ∧ s.rl[r].phase = .confirmed) ∧
      (∀ r : RemoteId, s.rl[r].phase ≠ .confirmed →
        (.negotiationTimeout r ∈ t.due ↔ s.rl[r].state = .negotiate ∧ 9 ≤ s.rl[r].negTimer)) ∧
      (∀ r : RemoteId, .lostHoldEnd r ∈ t.due ↔ s.rl[r].state = .lost ∧ 49 ≤ s.rl[r].holdTimer) ∧
      (∀ o : OpId, .switchover o ∈ t.due ↔ ¬ warm ∧ ∃ origin e, (s.opPlan o).state = .armed origin e) ∧
      (.hubModeDecision ∈ t.due ↔ ¬ warm ∧ (s.mode.requested.isSome ∨ s.mode.auto.isSome)) ∧
      (.pendingIsolationApply ∈ t.due ↔ s.mode.pendingIso.isSome) ∧
      (.windowEnd ∈ t.due ↔ ¬ warm ∧ (s.meas.wForce ≤ s.meas.position + 1 ∨ s.meas.wSet ≠ s.meas.wForce)) ∧
      (.warmResetApplied ∈ t.due ↔ warm))

/-- BLOCK_DEADLINE: every block not settled of a link frame before the one in progress is missing, counted once and with level
0 at its gate, its sum is formed and its saturations counted, and nothing else changes (R77, R78, R80, R81, R87, R89). A good
frame on an UP remote link: the remote's earlier blocks are missing, and of the answered link frame each expected block with a
valid container is taken, its level updates its gate, is counted as activity and in the peak, and enters the sum with its
weight when the gate is OPEN; what a STATUS word in it does to the link record besides is the statement StatusWords (R4, R77, R80, R81, R83 to R87, R101, R102). That BLOCK_DEADLINE means
the end of the link frame in progress is the model's choice, log entry 31; that blocks of the link frame in progress count
apart until the next one starts is log entry 7's reading; the labels are log entry 25's choice, and the label of the next hub
link frame to be answered, which a frame sets one past the frame it answers, is log entry 11's. -/
def Obligations.BlocksSettle : Prop :=
  (∀ s : State, s.Quiet → ∃ t : State, exec .blockDeadline s = .next t ∧
    t = { s with
      rl := t.rl, due := t.due
      comb := { s.comb with
        gates := t.comb.gates, sums := t.comb.sums, outputs := t.comb.outputs, sat := t.comb.sat } } ∧
    (s.SumsFormed →
      let ends : UplinkSum → Bool := fun q => q.label ≤ s.tb.label - 1
      (∀ r : RemoteId, t.rl[r] = { s.rl[r] with
        missing := min (s.rl[r].missing + (s.comb.sums.filter fun q => ends q && q.waiting.any fun e => e.remote = r).length)
          4294967295 }) ∧
      t.comb.sums = s.comb.sums.filter (fun q => !ends q) ∧
      t.comb.outputs = s.comb.outputs ++ ((s.comb.sums.filter fun q => ends q && !q.discard).map fun q =>
        ⟨q.label, q.carrier, q.place, q.samples⟩) ∧
      (∀ x : SectorId, t.comb.sat[x] = min (s.comb.sat[x] +
        ((s.comb.sums.filter fun q => ends q && q.sector = x).map fun q => q.saturations).sum) 65535) ∧
      (∀ (r : RemoteId) (c : CarrierId), s.NoBlock (s.tb.label - 1) r c → t.gate r c = s.gate r c) ∧
      ∀ (r : RemoteId) (c : CarrierId) (q : UplinkSum), s.OnlyBlock (s.tb.label - 1) r c q → s.GateTakes t r c q 0)) ∧
  (∀ (s : State) (r : RemoteId) (f : RemoteFrame) (w : Word) (a : HubFrame), s.Quiet → s.SumsFormed →
    s.rl[r].state = .up → parseWord f.word = some w → followsRemote s.rl[r] w = true →
    answered s.tb.history w.low w.lf = some a → 0 < a.label →
    let count : Measurement → CarrierId → Nat := fun m c =>
      if a.label = s.tb.label then m.heldActivity[r][c] else m.activity[r][c]
    let peak : Measurement → Nat := fun m => if a.label = s.tb.label then m.heldPeak[r] else m.peak[r]
    let taken : UplinkSum → Expected → List IQ → Prop := fun q e xs => q ∈ s.comb.sums ∧ q.label = a.label ∧
      e ∈ q.waiting ∧ e.remote = r ∧ blockFor e.format q.place.width q.carrier f.payload = some xs
    ∃ t : State, exec (.remoteFrameReceived r f) s = .next t ∧
      t = { s with
        rl := t.rl, due := t.due, meas := t.meas
        comb := { s.comb with
          gates := t.comb.gates, sums := t.comb.sums, outputs := t.comb.outputs, sat := t.comb.sat } } ∧
      t.rl[r] = { s.rl[r] with
        framesRx := min (s.rl[r].framesRx + 1) 4294967295, lastGood := some (s.tb.goodFrame w), badRun := 0
        nextAnswer := a.label + 1, flags := t.rl[r].flags, sleepAck := t.rl[r].sleepAck, echoRun := t.rl[r].echoRun
        missing := min (s.rl[r].missing + (s.comb.sums.filter fun q => q.waiting.any fun e => e.remote = r &&
          (decide (q.label < a.label) || decide (q.label = a.label) &&
            (blockFor e.format q.place.width q.carrier f.payload).isNone)).length) 4294967295 } ∧
      (¬ (w.lf = 0 ∧ w.type = typeStatus) → t.rl[r].flags = s.rl[r].flags ∧ t.rl[r].sleepAck = s.rl[r].sleepAck ∧
        t.rl[r].echoRun = s.rl[r].echoRun ∧ ∀ x ∈ t.due, ∃ q c, x = .gateHoldExpiry q c) ∧
      (∀ p : RemoteId, p ≠ r → t.rl[p] = s.rl[p] ∧ t.comb.gates[p] = s.comb.gates[p] ∧
        t.meas.activity[p] = s.meas.activity[p] ∧ t.meas.heldActivity[p] = s.meas.heldActivity[p] ∧
        t.meas.peak[p] = s.meas.peak[p] ∧ t.meas.heldPeak[p] = s.meas.heldPeak[p]) ∧
      (∀ q ∈ t.comb.sums, q.label ≤ a.label → ∀ e ∈ q.waiting, e.remote ≠ r) ∧
      (∀ c : CarrierId, s.NoBlock a.label r c → t.gate r c = s.gate r c) ∧
      (a.label = s.tb.label → t.meas = { s.meas with heldActivity := t.meas.heldActivity, heldPeak := t.meas.heldPeak }) ∧
      (a.label ≠ s.tb.label → t.meas = { s.meas with activity := t.meas.activity, peak := t.meas.peak }) ∧
      (∀ c : CarrierId, (∀ q e xs, taken q e xs → q.carrier ≠ c) → count t.meas c = count s.meas c) ∧
      (peak s.meas ≤ peak t.meas ∧ ∀ n, peak s.meas ≤ n →
        (∀ q e xs, taken q e xs → blockLevel (expandBlock e.format xs) ≤ n) → peak t.meas ≤ n) ∧
      (∀ c q, s.OnlyBlock a.label r c q → (∀ e xs, ¬ taken q e xs) → s.GateTakes t r c q 0) ∧
      ∀ q e xs, taken q e xs →
        let level := blockLevel (expandBlock e.format xs)
        count t.meas q.carrier = count s.meas q.carrier + (if q.levels.activity ≤ level then 1 else 0) ∧
        level ≤ peak t.meas ∧
        (s.OnlyBlock a.label r q.carrier q →
          let opened := ((s.gate r q.carrier).update level q.levels.gate q.levels.hold).passes
          let sum := { q with
            waiting := q.waiting.filter fun x => x.remote ≠ r
            contributors := if opened then q.contributors + 1 else q.contributors
            acc := if opened then accumulate (e.m * stepT e.g / 4096) q.acc (expandBlock e.format xs) else q.acc }
          s.GateTakes t r q.carrier q level ∧ (sum.waiting ≠ [] → sum ∈ t.comb.sums) ∧
          (sum.waiting = [] → min (s.comb.sat[q.sector] + sum.saturations) 65535 ≤ t.comb.sat[q.sector] ∧
            (q.discard = false → ⟨q.label, q.carrier, q.place, sum.samples⟩ ∈ t.comb.outputs)))) ∧
  (∀ (w : Nat) (xs : List IQ), accumulate w [] xs = xs.map fun x => ⟨w * x.i, w * x.q⟩) ∧
  ∀ (w : Nat) (as xs : List IQ), as.length = xs.length →
    accumulate w as xs = List.zipWith (fun a x => ⟨a.i + w * x.i, a.q + w * x.q⟩) as xs

/-! ## Remote links: frames -/

/-- MISSING_FRAME_PERIOD on a remote link is a bad frame, and REMOTE_FRAME_RECEIVED of a frame whose control word cannot be read
or whose number is not the successor does what it does (R2, R196): nothing in OFF, the run back to 0 in SEEK, an alignment error in
MISMATCH and ISOLATED, and in UP and NEGOTIATE an alignment error and a longer bad-frame run, which at 8 owes the loss
(R2, R6, R8, R9, R10, R13, R16). In UP the remote's blocks of the hub link frame that the bad frame would have answered, and of
earlier ones, are missing: each is counted once, gives its gate level 0 and leaves its sum, which is formed when it waits for
no other (R4, R10, R77, R78, R80, R87). Which hub link frame that is, is kept as the model chooses, log entry 11. -/
def Obligations.RemoteBadFrame : Prop :=
  (∀ (s : State) (r : RemoteId) (f : RemoteFrame), s.Quiet →
    (∀ w, parseWord f.word = some w → followsRemote s.rl[r] w = false) →
    exec (.remoteFrameReceived r f) s = exec (.missingFramePeriod (.remote r)) s) ∧
  (∀ (l : RemoteLink) (w : Word), followsRemote l w = false ↔
    ∃ g, l.lastGood = some g ∧ w.lf ≠ g.successor ∧ ¬ (l.state = .seek ∧ l.seekRun = 0)) ∧
  ∀ (s : State) (r : RemoteId), s.Quiet → ∃ t : State, exec (.missingFramePeriod (.remote r)) s = .next t ∧
    t.rl[r].state = s.rl[r].state ∧ (s.rl[r].state = .off → t = s) ∧
    (s.rl[r].state = .seek → t.rl[r].seekRun = 0 ∧ t.rl[r].alignErr = s.rl[r].alignErr) ∧
    (s.rl[r].state = .lost → t.rl[r].alignErr = s.rl[r].alignErr) ∧
    (s.rl[r].state = .mismatch ∨ s.rl[r].state = .isolated →
      t.rl[r].alignErr = min (s.rl[r].alignErr + 1) 4294967295 ∧ t.due = []) ∧
    (s.rl[r].state = .negotiate ∨ s.rl[r].state = .up →
      t.rl[r].alignErr = min (s.rl[r].alignErr + 1) 4294967295 ∧ t.rl[r].badRun = min (s.rl[r].badRun + 1) 8) ∧
    (s.rl[r].state = .negotiate → 7 ≤ s.rl[r].badRun → .negotiateAlignmentLoss r ∈ t.due) ∧
    (s.rl[r].state = .up → 7 ≤ s.rl[r].badRun → .linkLostEntry r ∈ t.due) ∧
    (∀ q : RemoteId, q ≠ r → t.rl[q] = s.rl[q] ∧ t.comb.gates[q] = s.comb.gates[q]) ∧
    (s.rl[r].state ≠ .up → t = { s with rl := t.rl, due := t.due }) ∧
    (s.rl[r].state = .up →
      t.rl[r] = { s.rl[r] with
        alignErr := t.rl[r].alignErr, badRun := t.rl[r].badRun, missing := t.rl[r].missing
        nextAnswer := t.rl[r].nextAnswer } ∧
      (s.tb.label < s.rl[r].nextAnswer → t.rl[r].missing = s.rl[r].missing ∧ t.comb = s.comb) ∧
      (s.rl[r].nextAnswer ≤ s.tb.label → s.SumsFormed →
        let ends : UplinkSum → Bool := fun q => q.label ≤ s.rl[r].nextAnswer && q.waiting.any fun e => e.remote = r
        let formed : UplinkSum → Bool := fun q => ends q && q.waiting.all fun e => e.remote = r
        t.rl[r].missing = min (s.rl[r].missing + (s.comb.sums.filter ends).length) 4294967295 ∧
        t.comb.sums = (s.comb.sums.filter fun q => !formed q).map (fun q =>
          if ends q then { q with waiting := q.waiting.filter fun e => e.remote ≠ r } else q) ∧
        t.comb.outputs = s.comb.outputs ++ ((s.comb.sums.filter fun q => formed q && !q.discard).map fun q =>
          ⟨q.label, q.carrier, q.place, q.samples⟩) ∧
        (∀ x : SectorId, t.comb.sat[x] = min (s.comb.sat[x] +
          ((s.comb.sums.filter fun q => formed q && q.sector = x).map fun q => q.saturations).sum) 65535) ∧
        (∀ c : CarrierId, s.NoBlock s.rl[r].nextAnswer r c → t.gate r c = s.gate r c) ∧
        ∀ (c : CarrierId) (q : UplinkSum), s.OnlyBlock s.rl[r].nextAnswer r c q → s.GateTakes t r c q 0)) ∧
    t = { s with
      rl := t.rl, due := t.due
      comb := { s.comb with
        gates := t.comb.gates, sums := t.comb.sums, outputs := t.comb.outputs, sat := t.comb.sat } }

/-- REMOTE_FRAME_RECEIVED in SEEK: a good frame lengthens the run and counts; the fourth owes the entry into NEGOTIATE (R6).
In LOST, MISMATCH and ISOLATED a good frame is counted and changes nothing else (R9, R11, R13, R16). In OFF nothing is
accepted. Which hub link frame the next frame would answer is kept as the model chooses, log entry 11. -/
def Obligations.SeekFrame : Prop :=
  ∀ (s : State) (r : RemoteId) (f : RemoteFrame), s.Quiet →
    (s.rl[r].state = .off → exec (.remoteFrameReceived r f) s = .next s) ∧
    (∀ w, s.rl[r].state = .seek → parseWord f.word = some w → followsRemote s.rl[r] w = true →
      ∃ t : State, exec (.remoteFrameReceived r f) s = .next t ∧
        t.rl[r] = { s.rl[r] with
          framesRx := min (s.rl[r].framesRx + 1) 4294967295, lastGood := some (s.tb.goodFrame w)
          seekRun := s.rl[r].seekRun + 1, nextAnswer := t.rl[r].nextAnswer } ∧
        t.due = (if 3 ≤ s.rl[r].seekRun then [.seekRunComplete r] else []) ∧
        (∀ q : RemoteId, q ≠ r → t.rl[q] = s.rl[q]) ∧ t = { s with rl := t.rl, due := t.due }) ∧
    (∀ w, s.rl[r].state = .lost ∨ s.rl[r].state = .mismatch ∨ s.rl[r].state = .isolated → parseWord f.word = some w →
      followsRemote s.rl[r] w = true →
      ∃ t : State, exec (.remoteFrameReceived r f) s = .next t ∧
        t.rl[r] = { s.rl[r] with
          framesRx := min (s.rl[r].framesRx + 1) 4294967295, lastGood := some (s.tb.goodFrame w)
          nextAnswer := t.rl[r].nextAnswer } ∧
        (∀ q : RemoteId, q ≠ r → t.rl[q] = s.rl[q]) ∧ t = { s with rl := t.rl })

/-- A CAPABILITY word in link frame 0 of a good frame in AWAIT_CAPABILITY stores the capability and chooses the first format
of W16, W12, W8 in both sets; with none the link enters MISMATCH and LINK_MISMATCH is raised (R7, R197). -/
def Obligations.CapabilityChoosesFormat : Prop :=
  ∀ (s : State) (r : RemoteId) (f : RemoteFrame) (w : Word), s.Quiet → s.rl[r].state = .negotiate →
    s.rl[r].phase = .awaitCapability → parseWord f.word = some w → w.type = typeCapability → w.lf = 0 →
    followsRemote s.rl[r] w = true → (answered s.tb.history w.low 0).isSome →
    ∃ (t : State) (cap : Capability), exec (.remoteFrameReceived r f) s = .next t ∧ t.rl[r].capability = some cap ∧
      cap.formats = formatSetOf (w.payload.getD 0 0) ∧
      cap.serial.toNat = unsigned ((w.payload.drop 1).take 4) ∧
      cap.hint = max 1 (min (unsigned ((w.payload.drop 5).take 2)) 4000) ∧
      (∀ c, cap.formats.choose s.rl[r].offered = some c →
        t.rl[r].state = .negotiate ∧ t.rl[r].phase = .ordered ∧ t.rl[r].chosen = some c ∧ t.sup = s.sup) ∧
      (cap.formats.choose s.rl[r].offered = none →
        t.rl[r].state = .mismatch ∧ t.holds ⟨.linkMismatch, .remote r⟩ = true ∧
        t.Recorded ⟨.linkMismatch, .remote r⟩) ∧
      (∀ q : RemoteId, q ≠ r → t.rl[q] = s.rl[q]) ∧ t = { s with rl := t.rl, sup := t.sup }

/-! ## Operator links and the trunk -/

/-- OPERATOR_FRAME_RECEIVED on an UP operator link: the slot of each DEFINED carrier of the operator yields its source block,
the others' blocks stay (R5, R65). Link frame 0 of the reference link takes a LOCKED Timebase into RELOCKING when it does not
start at the hub's own boundary, and owes TIMEBASE_RELOCK in RELOCKING (R25, R26). In SEEK a good frame is counted and
lengthens the run, and the fourth owes LINK_SEEK_TO_UP; in LOST it is counted; nothing else changes in either (R16, R22). -/
def Obligations.OperatorFrame : Prop :=
  (∀ (s : State) (o : OpId) (f : TermFrame) (w : Word), s.Quiet → s.ol[o].state ≠ .up → parseWord f.word = some w →
    followsTerm s.ol[o] w = true → exec (.operatorFrameReceived o f) s = .next { s with
      ol := s.ol.set o { s.ol[o] with
        framesRx := min (s.ol[o].framesRx + 1) 4294967295, lastGood := some w.lf
        seekRun := if s.ol[o].state = .seek then s.ol[o].seekRun + 1 else s.ol[o].seekRun }
      due := if s.ol[o].state = .seek ∧ 3 ≤ s.ol[o].seekRun then [.linkSeekToUp (.op o)] else [] }) ∧
  ∀ (s : State) (o : OpId) (f : TermFrame) (w : Word), s.Quiet → s.ol[o].state = .up →
    parseWord f.word = some w → followsTerm s.ol[o] w = true →
    ∃ t : State, exec (.operatorFrameReceived o f) s = .next t ∧ s.TimebaseFollows t (.op o) w f.atBoundary ∧
      t.ol[o] = { s.ol[o] with
        framesRx := min (s.ol[o].framesRx + 1) 4294967295, lastGood := some w.lf, badRun := 0 } ∧
      (∀ (c : CarrierId) (p : CarrierPlace), (s.carrier c).place = some p → p.op = o →
        t.dist.incoming.filter (fun b => b.carrier = c) = [⟨c, slotBlock p.slot p.width f.slots⟩]) ∧
      (∀ c : CarrierId, s.plan.owner c ≠ some o →
        t.dist.incoming.filter (fun b => b.carrier = c) = s.dist.incoming.filter (fun b => b.carrier = c)) ∧
      (∀ p : OpId, p ≠ o → t.ol[p] = s.ol[p]) ∧
      t = { s with
        ol := t.ol, tb := t.tb, sup := t.sup, due := s.relockOwed (.op o) w f.atBoundary
        dist := { s.dist with incoming := t.dist.incoming } }

/-- MISSING_FRAME_PERIOD on an operator link or the trunk is a bad frame, and OPERATOR_FRAME_RECEIVED or TRUNK_FRAME_RECEIVED of a
frame whose control word cannot be read or whose number is not the successor does what it does (R2, R196): the run back to 0 in
SEEK, nothing in LOST, and in UP an alignment error and a longer bad-frame run, which at 8 owes the loss; on the trunk it cuts
off the message in assembly; no other link changes (R22, R24, R176). -/
def Obligations.TermBadFrame : Prop :=
  (∀ (s : State) (o : OpId) (f : TermFrame), s.Quiet → (∀ w, parseWord f.word = some w → followsTerm s.ol[o] w = false) →
    exec (.operatorFrameReceived o f) s = exec (.missingFramePeriod (.term (.op o))) s) ∧
  (∀ (s : State) (f : TermFrame), s.Quiet → (∀ w, parseWord f.word = some w → followsTerm s.trunk w = false) →
    exec (.trunkFrameReceived f) s = exec (.missingFramePeriod (.term .trunk)) s) ∧
  (∀ (l : TermLink) (w : Word), followsTerm l w = false ↔
    ∃ n, l.lastGood = some n ∧ w.lf ≠ (n + 1) % 80 ∧ ¬ (l.state = .seek ∧ l.seekRun = 0)) ∧
  ∀ (s : State) (l : TermLinkId), s.Quiet → ∃ t : State, exec (.missingFramePeriod (.term l)) s = .next t ∧
    (s.term l).state = (t.term l).state ∧
    ((s.term l).state = .seek → t = s.modTerm l fun k => { k with seekRun := 0 }) ∧
    ((s.term l).state = .lost → t = s) ∧
    ((s.term l).state = .up → (∀ k, k ≠ l → t.term k = s.term k) ∧
      t.term l = { s.term l with
        alignErr := min ((s.term l).alignErr + 1) 4294967295, badRun := min ((s.term l).badRun + 1) 8 } ∧
      t.due = (if 7 ≤ (s.term l).badRun then [.linkUpToLost l] else []) ∧
      (∀ o, l = .op o → t.mgmt = s.mgmt) ∧
      (l = .trunk → t.mgmt = { s.mgmt with
        assembly := none
        discards := if s.mgmt.assembly.isSome then min (s.mgmt.discards + 1) 4294967295 else s.mgmt.discards }) ∧
      t = { s with ol := t.ol, trunk := t.trunk, due := t.due, mgmt := t.mgmt })

/-- LINK_SEEK_TO_UP, LINK_UP_TO_LOST of an operator link, and LINK_LOST_HOLD_END (R22, R25): the loss condition begins with the
loss and ends with UP, and the reference link takes the Timebase through RELOCKING and HOLDOVER. -/
def Obligations.TermLinkSteps : Prop :=
  (∀ (s : State) (l : TermLinkId), s.Next (.linkSeekToUp l) → (s.term l).state = .seek → 4 ≤ (s.term l).seekRun →
    ∃ t : State, exec (.linkSeekToUp l) s = .next t ∧
      t.term l = { s.term l with state := .up, badRun := 0, beenUp := true, lossCond := false } ∧
      (s.isReference l = true → t.tb = { s.tb with state := .relocking }) ∧ (s.isReference l = false → t.tb = s.tb) ∧
      (∀ k, k ≠ l → t.term k = s.term k) ∧ t.holds (State.lossKey l) = false ∧
      t = { s with ol := t.ol, trunk := t.trunk, tb := t.tb, sup := t.sup, due := s.due.erase (.linkSeekToUp l) }) ∧
  (∀ (s : State) (o : OpId), s.Next (.linkUpToLost (.op o)) → s.ol[o].state = .up → 8 ≤ s.ol[o].badRun →
    ∃ t : State, exec (.linkUpToLost (.op o)) s = .next t ∧
      t.ol[o] = { s.ol[o] with
        state := .lost, holdTimer := 0, lostEntries := min (s.ol[o].lostEntries + 1) 4294967295, lossCond := true } ∧
      (s.isReference (.op o) = true → t.tb = { s.tb with state := .holdover }) ∧
      (s.isReference (.op o) = false → t.tb = s.tb ∧ t.Recorded ⟨.operatorLinkLost, .operator o⟩) ∧
      (∀ p : OpId, p ≠ o → t.ol[p] = s.ol[p]) ∧
      t = { s with ol := t.ol, tb := t.tb, sup := t.sup, due := s.due.erase (.linkUpToLost (.op o)) }) ∧
  (∀ (s : State) (l : TermLinkId), s.Next (.linkLostHoldEnd l) → (s.term l).state = .lost → 50 ≤ (s.term l).holdTimer →
    exec (.linkLostHoldEnd l) s =
      .next ((s.dropDue (.linkLostHoldEnd l)).modTerm l fun k => { k with state := .seek, seekRun := 0 }))

/-- LINK_UP_TO_LOST of the trunk: it enters LOST with its hold at 0 and counts the entry; the assembly, the due messages and
the ALERT are discarded and the service scope dropped; the commands in progress, the barring, the access codes and the plans
are kept; and when the trunk is the reference the Timebase enters HOLDOVER (R22, R25, R172, R191). -/
def Obligations.TrunkLoss : Prop :=
  ∀ s : State, s.Next (.linkUpToLost .trunk) → s.trunk.state = .up → 8 ≤ s.trunk.badRun →
    ∃ t : State, exec (.linkUpToLost .trunk) s = .next t ∧
      t.trunk = { s.trunk with
        state := .lost, holdTimer := 0, lostEntries := min (s.trunk.lostEntries + 1) 4294967295, lossCond := true } ∧
      t.mgmt = { s.mgmt with
        assembly := none, due := [], alert := none, tx := none, scope := none
        discards := if s.mgmt.assembly.isSome then min (s.mgmt.discards + 1) 4294967295 else s.mgmt.discards } ∧
      (s.mgmt.alert.isSome → s.sup.enable = true → t.sup.pending = true) ∧
      t.holds ⟨.trunkLinkLost, .device⟩ = true ∧
      t.Recorded ⟨.trunkLinkLost, .device⟩ ∧
      (s.tb.reference = .trunk → t.tb = { s.tb with state := .holdover } ∧ t.holds ⟨.timingHoldover, .device⟩ = true) ∧
      (s.tb.reference ≠ .trunk → t.tb = s.tb) ∧
      t.plan = s.plan ∧ t.bal = s.bal ∧ t.mode = s.mode ∧ t.rl = s.rl ∧
      t.ol = s.ol ∧ t.comb = s.comb ∧ t.meas = s.meas ∧ t.place = s.place

/-! ## Timebase -/

/-- TIMEBASE_RELOCK in RELOCKING: at the hub's own boundary the Timebase enters LOCKED and nothing else changes but the
condition; inside a superframe a boundary is made there, the count goes up by one, and the frame in progress yields no
source block (R26). An ACTIVE entry of TIMING_HOLDOVER is CLEARED in its position with the count of the superframe that begins
there (R157, R160). That a relock at the boundary taken while a link frame after link frame 0 is in progress stands ahead of
its boundary, and one with link frame 0 in progress after it, is the model's choice, log entry 37. -/
def Obligations.TimebaseRelock : Prop :=
  ∀ s : State, s.tb.state = .relocking →
    let ends : State → Count → Prop := fun t n => ∀ e, s.sup.entry ⟨.timingHoldover, .device⟩ = some e → e.active = true →
      t.sup.alarms = s.sup.alarms.map fun x =>
        if x.key = ⟨.timingHoldover, .device⟩ then { x with active := false, last := n } else x
    (s.Next (.timebaseRelock true) → ∃ t : State, exec (.timebaseRelock true) s = .next t ∧
      t.tb = { s.tb with state := .locked } ∧ t.holds ⟨.timingHoldover, .device⟩ = false ∧
      ((∃ lf, s.boundary = none ∧ s.tb.lf = some lf ∧ 0 < lf) → ends t (s.tb.count + 1)) ∧
      (s.boundary.isSome ∨ s.tb.lf = none ∨ s.tb.lf = some 0 → ends t s.tb.count) ∧
      t = { s with tb := t.tb, sup := t.sup, due := s.due.erase (.timebaseRelock true) }) ∧
    (s.Next (.timebaseRelock false) → ∃ t : State, exec (.timebaseRelock false) s = .next t ∧
      t.tb = { s.tb with state := .locked, count := s.tb.count + 1, lf := none } ∧ t.dist.source = [] ∧
      t.holds ⟨.timingHoldover, .device⟩ = false ∧ ends t (s.tb.count + 1) ∧ t.boundary.isSome ∧ t.plan = s.plan ∧
      t.bal = s.bal ∧
      (∀ q ∈ t.comb.sums, q.label ≠ s.tb.label))

/-- TIMING SET: the selection applies at once. FREE gives FREE, a link that is not UP gives HOLDOVER, an UP link gives
RELOCKING unless it is the one selected and the state is LOCKED; TIMING_HOLDOVER holds in RELOCKING and HOLDOVER; any other
value is refused; the count does not change (R27). -/
def Obligations.TimingSet : Prop :=
  ∀ (s : State) (tag : Byte), s.Ready .control →
    (∀ ref : Reference, ∃ t : State, exec (.timingSet 0x01 tag [ref.code]) s =
        .next (t.answering (reply .control tag 0x14 .done false [])) ∧
      t = { s with tb := t.tb, sup := t.sup } ∧ t.tb.count = s.tb.count ∧ t.tb.reference = ref ∧
      (ref = .free → t.tb.state = .free) ∧
      (∀ l, State.referenceLink ref = some l →
        ((s.term l).state ≠ .up → t.tb.state = .holdover) ∧
        ((s.term l).state = .up → ref = s.tb.reference → s.tb.state = .locked → t.tb.state = .locked) ∧
        ((s.term l).state = .up → ¬ (ref = s.tb.reference ∧ s.tb.state = .locked) → t.tb.state = .relocking)) ∧
      (t.holds ⟨.timingHoldover, .device⟩ = true ↔ t.tb.state = .holdover ∨ t.tb.state = .relocking)) ∧
    (∀ b : Byte, 6 ≤ b.toNat → exec (.timingSet 0x01 tag [b]) s =
      .next (s.answering (reply .control tag 0x14 .badParameter false [])))

/-! ## Remote links: steps -/

/-- SEEK_RUN_COMPLETE and LINK_ENTERS_UP: a run of 4 enters NEGOTIATE in AWAIT_CAPABILITY; a CONFIRMED negotiation enters UP
with the chosen format, clean far-end filters and a record derived from the inputs in force (R6, R8, R57). That the rest of
the link record stays, the negotiation timer with it, and that the chosen format becomes absent is the model's reading, log
entry 15. -/
def Obligations.LinkComesUp : Prop :=
  (∀ (s : State) (r : RemoteId), s.Next (.seekRunComplete r) → s.rl[r].state = .seek → 4 ≤ s.rl[r].seekRun →
    exec (.seekRunComplete r) s = .next ((s.dropDue (.seekRunComplete r)).modRl r fun l =>
      { l with state := .negotiate, phase := .awaitCapability, negTimer := 0, badRun := 0 })) ∧
  (∀ (s : State) (r : RemoteId) (f : Format), s.Next (.linkEntersUp r) → s.rl[r].state = .negotiate →
    s.rl[r].phase = .confirmed → s.rl[r].chosen = some f →
    ∃ t : State, exec (.linkEntersUp r) s = .next t ∧
      t.rl[r] = { s.rl[r] with
        state := .up, phase := .none, format := some f, chosen := none, flags := Vector.replicate 4 ⟨false, 0⟩
        echoRun := 0, badRun := 0, lostCond := false } ∧
      t.record r = s.plan.recordFor s.mode.mode f s.rl[r].pmaxEff (s.plan.activeCalls r) (s.record r).sleep ∧
      s.SameOtherRemotes t r ∧ (s.dropDue (.linkEntersUp r)).SameButLinks t ∧ t.comb = s.comb)

/-- NEGOTIATION_TIMEOUT, NEGOTIATE_ALIGNMENT_LOSS, LOST_HOLD_END and ECHO_FAILURE each restart the link to SEEK; the first two
alone count a negotiation failure (R8, R11, R12, R14). -/
def Obligations.LinkRestarts : Prop :=
  (∀ (s : State) (r : RemoteId), s.Next (.negotiationTimeout r) → s.rl[r].state = .negotiate → 10 ≤ s.rl[r].negTimer →
    ∃ t : State, exec (.negotiationTimeout r) s = .next t ∧ (s.dropDue (.negotiationTimeout r)).Restarted t r .seek ∧
      t.rl[r].negFail = min (s.rl[r].negFail + 1) 4294967295) ∧
  (∀ (s : State) (r : RemoteId), s.Next (.negotiateAlignmentLoss r) → s.rl[r].state = .negotiate → 8 ≤ s.rl[r].badRun →
    ∃ t : State, exec (.negotiateAlignmentLoss r) s = .next t ∧ (s.dropDue (.negotiateAlignmentLoss r)).Restarted t r .seek ∧
      t.rl[r].negFail = min (s.rl[r].negFail + 1) 4294967295) ∧
  (∀ (s : State) (r : RemoteId), s.Next (.lostHoldEnd r) → s.rl[r].state = .lost → 50 ≤ s.rl[r].holdTimer →
    ∃ t : State, exec (.lostHoldEnd r) s = .next t ∧ (s.dropDue (.lostHoldEnd r)).Restarted t r .seek ∧
      t.rl[r].negFail = s.rl[r].negFail) ∧
  (∀ (s : State) (r : RemoteId), s.Next (.echoFailure r) → s.rl[r].state = .up → 3 ≤ s.rl[r].echoRun →
    ∃ t : State, exec (.echoFailure r) s = .next t ∧ (s.dropDue (.echoFailure r)).Restarted t r .seek ∧
      t.rl[r].negFail = s.rl[r].negFail)

/-- LINK_LOST_ENTRY: the link leaves UP for LOST with its hold at 0, keeps its format and capability, and LINK_LOST begins
(R10, R12, R58). -/
def Obligations.LinkLostEntry : Prop :=
  ∀ (s : State) (r : RemoteId), s.Next (.linkLostEntry r) → s.rl[r].state = .up → 8 ≤ s.rl[r].badRun →
    ∃ t : State, exec (.linkLostEntry r) s = .next t ∧ t.rl[r].state = .lost ∧ t.rl[r].holdTimer = 0 ∧
      t.rl[r].lostEntries = min (s.rl[r].lostEntries + 1) 4294967295 ∧ t.rl[r].format = s.rl[r].format ∧
      t.rl[r].capability = s.rl[r].capability ∧ t.rl[r].missing = s.rl[r].missing ∧ t.LeftUp r ∧
      t.holds ⟨.linkLost, .remote r⟩ = true ∧ t.Recorded ⟨.linkLost, .remote r⟩ ∧
      t.comb.gates = s.comb.gates ∧ s.SameOtherRemotes t r ∧ (s.dropDue (.linkLostEntry r)).SameButLinks t

/-- STATUS words and what they owe. In ORDERED a STATUS word in link frame 0 that echoes the chosen format enters CONFIRMED, and
any other leaves it in ORDERED (R8); in UP it feeds the four far-end filters, the sleep acknowledgement and the echo run, and a run of
3 owes FAR_FLAG_CHANGE or ECHO_FAILURE (R14, R197). FAR_FLAG_CHANGE: a flag whose run has reached 3 takes the other state with
its run at 0, and its condition begins or ends; nothing else changes (R14). The label of the next hub link frame to be
answered, which a frame sets one past the frame it answers, is the model's choice, log entry 11. -/
def Obligations.StatusWords : Prop :=
  (∀ (s : State) (r : RemoteId) (f : RemoteFrame) (w : Word) (a : HubFrame) (c : Format), s.Quiet →
    s.rl[r].state = .negotiate → s.rl[r].phase = .ordered → s.rl[r].chosen = some c → parseWord f.word = some w →
    w.type = typeStatus → w.lf = 0 → followsRemote s.rl[r] w = true →
    answered s.tb.history w.low 0 = some a →
    ∃ t : State, exec (.remoteFrameReceived r f) s = .next t ∧
      t.rl[r] = { s.rl[r] with
        framesRx := min (s.rl[r].framesRx + 1) 4294967295, lastGood := some (s.tb.goodFrame w), badRun := 0
        nextAnswer := a.label + 1
        phase := if w.payload.getD 2 0 = formatCode (some c) then .confirmed else .ordered } ∧
      (∀ q : RemoteId, q ≠ r → t.rl[q] = s.rl[q]) ∧ t = { s with rl := t.rl }) ∧
  (∀ (s : State) (r : RemoteId) (f : RemoteFrame) (w : Word) (a : HubFrame) (c : Format), s.Quiet →
    s.rl[r].state = .up → s.rl[r].format = some c → parseWord f.word = some w →
    w.type = typeStatus → w.lf = 0 → followsRemote s.rl[r] w = true →
    answered s.tb.history w.low 0 = some a →
    ∃ t : State, exec (.remoteFrameReceived r f) s = .next t ∧
      t.rl[r] = { s.rl[r] with
        framesRx := min (s.rl[r].framesRx + 1) 4294967295, lastGood := some (s.tb.goodFrame w), badRun := 0
        nextAnswer := a.label + 1, missing := t.rl[r].missing, flags := t.rl[r].flags
        sleepAck := decide (w.payload.getD 1 0 ≠ 0)
        echoRun := if w.payload.getD 2 0 = formatCode (some c) then 0 else min (s.rl[r].echoRun + 1) 3 } ∧
      (∀ i : Fin 4, t.rl[r].flags[i] = ⟨s.rl[r].flags[i].present,
        if (w.payload.getD 0 0).getLsbD i.val = s.rl[r].flags[i].present then 0 else min (s.rl[r].flags[i].run + 1) 3⟩) ∧
      (∀ i : Fin 4, .farFlagChange r i ∈ t.due ↔ 3 ≤ t.rl[r].flags[i].run) ∧
      (.echoFailure r ∈ t.due ↔ 3 ≤ t.rl[r].echoRun) ∧
      (∀ q : RemoteId, q ≠ r → t.rl[q] = s.rl[q]) ∧
      t = { s with rl := t.rl, comb := t.comb, meas := t.meas, due := t.due }) ∧
  ∀ (s : State) (r : RemoteId) (i : Fin 4), s.Next (.farFlagChange r i) → s.rl[r].state = .up →
    3 ≤ s.rl[r].flags[i].run → ∃ t : State, exec (.farFlagChange r i) s = .next t ∧
      t.rl[r] = { s.rl[r] with flags := s.rl[r].flags.set i ⟨!s.rl[r].flags[i].present, 0⟩ } ∧
      t.holds ⟨farKind i, .remote r⟩ = !s.rl[r].flags[i].present ∧
      (s.rl[r].flags[i].present = false → t.Recorded ⟨farKind i, .remote r⟩) ∧
      (∀ q : RemoteId, q ≠ r → t.rl[q] = s.rl[q]) ∧
      t = { s with rl := t.rl, sup := t.sup, due := s.due.erase (.farFlagChange r i) }

/-- LEVEL_FIELD_TAKES_EFFECT and LINK_SETTINGS_TAKE_EFFECT: the stored values become the values in effect; without a changed
downlink multiplier, power or composite limit nothing is recomputed, and with one the record of each remote that routes the
carrier, or of the remote itself, is derived again (R20, R31, R57). -/
def Obligations.SettingsTakeEffect : Prop :=
  (∀ (s : State) (c : CarrierId), s.Next (.levelFieldTakesEffect c) →
    ∃ t : State, exec (.levelFieldTakesEffect c) s = .next t ∧ t.carrier c = { s.carrier c with eff := (s.carrier c).set } ∧
      (∀ d : CarrierId, d ≠ c → t.carrier d = s.carrier d) ∧ t.plan.plans = s.plan.plans ∧
      t = { s with plan := t.plan, place := t.place, sup := t.sup, due := s.due.erase (.levelFieldTakesEffect c) } ∧
      ((s.carrier c).set.mdl = (s.carrier c).eff.mdl → (s.carrier c).set.power = (s.carrier c).eff.power →
        t.place = s.place ∧ t.sup = s.sup) ∧
      ((s.carrier c).place.isSome → (s.carrier c).set.mdl ≠ (s.carrier c).eff.mdl ∨
          (s.carrier c).set.power ≠ (s.carrier c).eff.power →
        ∀ r : RemoteId, (c ∈ (s.record r).routed → t.record r = t.derive r) ∧
          (c ∉ (s.record r).routed → t.record r = s.record r))) ∧
  (∀ (s : State) (r : RemoteId), s.Next (.linkSettingsTakeEffect r) →
    ∃ t : State, exec (.linkSettingsTakeEffect r) s = .next t ∧
      t.rl[r] = { s.rl[r] with mEff := s.rl[r].m, pmaxEff := s.rl[r].pmax } ∧
      (∀ q : RemoteId, q ≠ r → t.rl[q] = s.rl[q] ∧ t.record q = s.record q) ∧
      t = { s with rl := t.rl, place := t.place, sup := t.sup, due := s.due.erase (.linkSettingsTakeEffect r) } ∧
      (s.rl[r].pmaxEff = s.rl[r].pmax → t.place = s.place ∧ t.sup = s.sup) ∧
      (s.rl[r].pmaxEff ≠ s.rl[r].pmax → t.record r = t.derive r))

/-! ## Placement and downlink arithmetic -/

/-- The record of an UP remote: the routed set holds each carrier that the current sectors in the active banks list, less the
suspended ones; 4k, 3k or 2k units a carrier; at 192 units or fewer everything is placed, and otherwise carriers are removed
one at a time, by largest priority value and then highest number, only while the rest exceeds 192; CARRIER_SHED holds while
the shed list is not empty (R53 to R55). -/
def Obligations.UnitsAndShedding : Prop :=
  (∀ (s : State) (r : RemoteId) (f : Format), s.rl[r].state = .up → s.rl[r].format = some f →
    let p := (s.recompute r).record r
    let count : CarrierId → Nat := fun c => (match f with | .w16 => 4 | .w12 => 3 | .w8 => 2) * s.plan.width c
    (∀ c, c ∈ p.routed ↔ (∃ o i, (s.opPlan o).active.zones[r].cur = some i ∧ c ∈ (s.opPlan o).active.sectors[i].carriers) ∧
      s.plan.suspended s.mode.mode c = false) ∧
    p.routed.Pairwise (· < ·) ∧ p.placed.Pairwise (· < ·) ∧ (p.placed ++ p.shed).Perm p.routed ∧
    p.routedUnits = (p.routed.map count).sum ∧ p.units = (p.placed.map count).sum ∧ p.units ≤ 192 ∧
    (p.routedUnits ≤ 192 → p.placed = p.routed ∧ p.shed = []) ∧
    (192 < p.routedUnits → p.shed ≠ []) ∧
    (∀ n < p.shed.length, 192 < ((p.placed ++ p.shed.drop n).map count).sum) ∧
    p.shed.Pairwise (fun a b => s.plan.shedBefore a b = true) ∧
    ∀ a ∈ p.shed, ∀ b ∈ p.placed, s.plan.shedBefore a b = true) ∧
  (∀ (ps : PlanStore) (a b : CarrierId), ps.shedBefore a b = true ↔ ps.carriers[b].priority < ps.carriers[a].priority ∨
    (ps.carriers[a].priority = ps.carriers[b].priority ∧ b < a)) ∧
  ∀ (s : State) (r : RemoteId), s.holds ⟨.carrierShed, .remote r⟩ = true ↔ (s.record r).shed ≠ []

/-- Composite power and backoff of an UP remote: the sum of the power units in effect of the placed set; the smallest step in
0 to 8 that passes the test; step 8 and overload when none does; nothing is shed for power; and COMPOSITE_OVERLOAD holds
while overload is on (R56). -/
def Obligations.CompositeBackoff : Prop :=
  (∀ (s : State) (r : RemoteId) (f : Format), s.rl[r].state = .up → s.rl[r].format = some f →
    let p := (s.recompute r).record r
    let passes : Nat → Prop := fun b => p.power * stepT b ^ 2 ≤ s.rl[r].pmaxEff * 4096 ^ 2
    p.power = (p.placed.map fun c => (s.carrier c).eff.power).sum ∧ p.backoff ≤ 8 ∧
    (p.overload = true → p.backoff = 8 ∧ ∀ b ≤ 8, ¬ passes b) ∧
    (p.overload = false → passes p.backoff ∧ ∀ b < p.backoff, ¬ passes b) ∧
    (p.backoff < 8 → passes p.backoff) ∧
    (p.placed = [] → p.power = 0 ∧ p.backoff = 0 ∧ p.overload = false)) ∧
  (∀ (ps : PlanStore) (mode : HubMode) (f : Format) (pmax pmax' : Nat) (calls : List (List CarrierId)) (sleep : Bool),
    (ps.recordFor mode f pmax calls sleep).placed = (ps.recordFor mode f pmax' calls sleep).placed ∧
    (ps.recordFor mode f pmax calls sleep).shed = (ps.recordFor mode f pmax' calls sleep).shed) ∧
  ∀ (s : State) (r : RemoteId), s.holds ⟨.compositeOverload, .remote r⟩ = (s.record r).overload

/-- Scaling factors and downlink scaling: at each recomputation floor(m_dl × T[b] / 4096) for each placed carrier and for no
other, in 0 to 4096, at most m_dl, equal to it at step 0 and to T[b] at m_dl 4096 (R67); for each I and each Q value,
(x × k + 2048) / 4096 rounded down, within 16 bits without the saturation having effect, and 0 for factor 0 (R68). -/
def Obligations.DownlinkScaling : Prop :=
  (∀ (s : State) (r : RemoteId) (f : Format), s.rl[r].state = .up → s.rl[r].format = some f →
    ((s.recompute r).record r).factors = ((s.recompute r).record r).placed.map fun c =>
      (c, (s.carrier c).eff.mdl * stepT ((s.recompute r).record r).backoff / 4096)) ∧
  (∀ mdl b : Nat, b ≤ 8 → scalingFactor mdl b = mdl * stepT b / 4096 ∧ scalingFactor mdl b ≤ mdl ∧
    (mdl ≤ 4096 → scalingFactor mdl b ≤ 4096) ∧ scalingFactor mdl 0 = mdl ∧ scalingFactor 4096 b = stepT b) ∧
  (∀ (x : Int) (k : Nat), -32768 ≤ x → x ≤ 32767 → k ≤ 4096 →
    scaleValue k x = saturate 16 ((x * k + 2048) / 4096) ∧ scaleValue k x = (x * k + 2048) / 4096 ∧
    -32768 ≤ scaleValue k x ∧ scaleValue k x ≤ 32767 ∧ scaleValue 0 x = 0) ∧
  ∀ (k : Nat) (xs : List IQ), scaleBlock .w16 k xs = xs.map fun v => ⟨scaleValue k v.i, scaleValue k v.q⟩

/-- Format reduction: W16 unchanged; W12 and W8 rounded halves upward and saturated, where only the top values saturate; I
and Q apart, in the order of the source block, and no saturation is counted (R69). -/
def Obligations.FormatReduction : Prop :=
  (∀ y : Int, -32768 ≤ y → y ≤ 32767 →
    reduceValue .w16 y = y ∧
    (y < 32760 → reduceValue .w12 y = (y + 8) / 16) ∧
    (32760 ≤ y → (y + 8) / 16 = 2048 ∧ reduceValue .w12 y = 2047) ∧
    (y < 32640 → reduceValue .w8 y = (y + 128) / 256) ∧
    (32640 ≤ y → (y + 128) / 256 = 128 ∧ reduceValue .w8 y = 127) ∧
    -2048 ≤ reduceValue .w12 y ∧ reduceValue .w12 y ≤ 2047 ∧ -128 ≤ reduceValue .w8 y ∧ reduceValue .w8 y ≤ 127) ∧
  (∀ (s : State) (f : Format) (c : CarrierId) (k : Nat) (b : SourceBlock),
    (s.dist.source.find? fun x => x.carrier = c) = some b →
    (s.containerFor f (c, k)).samples =
      b.samples.map fun v => ⟨reduceValue f (scaleValue k v.i), reduceValue f (scaleValue k v.q)⟩) ∧
  ∀ (s : State) (lf : Nat), (s.transmit lf).comb = s.comb ∧ (s.transmit lf).meas = s.meas

/-! ## Uplink -/

/-- The gate: a level at or above the gate level opens it with counter 0; below it an open gate stays for the hold and then
closes on the block that passes the hold, which GATE_HOLD_EXPIRY carries out; a closed gate stays closed (R81). -/
def Obligations.GateUpdates : Prop :=
  (∀ (g : Gate) (level gateLevel gateHold : Nat),
    let t := g.update level gateLevel gateHold
    (gateLevel ≤ level → t = ⟨⟨true, 0⟩, true, false⟩) ∧
    (level < gateLevel → g.isOpen = true → g.counter + 1 ≤ gateHold → t = ⟨⟨true, g.counter + 1⟩, true, false⟩) ∧
    (level < gateLevel → g.isOpen = true → gateHold < g.counter + 1 → t.passes = false ∧ t.expires = true) ∧
    (level < gateLevel → g.isOpen = false → t = ⟨⟨false, 0⟩, false, false⟩)) ∧
  ∀ (s : State) (r : RemoteId) (c : CarrierId), s.Next (.gateHoldExpiry r c) →
    ∃ t : State, exec (.gateHoldExpiry r c) s = .next t ∧ t.gate r c = ⟨false, 0⟩ ∧
      (∀ (q : RemoteId) (d : CarrierId), ¬ (q = r ∧ d = c) → t.gate q d = s.gate q d) ∧
      t = { s with comb := { s.comb with gates := t.comb.gates }, due := s.due.erase (.gateHoldExpiry r c) }

/-- The uplink sum: scaled down by 12 + h bits, rounded halves upward and saturated; a lone unity contributor passes unchanged
at h = 0; 2^h members at 32767 and unity weight do not saturate and one more does; every I and every Q value is rounded, and
counts as a saturation, apart; no contributor gives zero and no count (R86, R87). -/
def Obligations.UplinkRounding : Prop :=
  (∀ (h : Nat) (a : Int), outputValue h a = max (-32768) (min 32767 ((a + 2 ^ (11 + h)) / 2 ^ (12 + h)))) ∧
  (∀ x : Int, -32768 ≤ x → x ≤ 32767 → outputValue 0 (4096 * x) = x ∧ saturated 0 (4096 * x) = 0) ∧
  (∀ h : Nat, h ≤ 4 → outputValue h (2 ^ h * (32767 * 4096)) = 32767 ∧ saturated h (2 ^ h * (32767 * 4096)) = 0 ∧
    saturated h ((2 ^ h + 1) * (32767 * 4096)) = 1) ∧
  (∀ (h : Nat) (a : Int), let scaled := (a + 2 ^ (11 + h)) / 2 ^ (12 + h)
    (-32768 ≤ scaled ∧ scaled ≤ 32767 → saturated h a = 0) ∧ (scaled < -32768 ∨ 32767 < scaled → saturated h a = 1)) ∧
  (∀ q : UplinkSum, q.contributors ≠ 0 →
    q.samples = q.acc.map (fun a => ⟨outputValue q.h a.i, outputValue q.h a.q⟩) ∧
    q.saturations = (q.acc.map fun a => saturated q.h a.i).sum + (q.acc.map fun a => saturated q.h a.q).sum) ∧
  ∀ q : UplinkSum, q.contributors = 0 →
    q.samples = List.replicate (960 * q.place.width) ⟨0, 0⟩ ∧ q.saturations = 0

/-! ## Measurement -/

/-- Occupancy: floor(A × 1024 / (80 × Wa)) for all 576 pairs; within 0 to 1024 while A is at most 80 × Wa, and 1024 only at
that bound (R103). -/
def Obligations.Occupancy : Prop :=
  (∀ (closing : Count) (m : Measurement) (banks : Vector Bank 4) (sat : Vector Nat 32) (r : RemoteId) (c : CarrierId),
    (formSnapshot closing m banks sat).occ[r][c] = m.activity[r][c] * 1024 / (80 * m.position)) ∧
  ∀ a wa : Nat, 0 < wa → a ≤ 80 * wa → occupancy a wa ≤ 1024 ∧ (occupancy a wa = 1024 ↔ a = 80 * wa)

/-- Demand share and sector load: the floor of the mean occupancy over the carriers of the current sector, 0 without sector or
carriers; the sum over the members, at most 4095 (R104, R105). -/
def Obligations.ShareAndLoad : Prop :=
  ∀ (closing : Count) (m : Measurement) (banks : Vector Bank 4) (sat : Vector Nat 32) (o : OpId) (i : SectorIx)
    (n : Snapshot), n = formSnapshot closing m banks sat →
    (∀ r : RemoteId, (banks[o].zones[r].cur = none → n.share[o][r] = 0) ∧
      ∀ j : SectorIx, banks[o].zones[r].cur = some j →
        n.share[o][r] = ((banks[o].sectors[j].carriers.map fun c : CarrierId => n.occ[r][c]).sum) / banks[o].sectors[j].carriers.length ∧
        (banks[o].sectors[j].carriers = [] → n.share[o][r] = 0) ∧
        ((∀ c : CarrierId, n.occ[r][c] ≤ 1024) → n.share[o][r] ≤ 1024)) ∧
    n.load[sectorOf o i] = min 4095
      ((allRemotes.filter fun r => banks[o].zones[r].cur = some i).map fun r => n.share[o][r]).sum

/-- WINDOW_END: the snapshot of the closing window is formed from the banks that governed it, W set becomes W in force, the
position restarts, the overload indications follow the saturation counts, which restart, every hold-off counts down, and no
active bank, link, placement record or channel changes (R88, R92, R94, R98, R106, R115). That the counts of blocks of the link
frame that follows were held apart and open the new window is the model's reading, log entry 7, and so is that a hold-off set
by an accepted move at this boundary is not counted down, log entry 22. -/
def Obligations.WindowEnd : Prop :=
  ∀ (s : State) (b : Boundary), s.Next .windowEnd → s.boundary = some b →
    ∃ t : State, exec .windowEnd s = .next t ∧
      t.meas.snap = formSnapshot (s.tb.count - 1) s.meas b.banks s.comb.sat ∧ t.meas.position = 0 ∧
      t.meas.wForce = s.meas.wSet ∧ t.meas.activity = s.meas.heldActivity ∧ t.meas.peak = s.meas.heldPeak ∧
      t.comb.sat = Vector.replicate 32 0 ∧
      (∀ x : SectorId, t.comb.overload[x] = decide (s.meas.satLimit < s.comb.sat[x])) ∧
      (∀ r : RemoteId, s.comb.guard[r] ≤ t.comb.guard[r] ∧ t.comb.guard[r] ≤ s.comb.guard[r] + 1) ∧
      (∀ (o : OpId) (r : RemoteId), s.bal[o].mode ≠ .auto → (o, r) ∉ b.moved →
        t.bal[o].holdOff[r] = s.bal[o].holdOff[r] - 1) ∧
      (∀ o : OpId, (t.opPlan o).active = (s.opPlan o).active) ∧ t.plan.carriers = s.plan.carriers ∧ t.rl = s.rl ∧
      t.tb = s.tb ∧ t.place = s.place ∧ t.mgmt = s.mgmt ∧ t.mode.mode = s.mode.mode ∧ t.comb.gates = s.comb.gates

/-- The uplink guard and auto-quiet. At WINDOW_END each overloaded sector, one whose saturation count exceeds SatLimit, names of
its members with a guard step below 8 the one with the highest peak, of equals the lowest number; the guard step of every named
remote rises by one, and at 8 GUARD_FLOOR is raised (R92, R94); the recover run of a member of an overloaded sector is 0 and
every other goes up by one, and at RecoverWindows owes GUARD_STEP_DOWN (R93). With auto-quiet enabled and no MODE SET completing
there, a window in which no sector in service had a load above QuietLevel lengthens the quiet run in NORMAL, which at
QuietWindows owes AUTO_QUIET_ENTRY, and in QUIET a load of WakeLevel or more records a change to NORMAL (R141, R142).
GUARD_STEP_DOWN and AUTO_QUIET_ENTRY: a recover run at RecoverWindows lowers the guard step by one, not below 0, and starts
again; a quiet run at QuietWindows records a change to QUIET and starts again (R93, R141). -/
def Obligations.RunsComplete : Prop :=
  (∀ (s : State) (b : Boundary), s.Next .windowEnd → s.boundary = some b →
    let member : RemoteId → SectorId → Prop := fun r x => b.banks[sectorOp x].zones[r].cur = some (sectorIx x)
    let loud : SectorId → Prop := fun x => s.meas.satLimit < s.comb.sat[x]
    let named : RemoteId → Prop := fun r => ∃ x, loud x ∧ member r x ∧ s.comb.guard[r] < 8 ∧
      ∀ q : RemoteId, member q x → s.comb.guard[q] < 8 →
        s.meas.peak[q] < s.meas.peak[r] ∨ (s.meas.peak[q] = s.meas.peak[r] ∧ r ≤ q)
    ∃ t : State, exec .windowEnd s = .next t ∧
      (∀ r : RemoteId, (named r → t.comb.guard[r] = s.comb.guard[r] + 1 ∧
          (s.comb.guard[r] = 7 → t.Recorded ⟨.guardFloor, .remote r⟩)) ∧
        (¬ named r → t.comb.guard[r] = s.comb.guard[r])) ∧
      (∀ r : RemoteId, ((∃ x, loud x ∧ member r x) → t.comb.recover[r] = 0) ∧
        ((∀ x, loud x → ¬ member r x) → t.comb.recover[r] = min (s.comb.recover[r] + 1) 255) ∧
        (.guardStepDown r ∈ t.due ↔ .guardStepDown r ∈ s.due ∨
          ((∀ x, loud x → ¬ member r x) ∧ s.meas.recoverWindows ≤ min (s.comb.recover[r] + 1) 255))) ∧
      (s.mode.aqEnable = false ∨ b.modeSet = true →
        t.mode = s.mode ∧ (.autoQuietEntry ∈ t.due ↔ .autoQuietEntry ∈ s.due)) ∧
      (s.mode.aqEnable = true → b.modeSet = false →
        let quiet : Prop := ∀ x : SectorId, s.InService b.mode b.banks[sectorOp x] (sectorIx x) →
          t.meas.snap.load[x] ≤ s.mode.quietLevel
        (s.mode.mode = .normal →
          (quiet → t.mode = { s.mode with quietRun := min (s.mode.quietRun + 1) 255 }) ∧
          (¬ quiet → t.mode = { s.mode with quietRun := 0 }) ∧
          (.autoQuietEntry ∈ t.due ↔ .autoQuietEntry ∈ s.due ∨ s.mode.quietWindows ≤ t.mode.quietRun)) ∧
        (s.mode.mode = .quiet →
          ((∃ x : SectorId, s.mode.wakeLevel ≤ t.meas.snap.load[x]) → t.mode = { s.mode with auto := some .normal }) ∧
          ((∀ x : SectorId, t.meas.snap.load[x] < s.mode.wakeLevel) → t.mode = s.mode) ∧
          (.autoQuietEntry ∈ t.due ↔ .autoQuietEntry ∈ s.due)))) ∧
  (∀ (s : State) (r : RemoteId), s.Next (.guardStepDown r) → s.meas.recoverWindows ≤ s.comb.recover[r] →
    ∃ t : State, exec (.guardStepDown r) s = .next t ∧
      t.comb = { s.comb with
        guard := s.comb.guard.set r (s.comb.guard[r] - 1), recover := s.comb.recover.set r 0 } ∧
      (s.comb.guard[r] ≠ 8 → t.sup = s.sup) ∧
      t = { s with comb := t.comb, sup := t.sup, due := s.due.erase (.guardStepDown r) }) ∧
  (∀ s : State, s.Next .autoQuietEntry → s.mode.quietWindows ≤ s.mode.quietRun →
    exec .autoQuietEntry s = .next
      ((s.dropDue .autoQuietEntry).withMode fun u => { u with auto := some .quiet, quietRun := 0 }))

/-- The Balancer's evaluation at WINDOW_END, for each operator on the snapshot just formed and the bank that governed the
closing window. In OFF nothing but the hold-offs changes (R115, R117); in QUIET, with the operator link not UP, or with the
staged bank not CLEAN, the evaluation is deferred and counted (R117); otherwise the hot sector is the one in service with the
highest load, of equals the lowest index, and at HotLevel or more (R118); its candidates are the members that are not pinned,
UP, not isolated nor about to be, not impaired, with hold-off 0 and a share of MinShare or more, in order of share and then
number (R119); a target is a home or alternate sector, in that order, that passes the load tests and the trial placement (R120
to R122); the first candidate with a target moves to its first one (R123): in AUTO the move is staged and ARMED by the
Balancer (R124), in ADVISE it is posted as an advice, counted as a change when it is new or differs (R126, R167). That a
hold-off set by an accepted move at this boundary is not counted down is the model's reading, log entry 22. -/
def Obligations.BalancerEvaluates : Prop :=
  (∀ (s : State) (b : Boundary) (o : OpId), s.Next .windowEnd → s.boundary = some b →
    ∃ t : State, exec .windowEnd s = .next t ∧
      let n := t.meas.snap
      let k := s.bal[o]
      let held : RemoteId → Nat := fun r => if (o, r) ∈ b.moved then k.holdOff[r] else k.holdOff[r] - 1
      let load : SectorIx → Nat := fun i => n.load[sectorOf o i]
      let serves : SectorIx → Prop := fun i => s.InService s.mode.mode b.banks[o] i
      let hot : SectorIx → Prop := fun h => serves h ∧ k.hotLevel ≤ load h ∧
        ∀ i, serves i → load i < load h ∨ (load i = load h ∧ h ≤ i)
      let fits : SectorIx → RemoteId → SectorIx → Prop := fun h r j =>
        ((b.banks[o].zones[r].home = some j ∨ j ∈ b.banks[o].zones[r].alts) ∧ j ≠ h) ∧
        (serves j ∧ 2 * n.share[o][r] + load j ≤ load h ∧ load j + n.share[o][r] < k.hotLevel) ∧ s.TrialFits r o j
      let candidate : SectorIx → RemoteId → Prop := fun h r =>
        b.banks[o].zones[r].cur = some h ∧ b.banks[o].zones[r].pinned = false ∧ s.rl[r].state = .up ∧
        ¬ s.Listed r ∧ (∀ p, s.mode.pendingIso = some p → p.remote ≠ r) ∧ s.rl[r].flags[0].present = false ∧
        held r = 0 ∧ k.minShare ≤ n.share[o][r]
      let place : RemoteId → SectorIx → Nat := fun r j =>
        (b.banks[o].zones[r].home.toList ++ b.banks[o].zones[r].alts).idxOf j
      let moves : SectorIx → RemoteId → SectorIx → Prop := fun h r j => hot h ∧ candidate h r ∧ fits h r j ∧
        (∀ q i, candidate h q → fits h q i →
          n.share[o][q] < n.share[o][r] ∨ (n.share[o][q] = n.share[o][r] ∧ r ≤ q)) ∧
        ∀ i, fits h r i → place r j ≤ place r i
      let decided : Prop := k.mode ≠ .off ∧ s.mode.mode = .normal ∧ s.ol[o].state = .up ∧ b.staged[o] = .clean
      let answers : BalancerOutcome → Prop := fun x => t.opPlan o = s.opPlan o ∧
        t.bal[o] = { k with outcome := x, outcomeAt := n.closing, holdOff := t.bal[o].holdOff } ∧
        ∀ r : RemoteId, t.bal[o].holdOff[r] = held r
      let defers : BalancerOutcome → Prop := fun x => t.opPlan o = s.opPlan o ∧
        t.bal[o] = { k with
          outcome := x, outcomeAt := n.closing, deferrals := min (k.deferrals + 1) 65535
          holdOff := t.bal[o].holdOff } ∧
        ∀ r : RemoteId, t.bal[o].holdOff[r] = held r
      (k.mode = .off → t.opPlan o = s.opPlan o ∧ t.bal[o] = { k with holdOff := t.bal[o].holdOff } ∧
        ∀ r : RemoteId, t.bal[o].holdOff[r] = held r) ∧
      (k.mode ≠ .off → s.mode.mode = .quiet → defers .deferredQuiet) ∧
      (k.mode ≠ .off → s.mode.mode = .normal → s.ol[o].state ≠ .up → defers .deferredLink) ∧
      (k.mode ≠ .off → s.mode.mode = .normal → s.ol[o].state = .up → b.staged[o] ≠ .clean → defers .deferredPlan) ∧
      (decided → (∀ h, ¬ hot h) → answers .noHot) ∧
      (decided → (∃ h, hot h) → (∀ h r j, ¬ moves h r j) → answers .noMove) ∧
      (∀ h r j, decided → moves h r j →
        (k.mode = .auto →
          t.opPlan o = { s.opPlan o with
            staged := { (s.opPlan o).staged with
              zones := (s.opPlan o).staged.zones.set r { (s.opPlan o).staged.zones[r] with cur := some j } }
            state := .armed .balancer false } ∧
          t.bal[o] = { k with
            outcome := .moved, outcomeAt := n.closing, moves := min (k.moves + 1) 65535
            lastMove := some ⟨n.closing, r, h, j, n.share[o][r], .balancer⟩, holdOff := t.bal[o].holdOff } ∧
          t.bal[o].holdOff[r] = k.holdWindows ∧ ∀ q : RemoteId, q ≠ r → t.bal[o].holdOff[q] = held q) ∧
        (k.mode = .advise → t.opPlan o = s.opPlan o ∧
          t.bal[o] = { k with
            outcome := .advised, outcomeAt := n.closing
            advice := some ⟨n.closing, r, h, j, n.share[o][r], load h, load j⟩, holdOff := t.bal[o].holdOff } ∧
          ∀ q : RemoteId, t.bal[o].holdOff[q] = held q))) ∧
  ∀ (s : State) (o : OpId) (h : SectorIx) (r : RemoteId) (j : SectorIx),
    ((∃ a, s.bal[o].advice = some a ∧ a.remote = r ∧ a.fromSector = h ∧ a.toSector = j) →
      (s.advise o h r j).sup = s.sup) ∧
    ((∀ a, s.bal[o].advice = some a → ¬ (a.remote = r ∧ a.fromSector = h ∧ a.toSector = j)) →
      (s.advise o h r j).sup = { s.sup with seq := s.sup.seq + 1, pending := s.sup.pending || s.sup.enable })

/-! ## Plans -/

/-- SWITCHOVER: the staged bank becomes the active bank, the state CLEAN; the carrier table and the other operators' plans
stay; every placement record is derived again (R57); a PLAN COMMIT of either channel that armed it completes DONE, and after a
BALANCE ACCEPT of either channel the Balancer takes the move (R41, R130). That the last move carries the closing count and the
share of the accepted advice is the model's reading, log entry 21. -/
def Obligations.Switchover : Prop :=
  ∀ (s : State) (o : OpId) (origin : Origin) (e : Bool), s.Next (.switchover o) → (s.opPlan o).state = .armed origin e →
    ∃ t : State, exec (.switchover o) s = .next t ∧
      t.opPlan o = ⟨(s.opPlan o).staged, (s.opPlan o).staged, .clean⟩ ∧ (∀ p : OpId, p ≠ o → t.opPlan p = s.opPlan p) ∧
      t.plan.carriers = s.plan.carriers ∧ t.rl = s.rl ∧ t.comb = s.comb ∧ t.meas = s.meas ∧ t.tb = s.tb ∧
      (∀ r : RemoteId, t.record r = t.derive r) ∧
      (origin = .balancer → t.bal = s.bal ∧ t.mgmt = s.mgmt) ∧
      ∀ (ch : Channel) (tag : Byte), origin = ch.origin → s.trunk.state = .up →
        (s.mgmt.busy ch = some ⟨tag, .planCommit o⟩ → t.bal = s.bal ∧
          t.mgmt = { (s.setBusy ch none).mgmt with due := s.mgmt.due ++ [reply ch tag 0x35 .done false []] }) ∧
        ∀ a, s.mgmt.busy ch = some ⟨tag, .balanceAccept o a⟩ →
          t.bal[o].holdOff[a.remote] = s.bal[o].holdWindows ∧ t.bal[o].moves = min (s.bal[o].moves + 1) 65535 ∧
          t.bal[o].lastMove = some ⟨a.closing, a.remote, a.fromSector, a.toSector, a.share, ch.origin⟩ ∧
          (∀ p : OpId, p ≠ o → t.bal[p] = s.bal[p]) ∧
          t.mgmt = { (s.setBusy ch none).mgmt with due := s.mgmt.due ++ [reply ch tag 0x38 .done false a.bytes] }

/-- HUB_MODE_DECISION: the mode of a MODE SET wins, completes it and withdraws an automatic change; otherwise the automatic
change is taken; when the mode stays as it was, no record is recomputed, and when it changes every record is derived again
(R57, R136, R138, R139). -/
def Obligations.HubModeDecision : Prop :=
  (∀ (s : State) (m : HubMode) (tag : Byte), s.Next .hubModeDecision → s.mode.requested = some m →
    s.mgmt.control = some ⟨tag, .modeSet⟩ → s.trunk.state = .up →
    ∃ t : State, exec .hubModeDecision s = .next t ∧
      t.mode = { s.mode with mode := m, requested := none, auto := none, quietRun := 0 } ∧
      t.mgmt = { s.mgmt with control := none, due := s.mgmt.due ++ [reply .control tag 0x17 .done false []] } ∧
      (m = s.mode.mode → t.place = s.place ∧ t.sup = s.sup) ∧
      (m ≠ s.mode.mode → ∀ r : RemoteId, t.record r = t.derive r) ∧ t.plan = s.plan ∧ t.rl = s.rl ∧ t.comb = s.comb ∧
      t.bal = s.bal ∧ t.meas = s.meas) ∧
  (∀ (s : State) (m : HubMode), s.Next .hubModeDecision → s.mode.requested = none → s.mode.auto = some m →
    ∃ t : State, exec .hubModeDecision s = .next t ∧ t.mode = { s.mode with mode := m, auto := none } ∧
      t.mgmt = s.mgmt ∧ (m = s.mode.mode → t.place = s.place ∧ t.sup = s.sup) ∧
      (m ≠ s.mode.mode → ∀ r : RemoteId, t.record r = t.derive r) ∧ t.plan = s.plan ∧ t.rl = s.rl ∧
      t.comb = s.comb ∧ t.bal = s.bal ∧ t.meas = s.meas)

/-- Isolation: a pending isolation that is forced, or whose re-check reports no sector, joins the end of the list and the link is
restarted into ISOLATED; one whose re-check reports a sector completes WOULD_DARKEN with the sector's code and changes nothing
else; the re-check is the darkening test with every link that enters UP at the boundary taken as UP; a return timer that has
run out, or RESTORE, takes the entry off and restarts the link to SEEK; RESTORE of a remote not listed finds
NOTHING_PENDING (R13, R143, R146, R148, R149). -/
def Obligations.IsolationSteps : Prop :=
  (∀ (s : State) (p : PendingIso) (tag : Byte) (flag : Bool), s.Next .pendingIsolationApply → s.mode.pendingIso = some p →
    p.force = true ∨ s.recheck p.remote = none → s.mgmt.control = some ⟨tag, .isolate flag⟩ → s.trunk.state = .up →
    ∃ t : State, exec .pendingIsolationApply s = .next t ∧
      t.mode = { s.mode with
        pendingIso := none
        isolated := s.mode.isolated ++ [⟨p.remote, s.tb.count, p.delay,
          if p.delay = 0 then none else some (100 * p.delay), p.force⟩] } ∧
      t.mgmt = { s.mgmt with control := none, due := s.mgmt.due ++ [reply .control tag 0x18 .done flag []] } ∧
      t.rl[p.remote].state = .isolated ∧ t.rl[p.remote].format = none ∧ t.rl[p.remote].capability = none ∧
      t.comb.gates[p.remote] = Vector.replicate 24 ⟨false, 0⟩ ∧ (s.rl[p.remote].state = .up → t.LeftUp p.remote) ∧
      s.SameOtherRemotes t p.remote ∧ t.plan = s.plan ∧ t.bal = s.bal) ∧
  (∀ (s : State) (p : PendingIso) (tag : Byte) (flag : Bool) (x : SectorId), s.Next .pendingIsolationApply →
    s.mode.pendingIso = some p → p.force = false → s.recheck p.remote = some x →
    s.mgmt.control = some ⟨tag, .isolate flag⟩ → s.trunk.state = .up →
    exec .pendingIsolationApply s = .next ((((s.dropDue .pendingIsolationApply).withMode fun u =>
      { u with pendingIso := none }).withMgmt fun g => { g with control := none }).answering
        (reply .control tag 0x18 .wouldDarken flag [byte (0x40 + x.val)]))) ∧
  (∀ (s : State) (r : RemoteId) (x : SectorId),
    let u := allRemotes.foldl (fun u q => if .linkEntersUp q ∈ s.due then u.linkEntersUp q else u) s
    (s.recheck r = some x ↔ u.WouldDarken r x ∧ ∀ y < x, ¬ u.WouldDarken r y) ∧
      ((∀ q : RemoteId, .linkEntersUp q ∉ s.due) → u = s)) ∧
  (∀ (s : State) (r : RemoteId) (e : IsoEntry), s.Next (.isolationTimerExpiry r) → e ∈ s.mode.isolated → e.remote = r →
    e.timer = some 0 → ∃ t : State, exec (.isolationTimerExpiry r) s = .next t ∧ ¬ t.Listed r ∧
      (∀ q, q ≠ r → (t.Listed q ↔ s.Listed q)) ∧
      ((s.dropDue (.isolationTimerExpiry r)).unlist r).Restarted t r .seek) ∧
  (∀ (s : State) (r : RemoteId) (tag : Byte), s.Ready .control →
    (s.Listed r → ∃ t : State, exec (.restore 0x01 tag [byte r.val]) s =
      .next (t.answering (reply .control tag 0x19 .done false [])) ∧ ¬ t.Listed r ∧ (s.unlist r).Restarted t r .seek) ∧
    (¬ s.Listed r → exec (.restore 0x01 tag [byte r.val]) s =
      .next (s.answering (reply .control tag 0x19 .nothingPending false []))))

/-! ## Resets and alerts -/

/-- WARM_RESET_APPLIED. Links, operator links and the trunk keep their records and restart their counters (R28); an armed or
edited staged bank is a copy of the active bank again, and the plans, settings and isolations are kept (R51, R154); the uplink
guard and the overload indications are off (R97); the window restarts with its settings kept (R111), and the Balancer's settings
are kept while its hold-offs, advice, last move, outcome and counters are cleared (R135); the alarm list is emptied and filled
again, in catalogue order, with the conditions that hold, and the overflow flag is set only when more than 64 do (R175); WARM
completes DONE, and the command in progress on the service channel ABORTED, in either order (R51, R193, R195). That the counts
and peaks of the new window open with those held for the link frame that follows is the model's reading, log entry 7; which
completion comes first is a free value, log entry 13, and this statement holds for both; the count beside the cleared outcome,
log entry 21, is left out. -/
def Obligations.WarmReset : Prop :=
  ∀ (s : State) (tag : Byte), s.Next .warmResetApplied → s.mgmt.control = some ⟨tag, .warm⟩ → s.trunk.state = .up →
    ∃ t : State, exec .warmResetApplied s = .next t ∧
      t = { s with
        rl := t.rl, ol := t.ol, trunk := t.trunk, plan := t.plan, comb := t.comb, meas := t.meas, bal := t.bal
        mode := { s.mode with auto := none, quietRun := 0 }, sup := t.sup, mgmt := t.mgmt
        due := s.due.erase .warmResetApplied } ∧
      (∀ r : RemoteId, t.rl[r] = { s.rl[r] with
        framesRx := 0, alignErr := 0, missing := 0, negFail := 0, lostEntries := 0, downLatch := false }) ∧
      (∀ l : TermLinkId, t.term l = { s.term l with framesRx := 0, alignErr := 0, lostEntries := 0 }) ∧
      t.plan.carriers = s.plan.carriers ∧
      (∀ o : OpId, t.opPlan o = ⟨(s.opPlan o).active, (s.opPlan o).active, .clean⟩ ∧
        t.bal[o] = { s.bal[o] with
          holdOff := Vector.replicate 24 0, advice := none, lastMove := none, outcome := .none, deferrals := 0, moves := 0
          outcomeAt := t.bal[o].outcomeAt }) ∧
      t.comb = { s.comb with
        guard := Vector.replicate 24 0, recover := Vector.replicate 24 0, sat := Vector.replicate 32 0
        overload := Vector.replicate 32 false } ∧
      t.meas = { s.meas with
        activity := s.meas.heldActivity, peak := s.meas.heldPeak, position := 0, wForce := s.meas.wSet, snap := .empty
        heldActivity := Vector.replicate 24 (Vector.replicate 24 0), heldPeak := Vector.replicate 24 0 } ∧
      t.sup.enable = s.sup.enable ∧ t.sup.masks = s.sup.masks ∧
      t.sup.alarms = ((catalogue.filter t.holds).take 64).map (fun k => ⟨k, true, s.tb.count, s.tb.count, 1⟩) ∧
      t.sup.overflow = decide (64 < (catalogue.filter t.holds).length) ∧
      t.mgmt = { s.mgmt with
        control := none, service := t.mgmt.service, scope := none, barred := false, discards := 0, dropped := 0
        due := t.mgmt.due } ∧
      let done : Response := reply .control tag 0x1E .done false []
      let both : Response → Prop := fun aborted => t.mgmt.service = none ∧
        (t.mgmt.due = s.mgmt.due ++ [done, aborted] ∨ t.mgmt.due = s.mgmt.due ++ [aborted, done])
      (s.mgmt.service = none → t.mgmt.service = none ∧ t.mgmt.due = s.mgmt.due ++ [done]) ∧
      (∀ (u : Byte) (o : OpId), s.mgmt.service = some ⟨u, .planCommit o⟩ → both (reply .service u 0x35 .aborted false [])) ∧
      ∀ (u : Byte) (o : OpId) (a : Advice), s.mgmt.service = some ⟨u, .balanceAccept o a⟩ →
        both (reply .service u 0x38 .aborted false a.bytes)

/-- The resets and the pin. While the reset pin is asserted the hub transmits on no link (R195); COLD_RESET_APPLIED and the
release of the pin leave every block at its cold reset values (R194, R195); COLD answers DONE when it is taken and keeps the
control channel BUSY (R194). The model's choice, log entry 8: while the pin is asserted no command but the release changes
the hub, the release acts whether or not the pin was asserted, and the commands that wait outside the hub outlive the pin
and both resets. -/
def Obligations.ColdReset : Prop :=
  (∀ s : State, s.resetPin = false → ∃ t : State, exec .resetPinAssert s = .next t ∧ t.resetPin = true ∧
    t = { s with resetPin := true, out := t.out } ∧ (∀ r : RemoteId, t.out.remote[r] = none) ∧
    (∀ o : OpId, t.out.op[o] = none) ∧ t.out.trunk = none ∧ (∀ c, c ≠ .resetPinRelease → exec c t = .next t) ∧
    ∀ u : State, exec .resetPinRelease u = .next { State.reset with pending := u.pending }) ∧
  (∀ s : State, s.Next .coldResetApplied →
    exec .coldResetApplied s = .next { State.reset with pending := s.pending }) ∧
  ∀ (s : State) (tag : Byte), s.Ready .control →
    exec (.cold 0x01 tag []) s = .next ((s.answering ⟨0x01, tag, 0x1F, .done, false, [], true⟩).withMgmt fun g =>
      { g with control := some ⟨tag, .cold⟩ })

/-- ALERT_PLACEMENT: with the pending flag set and alerts enabled on an UP trunk whose ALERT has not begun, an ALERT with the
values that stand is placed and the flag cleared: the change sequence, the number of ACTIVE entries of each severity and of
CLEARED entries, the overflow flag, which operators have an advice, and the hub mode; otherwise the flag and the slot stay
(R169, R170). That it may be taken ahead of the other owed steps, and that its mode bit is then the mode that the decision
still owed will make, is the model's choice, log entry 29. -/
def Obligations.AlertPlacement : Prop :=
  ∀ s : State, s.resetPin = false → .alertPlacement ∈ s.due →
    (s.sup.pending = true → s.sup.enable = true → s.trunk.state = .up → s.alertBegun = false →
      ∃ a : Alert, exec .alertPlacement s = .next (((s.dropDue .alertPlacement).withMgmt fun g =>
          { g with alert := some a }).withSup fun p => { p with pending := false }) ∧
        a.seq = s.sup.seq ∧ a.overflow = s.sup.overflow ∧
        a.critical = (s.sup.alarms.filter fun e => e.active && e.key.kind.severity = .critical).length ∧
        a.major = (s.sup.alarms.filter fun e => e.active && e.key.kind.severity = .major).length ∧
        a.minor = (s.sup.alarms.filter fun e => e.active && e.key.kind.severity = .minor).length ∧
        a.cleared = (s.sup.alarms.filter fun e => !e.active).length ∧
        a.critical + a.major + a.minor + a.cleared = s.sup.alarms.length ∧
        (∀ o : OpId, a.advice[o] = s.bal[o].advice.isSome) ∧
        (.hubModeDecision ∉ s.due → a.quiet = decide (s.mode.mode = .quiet)) ∧
        (.hubModeDecision ∈ s.due → a.quiet = match s.mode.requested, s.mode.auto with
          | some m, _ => decide (m = .quiet)
          | none, some m => decide (m = .quiet)
          | none, none => decide (s.mode.mode = .quiet))) ∧
    (s.sup.pending = false ∨ s.sup.enable = false ∨ s.trunk.state ≠ .up ∨ s.alertBegun = true →
      exec .alertPlacement s = .next (s.dropDue .alertPlacement))

/-! ## Requests -/

/-- ACCESS SET, RELEASE, ATTACH and DETACH: what each does to the access codes, the scope and the barring (R187 to R190). -/
def Obligations.AccessAndScope : Prop :=
  ∀ (s : State) (tag : Byte) (o : OpId) (code : BitVec 32),
    (s.Ready .control → exec (.accessSet 0x01 tag (byte o.val :: u32 code.toNat)) s =
      .next ((s.withMgmt fun g => { g with
        codes := g.codes.set o code
        scope := if g.scope = some o ∧ g.codes[o] ≠ code then none else g.scope }).answering
          (reply .control tag 0x10 .done false []))) ∧
    (s.Ready .control → s.mgmt.barred = true → exec (.release 0x01 tag []) s =
      .next (((s.withMgmt fun g => { g with barred := false }).clear ⟨.accessBarred, .device⟩).answering
        (reply .control tag 0x11 .done false []))) ∧
    (s.Ready .control → s.mgmt.barred = false → exec (.release 0x01 tag []) s =
      .next (s.answering (reply .control tag 0x11 .nothingPending false []))) ∧
    (s.Ready .service → s.mgmt.codes[o] ≠ 0 → s.mgmt.codes[o] = code →
      exec (.attach 0x02 tag (byte o.val :: u32 code.toNat)) s =
        .next ((s.withMgmt fun g => { g with scope := some o }).answering (reply .service tag 0x70 .done false []))) ∧
    (s.Ready .service → s.mgmt.codes[o] ≠ 0 → s.mgmt.codes[o] ≠ code →
      exec (.attach 0x02 tag (byte o.val :: u32 code.toNat)) s =
        .next (((s.withMgmt fun g => { g with scope := none, barred := true }).raise ⟨.accessBarred, .device⟩).answering
          (reply .service tag 0x70 .barred false []))) ∧
    (s.Ready .service → s.mgmt.codes[o] = 0 → exec (.attach 0x02 tag (byte o.val :: u32 code.toNat)) s =
      .next (s.answering (reply .service tag 0x70 .outOfScope false []))) ∧
    (s.Ready .service → s.mgmt.scope = some o → exec (.detach 0x02 tag []) s =
      .next ((s.withMgmt fun g => { g with scope := none }).answering (reply .service tag 0x71 .done false [])))

/-- LINK RESTART: refused for an ISOLATED link, nothing for an OFF link, and in any other state the link restarts to SEEK
without a negotiation failure; MISMATCH is left and a LOST hold ended (R21). -/
def Obligations.LinkRestart : Prop :=
  ∀ (s : State) (tag : Byte) (r : RemoteId), s.Ready .control →
    (s.rl[r].state = .isolated → exec (.linkRestart 0x01 tag [byte r.val]) s =
      .next (s.answering (reply .control tag 0x13 .isolated false []))) ∧
    (s.rl[r].state = .off → exec (.linkRestart 0x01 tag [byte r.val]) s =
      .next (s.answering (reply .control tag 0x13 .done false []))) ∧
    (s.rl[r].state ≠ .isolated → s.rl[r].state ≠ .off →
      ∃ t : State, exec (.linkRestart 0x01 tag [byte r.val]) s =
          .next (t.answering (reply .control tag 0x13 .done false [])) ∧
        s.Restarted t r .seek ∧ t.rl[r].negFail = s.rl[r].negFail ∧ t.holds ⟨.linkMismatch, .remote r⟩ = false)

/-- LINK SET: m and Pmax are clamped and stored; a link that is neither enabled from OFF, nor disabled, nor left without its
format keeps its state; enabling an OFF link restarts it to SEEK; disabling a link sends it to OFF, off the isolation list
and without LINK_LOST; the offered set leaves a link without its format in ORDERED or CONFIRMED when the chosen format, and in
UP when the negotiated format, is not in it, and in MISMATCH when it differs from the present set (R18 to R20). -/
def Obligations.LinkSet : Prop :=
  (∀ (s : State) (tag : Byte) (r : RemoteId) (on : Bool) (f : FormatSet) (m pmax : Nat), s.Ready .control →
    f ≠ ⟨false, false, false⟩ → m < 65536 → pmax < 65536 →
    ∃ t : State, exec (.linkSet 0x01 tag (byte r.val :: flagByte on :: formatSetByte f :: (u16 m ++ u16 pmax))) s =
        .next (t.answering (reply .control tag 0x12 .done (4096 < m || pmax < 1 || 4000 < pmax) [])) ∧
      t.rl[r].enable = on ∧ t.rl[r].offered = f ∧ t.rl[r].m = min m 4096 ∧ t.rl[r].pmax = max 1 (min pmax 4000) ∧
      t.rl[r].mEff = s.rl[r].mEff ∧ t.rl[r].pmaxEff = s.rl[r].pmaxEff ∧ t.rl[r].negFail = s.rl[r].negFail ∧
      s.SameOtherRemotes t r ∧ t.plan = s.plan ∧ t.bal = s.bal ∧
      ((on = true ∧ s.rl[r].state ≠ .off ∧ offeredRestarts s.rl[r] f = false) ∨ (on = false ∧ s.rl[r].state = .off) →
        t = s.modRl r fun l => { l with enable := on, offered := f, m := min m 4096, pmax := max 1 (min pmax 4000) }) ∧
      (on = true → s.rl[r].state = .off ∨ offeredRestarts s.rl[r] f = true →
        t.rl[r].state = .seek ∧ t.rl[r].format = none ∧ t.rl[r].capability = none ∧
        t.comb.gates[r] = Vector.replicate 24 ⟨false, 0⟩) ∧
      (on = false → s.rl[r].state ≠ .off →
        t.rl[r].state = .off ∧ t.rl[r].format = none ∧ t.rl[r].chosen = none ∧ t.rl[r].capability = none ∧
        ¬ t.Listed r ∧ t.holds ⟨.linkLost, .remote r⟩ = false ∧ t.comb.gates[r] = Vector.replicate 24 ⟨false, 0⟩)) ∧
  ∀ (l : RemoteLink) (f : FormatSet), offeredRestarts l f = true ↔
    (l.state = .negotiate ∧ l.phase ≠ .awaitCapability ∧ ∃ c, l.chosen = some c ∧ f.has c = false) ∨
    (l.state = .up ∧ ∃ c, l.format = some c ∧ f.has c = false) ∨ (l.state = .mismatch ∧ f ≠ l.offered)

/-- WINDOW SET, QUIET SET and BALANCE SET store their settings, clamped, and change nothing else but the quiet run, a pending
automatic change when auto-quiet is turned off, and the advice of an operator whose mode changes (R100, R113, R114,
R140). -/
def Obligations.SettingsStored : Prop :=
  ∀ (s : State) (tag : Byte), s.Ready .control →
    (∀ (w : Byte) (limit : Nat) (n : Byte), limit < 65536 → exec (.windowSet 0x01 tag (w :: (u16 limit ++ [n]))) s =
      .next ((s.withMeas fun m => { m with
        wSet := max 1 w.toNat, satLimit := limit, recoverWindows := max 1 n.toNat }).answering
          (reply .control tag 0x15 .done (w = 0 || n = 0) []))) ∧
    (∀ (on : Bool) (level : Nat) (n : Byte) (wake : Nat), level < 65536 → wake < 65536 →
      exec (.quietSet 0x01 tag (flagByte on :: (u16 level ++ n :: u16 wake))) s =
        .next ((s.withMode fun u => { u with
          aqEnable := on, quietLevel := min level 4095, quietWindows := max 1 n.toNat, wakeLevel := min wake 4095
          quietRun := 0, auto := if on then u.auto else none }).answering
            (reply .control tag 0x16 .done (4095 < level || n = 0 || 4095 < wake) []))) ∧
    (∀ (o : OpId) (b : BalancerMode) (hot share : Nat) (n : Byte), hot < 65536 → share < 65536 →
      exec (.balanceSet 0x01 tag (byte o.val :: b.code :: (u16 hot ++ u16 share ++ [n]))) s =
        .next ((s.modBal o fun k => { k with
          mode := b, hotLevel := min hot 4095, minShare := min share 1024, holdWindows := max 1 (min n.toNat 63)
          advice := if b = k.mode then k.advice else none }).answering
            (reply .control tag 0x37 .done (4095 < hot || 1024 < share || n = 0 || 63 < n.toNat) [])))

/-- MODE SET, ISOLATE and WARM make the control channel BUSY and reserve their place; ISOLATE of a listed remote renews its entry
at once; of an OFF link it is refused WRONG_MODE, with four entries LIST_FULL, and without force when some sector would be
dark WOULD_DARKEN with the first such sector's code (R62, R138, R144, R145, R182, R193). That a refused ISOLATE answers with
the clamped flag is the model's reading, log entry 18. -/
def Obligations.TimedCommands : Prop :=
  (∀ (s : State) (tag : Byte), s.Ready .control →
    (∀ m : HubMode, exec (.modeSet 0x01 tag [m.code]) s =
      .next ((s.withMode fun u => { u with requested := some m }).withMgmt fun g =>
        { g with control := some ⟨tag, .modeSet⟩ })) ∧
    exec (.warm 0x01 tag []) s = .next (s.withMgmt fun g => { g with control := some ⟨tag, .warm⟩ }) ∧
    ∀ (r : RemoteId) (d : Nat) (force : Bool), d < 65536 →
      (¬ s.Listed r → s.rl[r].state ≠ .off → s.mode.isolated.length < 4 → (force = true ∨ s.darkening r = none) →
        exec (.isolate 0x01 tag (byte r.val :: (u16 d ++ [flagByte force]))) s =
          .next ((s.withMode fun u => { u with pendingIso := some ⟨r, min d 3600, force⟩ }).withMgmt fun g =>
            { g with control := some ⟨tag, .isolate (3600 < d)⟩ })) ∧
      (s.Listed r → exec (.isolate 0x01 tag (byte r.val :: (u16 d ++ [flagByte force]))) s =
        .next ((s.withMode fun u => { u with isolated := u.isolated.map fun e =>
            if e.remote = r then
              { e with
                delay := min d 3600, forced := force
                timer := if d = 0 then none else some (100 * min d 3600) }
            else e }).answering (reply .control tag 0x18 .done (3600 < d) []))) ∧
      (¬ s.Listed r → s.rl[r].state = .off → exec (.isolate 0x01 tag (byte r.val :: (u16 d ++ [flagByte force]))) s =
        .next (s.answering (reply .control tag 0x18 .wrongMode (3600 < d) []))) ∧
      (¬ s.Listed r → s.rl[r].state ≠ .off → 4 ≤ s.mode.isolated.length →
        exec (.isolate 0x01 tag (byte r.val :: (u16 d ++ [flagByte force]))) s =
          .next (s.answering (reply .control tag 0x18 .listFull (3600 < d) []))) ∧
      (¬ s.Listed r → s.rl[r].state ≠ .off → s.mode.isolated.length < 4 → ∀ x, s.darkening r = some x →
        exec (.isolate 0x01 tag (byte r.val :: (u16 d ++ [0x00]))) s =
          .next (s.answering (reply .control tag 0x18 .wouldDarken (3600 < d) [byte (0x40 + x.val)])))) ∧
  ∀ (s : State) (r : RemoteId) (x : SectorId),
    s.darkening r = some x ↔ s.WouldDarken r x ∧ ∀ y < x, ¬ s.WouldDarken r y

/-- ALERT SET stores the enable and the masks, clears the pending flag and withdraws an ALERT that has not begun when it turns
alerts off, and changes no entry; ALARM ACK removes a CLEARED entry and clears the overflow flag, and leaves an ACTIVE one
(R162, R165, R171, R200). The record of the last ALARM ACK with which a raise can race is the model's own, log entry 34. -/
def Obligations.AlarmCommands : Prop :=
  ∀ (s : State) (tag : Byte), s.Ready .control →
    (∀ (on : Bool) (masks : BitVec 16), masks.getLsbD 0 = false →
      exec (.alertSet 0x01 tag (flagByte on :: u16 masks.toNat)) s =
        .next (((s.withSup fun p => { p with
            enable := on, masks := masks, pending := p.pending && !(p.enable && !on) }).withMgmt fun g =>
          { g with alert := if s.sup.enable && !on && !s.alertBegun then none else g.alert }).answering
            (reply .control tag 0x1A .done false (flagByte on :: u16 masks.toNat)))) ∧
    ∀ key ∈ catalogue, ∀ e, s.sup.entry key = some e →
      (e.active = true → ∃ t : State, exec (.alarmAck 0x01 tag [0x01, byte key.kind.code, key.obj.code]) s =
          .next (t.answering (reply .control tag 0x1B .done false [flagByte s.sup.overflow, 0x01, 0x02])) ∧
        t = { s with sup := { s.sup with race := t.sup.race } }) ∧
      (e.active = false → ∃ t : State, exec (.alarmAck 0x01 tag [0x01, byte key.kind.code, key.obj.code]) s =
          .next (t.answering (reply .control tag 0x1B .done false [0x00, 0x01, 0x01])) ∧
        t.sup.alarms = s.sup.alarms.eraseP (fun x => x.key = key) ∧ t.sup.overflow = false ∧
        t = { s with sup := t.sup })

/-- CARRIER SET and CARRIER CLEAR on the control channel. The numeric values are clamped; a carrier that no bank lists, or
whose identity is repeated unchanged, is stored, and the values in effect stay until the boundary; a slot held by another
carrier of the operator, and a listed carrier whose operator, slot, width class, priority or event-only flag would change, are
refused IN_USE. A listed carrier cannot be cleared; a DEFINED one that is not listed becomes UNUSED, and clearing an UNUSED one
is DONE and changes nothing (R30 to R32). That a refusal answers with the clamped flag is the model's reading, log entry 18. -/
def Obligations.CarrierTable : Prop :=
  (∀ (s : State) (tag : Byte) (c : CarrierId), s.Ready .control →
    (∀ (o : OpId) (slot : SlotIx) (k prio : Nat) (ev : Bool) (v : Levels), k < 256 → prio < 256 → v.mdl < 65536 →
      v.power < 65536 → v.activity < 65536 → v.gate < 65536 → v.hold < 65536 →
      let i : Instr := .carrierSet 0x01 tag ([byte c.val, byte o.val, byte slot.val, byte k, byte prio, flagByte ev] ++
        u16 v.mdl ++ u16 v.power ++ u16 v.activity ++ u16 v.gate ++ u16 v.hold)
      let place : CarrierPlace := ⟨o, slot, max 1 (min k 4)⟩
      let stored : Levels :=
        ⟨min v.mdl 4096, max 1 (min v.power 1000), min v.activity 32767, min v.gate 32767, min v.hold 255⟩
      let flag : Bool := k = 0 || 4 < k || 7 < prio || 4096 < v.mdl || v.power = 0 || 1000 < v.power ||
        32767 < v.activity || 32767 < v.gate || 255 < v.hold
      let same : Prop := (s.carrier c).place = some place ∧ (s.carrier c).priority = min prio 7 ∧
        (s.carrier c).eventOnly = ev
      (slotHeld s c o slot = false → isListed s c = false ∨ same →
        ∃ t : State, exec i s = .next (t.answering (reply .control tag 0x30 .done flag [])) ∧
          t.carrier c = ⟨some place, min prio 7, ev, stored, (s.carrier c).eff⟩ ∧
          (∀ d : CarrierId, d ≠ c → t.carrier d = s.carrier d) ∧ t.plan.plans = s.plan.plans ∧
          t = { s with plan := t.plan, comb := t.comb } ∧ t.comb.gates = s.comb.gates ∧
          ((s.carrier c).place = some place → t.comb = s.comb)) ∧
      (slotHeld s c o slot = true →
        exec i s = .next (s.answering (reply .control tag 0x30 .inUse flag []))) ∧
      (slotHeld s c o slot = false → isListed s c = true → ¬ same →
        exec i s = .next (s.answering (reply .control tag 0x30 .inUse flag [])))) ∧
    (isListed s c = true → exec (.carrierClear 0x01 tag [byte c.val]) s =
      .next (s.answering (reply .control tag 0x31 .inUse false []))) ∧
    (isListed s c = false → (s.carrier c).place.isSome →
      ∃ t : State, exec (.carrierClear 0x01 tag [byte c.val]) s =
          .next (t.answering (reply .control tag 0x31 .done false [])) ∧ t.carrier c = .unused ∧
        (∀ d : CarrierId, d ≠ c → t.carrier d = s.carrier d) ∧ t.plan.plans = s.plan.plans ∧
        t = { s with plan := t.plan, comb := t.comb }) ∧
    ((s.carrier c).place = none → exec (.carrierClear 0x01 tag [byte c.val]) s =
      .next (s.answering (reply .control tag 0x31 .done false [])))) ∧
  (∀ (s : State) (c : CarrierId) (o : OpId) (slot : SlotIx), slotHeld s c o slot = true ↔
    ∃ d p, d ≠ c ∧ (s.carrier d).place = some p ∧ p.op = o ∧ p.slot = slot) ∧
  ∀ (s : State) (c : CarrierId), isListed s c = true ↔
    ∃ (o : OpId) (i : SectorIx), s.plan.owner c = some o ∧
      (c ∈ (s.opPlan o).active.sectors[i].carriers ∨ c ∈ (s.opPlan o).staged.sectors[i].carriers)

/-- PLAN SECTOR, PLAN ZONE and PLAN HOME on either channel, the service channel attached to the operator: taken in CLEAN and in
EDITING of the same channel, the staged bank alone is written and the state is EDITING of the channel; an ARMED bank answers
SWITCH_PENDING and one held by the other channel HELD, and nothing changes (R35 to R40). That these two refusals carry no
clamped flag is the model's reading, log entry 18. -/
def Obligations.PlanEdits : Prop :=
  ∀ (s : State) (ch : Channel) (tag : Byte) (o : OpId), s.Ready ch → (ch = .service → s.mgmt.scope = some o) →
    let free : Prop := (s.opPlan o).state = .clean ∨ (s.opPlan o).state = .editing ch
    let armed : Prop := ∃ origin e, (s.opPlan o).state = .armed origin e
    let held : Prop := ∃ holder, holder ≠ ch ∧ (s.opPlan o).state = .editing holder
    let taken : Bank → State := fun b => s.modPlan o fun p => { p with staged := b, state := .editing ch }
    (∀ (i : SectorIx) (h : Nat) (cs : List CarrierId), h < 256 → cs.length ≤ 8 → cs.Nodup →
      (∀ c ∈ cs, s.plan.owner c = some o) →
      let answers : Result → Bool → State → Prop := fun result flag t =>
        exec (.planSector ch.code tag ([byte o.val, byte i.val, byte h, byte cs.length] ++ cs.map fun c => byte c.val)) s =
          .next (t.answering (reply ch tag 0x32 result flag []))
      (free → ∃ b : Bank, answers .done (4 < h) (taken b) ∧ b.zones = (s.opPlan o).staged.zones ∧
        b.sectors[i].h = min h 4 ∧ (∀ c, c ∈ b.sectors[i].carriers ↔ c ∈ cs) ∧
        b.sectors[i].carriers.Pairwise (· < ·) ∧
        ∀ j : SectorIx, j ≠ i → b.sectors[j].h = (s.opPlan o).staged.sectors[j].h ∧
          b.sectors[j].carriers = (s.opPlan o).staged.sectors[j].carriers.filter (fun c => !cs.contains c)) ∧
      (armed → answers .switchPending false s) ∧ (held → answers .held false s)) ∧
    (∀ (r : RemoteId) (home : Option SectorIx) (pin : Bool) (alts : List SectorIx), alts.length ≤ 3 →
      altsFit home alts = true →
      let answers : Result → State → Prop := fun result t =>
        exec (.planZone ch.code tag ([byte o.val, byte r.val, sectorByte home, flagByte pin, byte alts.length] ++
          alts.map fun i => byte i.val)) s = .next (t.answering (reply ch tag 0x33 result false []))
      (free → answers .done (taken { (s.opPlan o).staged with
        zones := (s.opPlan o).staged.zones.set r ⟨home, home, pin, alts⟩ })) ∧
      (armed → answers .switchPending s) ∧ (held → answers .held s)) ∧
    let answers : Result → State → Prop := fun result t =>
      exec (.planHome ch.code tag [byte o.val]) s = .next (t.answering (reply ch tag 0x34 result false []))
    (free → ∃ b : Bank, answers .done (taken b) ∧ b.sectors = (s.opPlan o).staged.sectors ∧
      ∀ r : RemoteId, b.zones[r] = { (s.opPlan o).staged.zones[r] with cur := (s.opPlan o).staged.zones[r].home }) ∧
    (armed → answers .switchPending s) ∧ (held → answers .held s)

/-- PLAN COMMIT, PLAN REVERT and BALANCE ACCEPT on the control channel: a commit that fits arms the bank and keeps the channel
BUSY, one that does not is refused NO_FIT with the remote and its units; a revert copies the active bank back; an advice that
still holds is staged, armed from CLEAN, and a stale one is answered STALE, cleared in both cases. The units of the fit test
are those of the carriers that the staged bank and the others' active banks call for, less the suspended ones (R42, R43, R46,
R47), and an advice holds while its remote is still in its from-sector, not pinned, with the to-sector its home or an
alternate and in service, hold-off 0, the staged bank CLEAN and a trial placement that passes (R61, R128 to R130). -/
def Obligations.CommitRevertAccept : Prop :=
  (∀ (s : State) (tag : Byte) (o : OpId), s.Ready .control →
    ((s.opPlan o).state = .editing .control → s.fitFailure o = none → exec (.planCommit 0x01 tag [byte o.val]) s =
      .next ((s.modPlan o fun p => { p with state := .armed .control true }).withMgmt fun g =>
        { g with control := some ⟨tag, .planCommit o⟩ })) ∧
    (∀ r n, (s.opPlan o).state = .editing .control → s.fitFailure o = some (r, n) →
      192 < n ∧ s.stagedUnits o r = some n ∧ (∀ q : RemoteId, q < r → ∀ k, s.stagedUnits o q = some k → k ≤ 192) ∧
      exec (.planCommit 0x01 tag [byte o.val]) s =
        .next (s.answering (reply .control tag 0x35 .noFit false (byte r.val :: u16 n)))) ∧
    (∀ ch, (s.opPlan o).state = .editing ch → exec (.planRevert 0x01 tag [byte o.val]) s =
      .next ((s.modPlan o fun p => { p with staged := p.active, state := .clean }).answering
        (reply .control tag 0x36 .done false []))) ∧
    (∀ a, s.mode.mode = .normal → s.bal[o].advice = some a →
      (adviceHolds s o a = true → exec (.balanceAccept 0x01 tag [byte o.val]) s =
        .next ((((s.modBal o fun b => { b with advice := none }).modPlan o fun p => { p with
            staged := { p.staged with
              zones := p.staged.zones.set a.remote { p.staged.zones[a.remote] with cur := some a.toSector } }
            state := .armed .control false }).withMgmt fun g => { g with control := some ⟨tag, .balanceAccept o a⟩ }))) ∧
      (adviceHolds s o a = false → exec (.balanceAccept 0x01 tag [byte o.val]) s =
        .next ((s.modBal o fun b => { b with advice := none }).answering
          (reply .control tag 0x38 .stale false a.bytes)))) ∧
    (s.mode.mode = .quiet → exec (.balanceAccept 0x01 tag [byte o.val]) s =
      .next (s.answering (reply .control tag 0x38 .wrongMode false [])))) ∧
  (∀ (s : State) (o : OpId) (r : RemoteId) (n : Nat), s.stagedUnits o r = some n ↔
    ∃ f cs, s.rl[r].state = .up ∧ s.rl[r].format = some f ∧ n = s.unitsAt f cs ∧
      s.Routes (fun c => State.Calls (s.opPlan o).staged r c ∨
        ∃ p : OpId, p ≠ o ∧ State.Calls (s.opPlan p).active r c) cs) ∧
  ∀ (s : State) (o : OpId) (a : Advice),
    let z := (s.opPlan o).active.zones[a.remote]
    adviceHolds s o a = true ↔ z.cur = some a.fromSector ∧ z.pinned = false ∧
      (z.home = some a.toSector ∨ a.toSector ∈ z.alts) ∧
      s.InService s.mode.mode (s.opPlan o).active a.toSector ∧ s.bal[o].holdOff[a.remote] = 0 ∧
      (s.opPlan o).state = .clean ∧ s.TrialFits a.remote o a.toSector

/-- The reads complete DONE with their data and change nothing, but for LINK READ, which clears the down latch it has returned:
on the control channel for the whole hub, and on the service channel for its own operator, filtered (R17, R48, R108, R109,
R132, R163, R164, R186, R192). The layout of the data, where section 10.4 gives none, is the model's reading, log entry 17; the
bare values of a filtered OCCUPANCY (log entry 32), the isolation place counted from 0 (log entry 33) and the carrier number
that opens a record of the CARRIERS part (log entry 35) are its choices. -/
def Obligations.Reads : Prop :=
  (∀ (s : State) (ch : Channel) (tag : Byte) (o : OpId) (r : RemoteId), s.Ready ch →
    (ch = .service → s.mgmt.scope = some o) →
    exec (.status ch.code tag []) s = .next (s.answering (reply ch tag 0x50 .done false (s.statusData ch))) ∧
    exec (.linkRead ch.code tag [byte r.val]) s =
      .next ((s.modRl r fun l => { l with downLatch := false }).answering
        (reply ch tag 0x51 .done false (s.linkReadData ch r))) ∧
    (∀ staged part, exec (.planRead ch.code tag [byte o.val, flagByte staged,
        match part with | .sectors => 0x00 | .zones => 0x01 | .carriers => 0x02]) s =
      .next (s.answering (reply ch tag 0x52 .done false (s.planReadData o staged part)))) ∧
    exec (.measureRead ch.code tag [0x00, byte o.val]) s =
      .next (s.answering (reply ch tag 0x53 .done false (s.measureReadData ch (.sectors o)))) ∧
    exec (.measureRead ch.code tag [0x01, byte o.val]) s =
      .next (s.answering (reply ch tag 0x53 .done false (s.measureReadData ch (.shares o)))) ∧
    exec (.measureRead ch.code tag [0x02, byte r.val]) s =
      .next (s.answering (reply ch tag 0x53 .done false (s.measureReadData ch (.occupancy r)))) ∧
    exec (.balanceRead ch.code tag [byte o.val]) s =
      .next (s.answering (reply ch tag 0x54 .done false (s.balanceReadData o))) ∧
    ∀ start : Nat, start < 64 → exec (.alarmList ch.code tag [byte start]) s =
      .next (s.answering (reply ch tag 0x55 .done false (s.alarmListData ch start)))) ∧
  (∀ (s : State) (tag : Byte), s.Ready .control →
    exec (.measureRead 0x01 tag [0x00, 0xFF]) s =
      .next (s.answering (reply .control tag 0x53 .done false (s.measureReadData .control .allSectors))) ∧
    ∀ x : Byte, exec (.measureRead 0x01 tag [0x03, x]) s =
      .next (s.answering (reply .control tag 0x53 .done false (s.measureReadData .control .peaks)))) ∧
  (∀ (s : State) (tag : Byte), s.Ready .service → s.mgmt.scope = none →
    exec (.status 0x02 tag []) s = .next (s.answering (reply .service tag 0x50 .done false (s.statusData .service)))) ∧
  ∀ (s : State) (ch : Channel) (start : Nat), (s.alarmListData ch start).length ≤ 6 + 12 * 15

/-- ABORT and UNKNOWN_COMMAND: on an IDLE channel ABORT finds NOTHING_PENDING; it cancels an armed commit, which completes
ABORTED before the ABORT's own DONE and returns to EDITING, and withdraws a MODE SET; a WARM in progress goes on. A code that
names no command is answered so (R44, R45, R138, R179, R183). -/
def Obligations.AbortAndUnknown : Prop :=
  (∀ (s : State) (tag : Byte) (ch : Channel), s.Ready ch → exec (.abort ch.code tag []) s =
    .next (s.answering (reply ch tag 0x7F .nothingPending false []))) ∧
  (∀ (s : State) (tag tag₀ : Byte), s.Quiet → 0 < s.mgmt.free → s.trunk.state = .up →
    (∀ o origin, s.mgmt.control = some ⟨tag₀, .planCommit o⟩ → (s.opPlan o).state = .armed origin true →
      exec (.abort 0x01 tag []) s =
        .next (((s.modPlan o fun p => { p with state := .editing .control }).withMgmt fun g =>
          { g with control := none }).answering (reply .control tag₀ 0x35 .aborted false []) |>.answering
            (reply .control tag 0x7F .done false []))) ∧
    (s.mgmt.control = some ⟨tag₀, .modeSet⟩ → exec (.abort 0x01 tag []) s =
      .next (((s.withMode fun u => { u with requested := none }).withMgmt fun g =>
        { g with control := none }).answering (reply .control tag₀ 0x17 .aborted false []) |>.answering
          (reply .control tag 0x7F .done false []))) ∧
    (s.mgmt.control = some ⟨tag₀, .warm⟩ → exec (.abort 0x01 tag []) s =
      .next (s.answering (reply .control tag 0x7F .nothingPending false [])))) ∧
  (∀ (s : State) (ch : Channel) (tag code : Byte) (ps : List Byte), s.Ready ch →
    exec (.unknownCommand ch.code tag code ps) s =
      .next (s.answering (reply ch tag code .unknownCommand false [])))

/-- Admission (R179, R180, R184, R185, R189, R199). With no free place a request is dropped and counted; otherwise the first
test that decides it answers: BAD_PARAMETER for a channel byte that names no channel, BARRED on a barred service channel, BUSY
on a channel with a command in progress unless it is ABORT, OUT_OF_SCOPE for a venue command or without scope or for another
operator on the service channel and for ATTACH or DETACH on the control channel, and BAD_PARAMETER for a parameter part of
another length than section 10.4 gives the command, and for an identifier, flag, format set, enumerated value or list out of
its range or form (R32, R35, R38, R39, R165, R171, R184, R199, R203). A refusal changes nothing else. That a service request
too short to name its operator is BAD_PARAMETER is the model's reading, log entry 19. -/
def Obligations.Admission : Prop :=
  ∀ (s : State) (code ch tag : Byte) (ps : List Byte), s.Quiet →
    let answered : Result → Prop := fun x =>
      exec (decodeRequest code ch tag ps) s = .next (s.answering ⟨ch, tag, code, x, false, [], false⟩)
    (s.mgmt.free = 0 → exec (decodeRequest code ch tag ps) s =
      .next (s.withMgmt fun g => { g with dropped := min (g.dropped + 1) 4294967295 })) ∧
    (0 < s.mgmt.free → s.trunk.state = .up →
      (ch ≠ 0x01 → ch ≠ 0x02 → answered .badParameter) ∧
      (ch = 0x02 → s.mgmt.barred = true → answered .barred) ∧
      (ch = 0x01 → s.mgmt.control.isSome → code ≠ 0x7F → answered .busy) ∧
      (ch = 0x02 → s.mgmt.barred = false → s.mgmt.service.isSome → code ≠ 0x7F → answered .busy) ∧
      (s.Ready .service → ch = 0x02 →
        (0x10 ≤ code.toNat → code.toNat ≤ 0x1B ∨ code = 0x1E ∨ code = 0x1F → answered .outOfScope) ∧
        (s.mgmt.scope = none → (0x30 ≤ code.toNat ∧ code.toNat ≤ 0x38) ∨ (0x51 ≤ code.toNat ∧ code.toNat ≤ 0x55) ∨
          code = 0x71 → answered .outOfScope) ∧
        ∀ o : OpId, s.mgmt.scope = some o →
          (0x32 ≤ code.toNat ∧ code.toNat ≤ 0x38) ∨ code = 0x52 ∨ code = 0x54 →
          (ps = [] → answered .badParameter) ∧ ∀ b rest, ps = b :: rest → b.toNat ≠ o.val → answered .outOfScope) ∧
      (s.Ready .control → ch = 0x01 →
        (code = 0x70 ∨ code = 0x71 → answered .outOfScope) ∧
        ∀ n : Nat, (code.toNat, n) ∈ [(0x10, 5), (0x11, 0), (0x12, 7), (0x13, 1), (0x14, 1), (0x15, 4), (0x16, 6), (0x17, 1),
            (0x18, 4), (0x19, 1), (0x1A, 3), (0x1E, 0), (0x1F, 0), (0x30, 16), (0x31, 1), (0x34, 1), (0x35, 1), (0x36, 1),
            (0x37, 7), (0x38, 1), (0x50, 0), (0x51, 1), (0x52, 3), (0x53, 2), (0x54, 1), (0x55, 1), (0x7F, 0)] →
          ps.length ≠ n → answered .badParameter) ∧
      (s.Ready .control ∧ ch = 0x01 ∨ s.Ready .service ∧ ch = 0x02 ∧ (code = 0x70 ∨ ∃ o : OpId, s.mgmt.scope = some o ∧
          (code = 0x51 ∨ code = 0x55 ∨ code ∈ [0x32, 0x33, 0x37, 0x52] ∧ ps.head? = some (byte o.val))) →
        ∀ (a : Byte) (rest : List Byte), ps = a :: rest →
        let b := rest.getD 0 0
        let c := rest.getD 1 0
        let d := rest.getD 2 0
        (code ∈ [0x10, 0x34, 0x35, 0x36, 0x38, 0x54] → 4 ≤ a.toNat → answered .badParameter) ∧
        (code ∈ [0x13, 0x19, 0x31, 0x51] → 24 ≤ a.toNat → answered .badParameter) ∧
        (code = 0x70 → ch = 0x02 → 4 ≤ a.toNat ∨ rest.length ≠ 4 → answered .badParameter) ∧
        (code = 0x14 → 6 ≤ a.toNat → answered .badParameter) ∧ (code ∈ [0x16, 0x17] → 2 ≤ a.toNat → answered .badParameter) ∧
        (code = 0x55 → 64 ≤ a.toNat → answered .badParameter) ∧
        (code = 0x12 → 24 ≤ a.toNat ∨ 2 ≤ b.toNat ∨ c.toNat = 0 ∨ 8 ≤ c.toNat → answered .badParameter) ∧
        (code = 0x18 → 24 ≤ a.toNat ∨ 2 ≤ d.toNat → answered .badParameter) ∧
        (code = 0x1A → 2 ≤ a.toNat ∨ c.getLsbD 0 = true → answered .badParameter) ∧
        (code = 0x1B → 16 < a.toNat ∨ rest.length ≠ 2 * a.toNat ∨ (∃ i < a.toNat, ∀ k ∈ catalogue,
          ¬ (rest.getD (2 * i) 0 = byte k.kind.code ∧ rest.getD (2 * i + 1) 0 = k.obj.code)) → answered .badParameter) ∧
        (code = 0x30 → 24 ≤ a.toNat ∨ 4 ≤ b.toNat ∨ 8 ≤ c.toNat ∨ 2 ≤ (rest.getD 4 0).toNat → answered .badParameter) ∧
        (code = 0x37 → 4 ≤ a.toNat ∨ 3 ≤ b.toNat → answered .badParameter) ∧
        (code = 0x52 → 4 ≤ a.toNat ∨ 2 ≤ b.toNat ∨ 3 ≤ c.toNat → answered .badParameter) ∧
        (code = 0x53 → 4 ≤ a.toNat ∨ (a = 0x00 ∧ 4 ≤ b.toNat ∧ b ≠ 0xFF) ∨ (a = 0x01 ∧ 4 ≤ b.toNat) ∨
          (a = 0x02 ∧ 24 ≤ b.toNat) → answered .badParameter) ∧
        (code = 0x32 → ∀ list, list = rest.drop 3 → rest.length < 3 ∨ 4 ≤ a.toNat ∨ 8 ≤ b.toNat ∨ 8 < d.toNat ∨
          list.length ≠ d.toNat ∨ ¬ list.Nodup ∨ (∃ x ∈ list, 24 ≤ x.toNat ∨
            ∃ y : CarrierId, y.val = x.toNat ∧ ∀ p : OpId, p.val = a.toNat → s.plan.owner y ≠ some p) →
          answered .badParameter) ∧
        (code = 0x33 → ∀ list n, list = rest.drop 4 → n = rest.getD 3 0 → rest.length < 4 ∨ 4 ≤ a.toNat ∨ 24 ≤ b.toNat ∨
          (8 ≤ c.toNat ∧ c ≠ 0xFF) ∨ 2 ≤ d.toNat ∨ 3 < n.toNat ∨ list.length ≠ n.toNat ∨ ¬ list.Nodup ∨
          (∃ x ∈ list, 8 ≤ x.toNat ∨ x = c) ∨ (c = 0xFF ∧ list ≠ []) → answered .badParameter)))

/-! ## Whole-machine rules -/

/-- Every step keeps the alarm list at 64 entries or fewer and at most one per key (R157). -/
def Obligations.AlarmListInvariant : Prop :=
  ∀ s t : State, s.AlarmsBounded → step s = .next t → t.AlarmsBounded

/-- Every step keeps the taken places of the return queue at eight or fewer (R180). -/
def Obligations.ReturnQueueInvariant : Prop :=
  ∀ s t : State, s.PlacesBounded → step s = .next t → t.PlacesBounded

/-- Every step keeps every guard step in 0 to 8 (R84), and keeps the sums in progress well formed: one for each carrier and link
frame, waiting for remotes, each once, with the counters they count into in range (R16, R76, R87). -/
def Obligations.CombinerInvariant : Prop :=
  (∀ s t : State, s.GuardBounded → step s = .next t → t.GuardBounded) ∧
  ∀ s t : State, s.SumsFormed → step s = .next t → t.SumsFormed

/-- Every step keeps a CLEAN staged bank equal to the active bank (section 2.3), and with it keeps every bank well formed: a
carrier in at most one sector's list, each list of at most 8 in ascending order, the headroom shift at most 4 (R33, R38); the
current sector NONE exactly when the home is, and otherwise the home or, unless the entry is pinned, one of the alternates
(R34, R39, R40, R46). -/
def Obligations.CleanBankInvariant : Prop :=
  (∀ s t : State, s.CleanMatches → step s = .next t → t.CleanMatches) ∧
  ∀ s t : State, s.CleanMatches → s.BanksFormed → step s = .next t → t.BanksFormed

/-- Every step keeps every placement record equal to the one that the inputs in force derive, the dark indications and the
conditions of shedding and overload equal to those of the records outside a boundary's own steps, every carrier that a bank
lists owned by the bank's operator, and a format in every UP link (R8, R33, R38, R52 to R58, R63). -/
def Obligations.PlacementInvariant : Prop :=
  ∀ s t : State, s.PlansAndLinksFormed → s.PlacementDerived → step s = .next t →
    t.PlansAndLinksFormed ∧ t.PlacementDerived

/-- Every step keeps the isolation list at four distinct remotes or fewer, with room for a pending isolation, and a remote on it
exactly when its link is ISOLATED (R143). -/
def Obligations.IsolationListInvariant : Prop :=
  ∀ s t : State, s.IsolationBounded → s.IsolatedExactly → step s = .next t → t.IsolationBounded ∧ t.IsolatedExactly

/-- No request on the service channel, ABORT apart, touches another operator's plan, Balancer or carriers, nor anything of the
venue: links' settings and states, Timebase, hub mode, isolation, measurement and alerts stay (R185, R186). Only LINK READ
clears a down latch, and only an ATTACH with a code that differs from the one stored raises ACCESS_BARRED (R17, R187). -/
def Obligations.ServiceChannelIsConfined : Prop :=
  ∀ (s : State) (i : Instr) (code tag : Byte) (ps : List Byte), s.Quiet → i.request = some (code, 0x02, tag, ps) →
    code ≠ 0x7F → ∃ t : State, exec i s = .next t ∧
      (∀ o : OpId, s.mgmt.scope ≠ some o → t.opPlan o = s.opPlan o ∧ t.bal[o] = s.bal[o]) ∧
      (∀ (c : CarrierId) (o : OpId), s.plan.owner c = some o → s.mgmt.scope ≠ some o → t.carrier c = s.carrier c) ∧
      (∀ r : RemoteId, t.rl[r] = { s.rl[r] with downLatch := t.rl[r].downLatch }) ∧ t.ol = s.ol ∧ t.trunk = s.trunk ∧
      t.tb = s.tb ∧ t.place = s.place ∧ t.meas = s.meas ∧ t.mode = s.mode ∧ t.comb.gates = s.comb.gates ∧
      t.comb.guard = s.comb.guard ∧ t.mgmt.codes = s.mgmt.codes ∧ t.mgmt.control = s.mgmt.control ∧
      (code ≠ 0x51 → t.rl = s.rl) ∧
      ((∀ (o : OpId) (k : BitVec 32), code = 0x70 → ps = byte o.val :: u32 k.toNat →
        s.mgmt.codes[o] = 0 ∨ s.mgmt.codes[o] = k) → t.sup = s.sup)

/-- An operator's active bank changes only by the switchover of its ARMED staged bank, or by a reset to cold values: between
instants, no command but LINK_FRAME_START after the last frame of a superframe and RESET_PIN_RELEASE changes any (R41). The
instants and the owed steps are the model's, log entry 1, and so is the boundary that LINK_FRAME_START makes after link frame
79, log entry 6. -/
def Obligations.ActiveBankOnlyBySwitchover : Prop :=
  (∀ (s t : State) (c : Instr), s.Quiet → c ≠ .resetPinRelease → (c = .linkFrameStart → ∀ lf, s.tb.lf = some lf → lf < 79) →
    exec c s = .next t → ∀ o : OpId, (t.opPlan o).active = (s.opPlan o).active) ∧
  ∀ (s t : State) (x : Instr), s.Next x → phase x < requestPhase → x ≠ .alertPlacement → exec x s = .next t →
    ∀ o : OpId, (t.opPlan o).active = (s.opPlan o).active ∨
      (x = .switchover o ∧ s.isArmed o = true ∧ (t.opPlan o).active = (s.opPlan o).staged) ∨ x = .coldResetApplied
end

