-- ==== Sys2Proof/Laws/State.lean ====
section
/-! SUPPORT. What each update of State leaves and what it writes: one lemma per field per update. -/

namespace Sys2Proof.Machine.State

/-! ## Fields that an update leaves -/

/-! ### modRl -/

@[simp] theorem modRl_pending (s : State) (r : RemoteId) (f : RemoteLink → RemoteLink) : (s.modRl r f).pending = s.pending := rfl
@[simp] theorem modRl_due (s : State) (r : RemoteId) (f : RemoteLink → RemoteLink) : (s.modRl r f).due = s.due := rfl
@[simp] theorem modRl_boundary (s : State) (r : RemoteId) (f : RemoteLink → RemoteLink) : (s.modRl r f).boundary = s.boundary := rfl
@[simp] theorem modRl_resetPin (s : State) (r : RemoteId) (f : RemoteLink → RemoteLink) : (s.modRl r f).resetPin = s.resetPin := rfl
@[simp] theorem modRl_ol (s : State) (r : RemoteId) (f : RemoteLink → RemoteLink) : (s.modRl r f).ol = s.ol := rfl
@[simp] theorem modRl_trunk (s : State) (r : RemoteId) (f : RemoteLink → RemoteLink) : (s.modRl r f).trunk = s.trunk := rfl
@[simp] theorem modRl_tb (s : State) (r : RemoteId) (f : RemoteLink → RemoteLink) : (s.modRl r f).tb = s.tb := rfl
@[simp] theorem modRl_plan (s : State) (r : RemoteId) (f : RemoteLink → RemoteLink) : (s.modRl r f).plan = s.plan := rfl
@[simp] theorem modRl_place (s : State) (r : RemoteId) (f : RemoteLink → RemoteLink) : (s.modRl r f).place = s.place := rfl
@[simp] theorem modRl_dist (s : State) (r : RemoteId) (f : RemoteLink → RemoteLink) : (s.modRl r f).dist = s.dist := rfl
@[simp] theorem modRl_comb (s : State) (r : RemoteId) (f : RemoteLink → RemoteLink) : (s.modRl r f).comb = s.comb := rfl
@[simp] theorem modRl_meas (s : State) (r : RemoteId) (f : RemoteLink → RemoteLink) : (s.modRl r f).meas = s.meas := rfl
@[simp] theorem modRl_bal (s : State) (r : RemoteId) (f : RemoteLink → RemoteLink) : (s.modRl r f).bal = s.bal := rfl
@[simp] theorem modRl_mode (s : State) (r : RemoteId) (f : RemoteLink → RemoteLink) : (s.modRl r f).mode = s.mode := rfl
@[simp] theorem modRl_sup (s : State) (r : RemoteId) (f : RemoteLink → RemoteLink) : (s.modRl r f).sup = s.sup := rfl
@[simp] theorem modRl_mgmt (s : State) (r : RemoteId) (f : RemoteLink → RemoteLink) : (s.modRl r f).mgmt = s.mgmt := rfl
@[simp] theorem modRl_out (s : State) (r : RemoteId) (f : RemoteLink → RemoteLink) : (s.modRl r f).out = s.out := rfl

/-! ### modCarrier -/

@[simp] theorem modCarrier_pending (s : State) (c : CarrierId) (f : CarrierRecord → CarrierRecord) : (s.modCarrier c f).pending = s.pending := rfl
@[simp] theorem modCarrier_due (s : State) (c : CarrierId) (f : CarrierRecord → CarrierRecord) : (s.modCarrier c f).due = s.due := rfl
@[simp] theorem modCarrier_boundary (s : State) (c : CarrierId) (f : CarrierRecord → CarrierRecord) : (s.modCarrier c f).boundary = s.boundary := rfl
@[simp] theorem modCarrier_resetPin (s : State) (c : CarrierId) (f : CarrierRecord → CarrierRecord) : (s.modCarrier c f).resetPin = s.resetPin := rfl
@[simp] theorem modCarrier_rl (s : State) (c : CarrierId) (f : CarrierRecord → CarrierRecord) : (s.modCarrier c f).rl = s.rl := rfl
@[simp] theorem modCarrier_ol (s : State) (c : CarrierId) (f : CarrierRecord → CarrierRecord) : (s.modCarrier c f).ol = s.ol := rfl
@[simp] theorem modCarrier_trunk (s : State) (c : CarrierId) (f : CarrierRecord → CarrierRecord) : (s.modCarrier c f).trunk = s.trunk := rfl
@[simp] theorem modCarrier_tb (s : State) (c : CarrierId) (f : CarrierRecord → CarrierRecord) : (s.modCarrier c f).tb = s.tb := rfl
@[simp] theorem modCarrier_place (s : State) (c : CarrierId) (f : CarrierRecord → CarrierRecord) : (s.modCarrier c f).place = s.place := rfl
@[simp] theorem modCarrier_dist (s : State) (c : CarrierId) (f : CarrierRecord → CarrierRecord) : (s.modCarrier c f).dist = s.dist := rfl
@[simp] theorem modCarrier_comb (s : State) (c : CarrierId) (f : CarrierRecord → CarrierRecord) : (s.modCarrier c f).comb = s.comb := rfl
@[simp] theorem modCarrier_meas (s : State) (c : CarrierId) (f : CarrierRecord → CarrierRecord) : (s.modCarrier c f).meas = s.meas := rfl
@[simp] theorem modCarrier_bal (s : State) (c : CarrierId) (f : CarrierRecord → CarrierRecord) : (s.modCarrier c f).bal = s.bal := rfl
@[simp] theorem modCarrier_mode (s : State) (c : CarrierId) (f : CarrierRecord → CarrierRecord) : (s.modCarrier c f).mode = s.mode := rfl
@[simp] theorem modCarrier_sup (s : State) (c : CarrierId) (f : CarrierRecord → CarrierRecord) : (s.modCarrier c f).sup = s.sup := rfl
@[simp] theorem modCarrier_mgmt (s : State) (c : CarrierId) (f : CarrierRecord → CarrierRecord) : (s.modCarrier c f).mgmt = s.mgmt := rfl
@[simp] theorem modCarrier_out (s : State) (c : CarrierId) (f : CarrierRecord → CarrierRecord) : (s.modCarrier c f).out = s.out := rfl

/-! ### modPlan -/

@[simp] theorem modPlan_pending (s : State) (o : OpId) (f : OperatorPlan → OperatorPlan) : (s.modPlan o f).pending = s.pending := rfl
@[simp] theorem modPlan_due (s : State) (o : OpId) (f : OperatorPlan → OperatorPlan) : (s.modPlan o f).due = s.due := rfl
@[simp] theorem modPlan_boundary (s : State) (o : OpId) (f : OperatorPlan → OperatorPlan) : (s.modPlan o f).boundary = s.boundary := rfl
@[simp] theorem modPlan_resetPin (s : State) (o : OpId) (f : OperatorPlan → OperatorPlan) : (s.modPlan o f).resetPin = s.resetPin := rfl
@[simp] theorem modPlan_rl (s : State) (o : OpId) (f : OperatorPlan → OperatorPlan) : (s.modPlan o f).rl = s.rl := rfl
@[simp] theorem modPlan_ol (s : State) (o : OpId) (f : OperatorPlan → OperatorPlan) : (s.modPlan o f).ol = s.ol := rfl
@[simp] theorem modPlan_trunk (s : State) (o : OpId) (f : OperatorPlan → OperatorPlan) : (s.modPlan o f).trunk = s.trunk := rfl
@[simp] theorem modPlan_tb (s : State) (o : OpId) (f : OperatorPlan → OperatorPlan) : (s.modPlan o f).tb = s.tb := rfl
@[simp] theorem modPlan_place (s : State) (o : OpId) (f : OperatorPlan → OperatorPlan) : (s.modPlan o f).place = s.place := rfl
@[simp] theorem modPlan_dist (s : State) (o : OpId) (f : OperatorPlan → OperatorPlan) : (s.modPlan o f).dist = s.dist := rfl
@[simp] theorem modPlan_comb (s : State) (o : OpId) (f : OperatorPlan → OperatorPlan) : (s.modPlan o f).comb = s.comb := rfl
@[simp] theorem modPlan_meas (s : State) (o : OpId) (f : OperatorPlan → OperatorPlan) : (s.modPlan o f).meas = s.meas := rfl
@[simp] theorem modPlan_bal (s : State) (o : OpId) (f : OperatorPlan → OperatorPlan) : (s.modPlan o f).bal = s.bal := rfl
@[simp] theorem modPlan_mode (s : State) (o : OpId) (f : OperatorPlan → OperatorPlan) : (s.modPlan o f).mode = s.mode := rfl
@[simp] theorem modPlan_sup (s : State) (o : OpId) (f : OperatorPlan → OperatorPlan) : (s.modPlan o f).sup = s.sup := rfl
@[simp] theorem modPlan_mgmt (s : State) (o : OpId) (f : OperatorPlan → OperatorPlan) : (s.modPlan o f).mgmt = s.mgmt := rfl
@[simp] theorem modPlan_out (s : State) (o : OpId) (f : OperatorPlan → OperatorPlan) : (s.modPlan o f).out = s.out := rfl

/-! ### setRecord -/

@[simp] theorem setRecord_pending (s : State) (r : RemoteId) (p : PlacementRecord) : (s.setRecord r p).pending = s.pending := rfl
@[simp] theorem setRecord_due (s : State) (r : RemoteId) (p : PlacementRecord) : (s.setRecord r p).due = s.due := rfl
@[simp] theorem setRecord_boundary (s : State) (r : RemoteId) (p : PlacementRecord) : (s.setRecord r p).boundary = s.boundary := rfl
@[simp] theorem setRecord_resetPin (s : State) (r : RemoteId) (p : PlacementRecord) : (s.setRecord r p).resetPin = s.resetPin := rfl
@[simp] theorem setRecord_rl (s : State) (r : RemoteId) (p : PlacementRecord) : (s.setRecord r p).rl = s.rl := rfl
@[simp] theorem setRecord_ol (s : State) (r : RemoteId) (p : PlacementRecord) : (s.setRecord r p).ol = s.ol := rfl
@[simp] theorem setRecord_trunk (s : State) (r : RemoteId) (p : PlacementRecord) : (s.setRecord r p).trunk = s.trunk := rfl
@[simp] theorem setRecord_tb (s : State) (r : RemoteId) (p : PlacementRecord) : (s.setRecord r p).tb = s.tb := rfl
@[simp] theorem setRecord_plan (s : State) (r : RemoteId) (p : PlacementRecord) : (s.setRecord r p).plan = s.plan := rfl
@[simp] theorem setRecord_dist (s : State) (r : RemoteId) (p : PlacementRecord) : (s.setRecord r p).dist = s.dist := rfl
@[simp] theorem setRecord_comb (s : State) (r : RemoteId) (p : PlacementRecord) : (s.setRecord r p).comb = s.comb := rfl
@[simp] theorem setRecord_meas (s : State) (r : RemoteId) (p : PlacementRecord) : (s.setRecord r p).meas = s.meas := rfl
@[simp] theorem setRecord_bal (s : State) (r : RemoteId) (p : PlacementRecord) : (s.setRecord r p).bal = s.bal := rfl
@[simp] theorem setRecord_mode (s : State) (r : RemoteId) (p : PlacementRecord) : (s.setRecord r p).mode = s.mode := rfl
@[simp] theorem setRecord_sup (s : State) (r : RemoteId) (p : PlacementRecord) : (s.setRecord r p).sup = s.sup := rfl
@[simp] theorem setRecord_mgmt (s : State) (r : RemoteId) (p : PlacementRecord) : (s.setRecord r p).mgmt = s.mgmt := rfl
@[simp] theorem setRecord_out (s : State) (r : RemoteId) (p : PlacementRecord) : (s.setRecord r p).out = s.out := rfl

/-! ### setGate -/

@[simp] theorem setGate_pending (s : State) (r : RemoteId) (c : CarrierId) (g : Gate) : (s.setGate r c g).pending = s.pending := rfl
@[simp] theorem setGate_due (s : State) (r : RemoteId) (c : CarrierId) (g : Gate) : (s.setGate r c g).due = s.due := rfl
@[simp] theorem setGate_boundary (s : State) (r : RemoteId) (c : CarrierId) (g : Gate) : (s.setGate r c g).boundary = s.boundary := rfl
@[simp] theorem setGate_resetPin (s : State) (r : RemoteId) (c : CarrierId) (g : Gate) : (s.setGate r c g).resetPin = s.resetPin := rfl
@[simp] theorem setGate_rl (s : State) (r : RemoteId) (c : CarrierId) (g : Gate) : (s.setGate r c g).rl = s.rl := rfl
@[simp] theorem setGate_ol (s : State) (r : RemoteId) (c : CarrierId) (g : Gate) : (s.setGate r c g).ol = s.ol := rfl
@[simp] theorem setGate_trunk (s : State) (r : RemoteId) (c : CarrierId) (g : Gate) : (s.setGate r c g).trunk = s.trunk := rfl
@[simp] theorem setGate_tb (s : State) (r : RemoteId) (c : CarrierId) (g : Gate) : (s.setGate r c g).tb = s.tb := rfl
@[simp] theorem setGate_plan (s : State) (r : RemoteId) (c : CarrierId) (g : Gate) : (s.setGate r c g).plan = s.plan := rfl
@[simp] theorem setGate_place (s : State) (r : RemoteId) (c : CarrierId) (g : Gate) : (s.setGate r c g).place = s.place := rfl
@[simp] theorem setGate_dist (s : State) (r : RemoteId) (c : CarrierId) (g : Gate) : (s.setGate r c g).dist = s.dist := rfl
@[simp] theorem setGate_meas (s : State) (r : RemoteId) (c : CarrierId) (g : Gate) : (s.setGate r c g).meas = s.meas := rfl
@[simp] theorem setGate_bal (s : State) (r : RemoteId) (c : CarrierId) (g : Gate) : (s.setGate r c g).bal = s.bal := rfl
@[simp] theorem setGate_mode (s : State) (r : RemoteId) (c : CarrierId) (g : Gate) : (s.setGate r c g).mode = s.mode := rfl
@[simp] theorem setGate_sup (s : State) (r : RemoteId) (c : CarrierId) (g : Gate) : (s.setGate r c g).sup = s.sup := rfl
@[simp] theorem setGate_mgmt (s : State) (r : RemoteId) (c : CarrierId) (g : Gate) : (s.setGate r c g).mgmt = s.mgmt := rfl
@[simp] theorem setGate_out (s : State) (r : RemoteId) (c : CarrierId) (g : Gate) : (s.setGate r c g).out = s.out := rfl

/-! ### closeGates -/

@[simp] theorem closeGates_pending (s : State) (r : RemoteId) : (s.closeGates r).pending = s.pending := rfl
@[simp] theorem closeGates_due (s : State) (r : RemoteId) : (s.closeGates r).due = s.due := rfl
@[simp] theorem closeGates_boundary (s : State) (r : RemoteId) : (s.closeGates r).boundary = s.boundary := rfl
@[simp] theorem closeGates_resetPin (s : State) (r : RemoteId) : (s.closeGates r).resetPin = s.resetPin := rfl
@[simp] theorem closeGates_rl (s : State) (r : RemoteId) : (s.closeGates r).rl = s.rl := rfl
@[simp] theorem closeGates_ol (s : State) (r : RemoteId) : (s.closeGates r).ol = s.ol := rfl
@[simp] theorem closeGates_trunk (s : State) (r : RemoteId) : (s.closeGates r).trunk = s.trunk := rfl
@[simp] theorem closeGates_tb (s : State) (r : RemoteId) : (s.closeGates r).tb = s.tb := rfl
@[simp] theorem closeGates_plan (s : State) (r : RemoteId) : (s.closeGates r).plan = s.plan := rfl
@[simp] theorem closeGates_place (s : State) (r : RemoteId) : (s.closeGates r).place = s.place := rfl
@[simp] theorem closeGates_dist (s : State) (r : RemoteId) : (s.closeGates r).dist = s.dist := rfl
@[simp] theorem closeGates_meas (s : State) (r : RemoteId) : (s.closeGates r).meas = s.meas := rfl
@[simp] theorem closeGates_bal (s : State) (r : RemoteId) : (s.closeGates r).bal = s.bal := rfl
@[simp] theorem closeGates_mode (s : State) (r : RemoteId) : (s.closeGates r).mode = s.mode := rfl
@[simp] theorem closeGates_sup (s : State) (r : RemoteId) : (s.closeGates r).sup = s.sup := rfl
@[simp] theorem closeGates_mgmt (s : State) (r : RemoteId) : (s.closeGates r).mgmt = s.mgmt := rfl
@[simp] theorem closeGates_out (s : State) (r : RemoteId) : (s.closeGates r).out = s.out := rfl

/-! ### modBal -/

@[simp] theorem modBal_pending (s : State) (o : OpId) (f : BalancerOp → BalancerOp) : (s.modBal o f).pending = s.pending := rfl
@[simp] theorem modBal_due (s : State) (o : OpId) (f : BalancerOp → BalancerOp) : (s.modBal o f).due = s.due := rfl
@[simp] theorem modBal_boundary (s : State) (o : OpId) (f : BalancerOp → BalancerOp) : (s.modBal o f).boundary = s.boundary := rfl
@[simp] theorem modBal_resetPin (s : State) (o : OpId) (f : BalancerOp → BalancerOp) : (s.modBal o f).resetPin = s.resetPin := rfl
@[simp] theorem modBal_rl (s : State) (o : OpId) (f : BalancerOp → BalancerOp) : (s.modBal o f).rl = s.rl := rfl
@[simp] theorem modBal_ol (s : State) (o : OpId) (f : BalancerOp → BalancerOp) : (s.modBal o f).ol = s.ol := rfl
@[simp] theorem modBal_trunk (s : State) (o : OpId) (f : BalancerOp → BalancerOp) : (s.modBal o f).trunk = s.trunk := rfl
@[simp] theorem modBal_tb (s : State) (o : OpId) (f : BalancerOp → BalancerOp) : (s.modBal o f).tb = s.tb := rfl
@[simp] theorem modBal_plan (s : State) (o : OpId) (f : BalancerOp → BalancerOp) : (s.modBal o f).plan = s.plan := rfl
@[simp] theorem modBal_place (s : State) (o : OpId) (f : BalancerOp → BalancerOp) : (s.modBal o f).place = s.place := rfl
@[simp] theorem modBal_dist (s : State) (o : OpId) (f : BalancerOp → BalancerOp) : (s.modBal o f).dist = s.dist := rfl
@[simp] theorem modBal_comb (s : State) (o : OpId) (f : BalancerOp → BalancerOp) : (s.modBal o f).comb = s.comb := rfl
@[simp] theorem modBal_meas (s : State) (o : OpId) (f : BalancerOp → BalancerOp) : (s.modBal o f).meas = s.meas := rfl
@[simp] theorem modBal_mode (s : State) (o : OpId) (f : BalancerOp → BalancerOp) : (s.modBal o f).mode = s.mode := rfl
@[simp] theorem modBal_sup (s : State) (o : OpId) (f : BalancerOp → BalancerOp) : (s.modBal o f).sup = s.sup := rfl
@[simp] theorem modBal_mgmt (s : State) (o : OpId) (f : BalancerOp → BalancerOp) : (s.modBal o f).mgmt = s.mgmt := rfl
@[simp] theorem modBal_out (s : State) (o : OpId) (f : BalancerOp → BalancerOp) : (s.modBal o f).out = s.out := rfl

/-! ### owe -/

@[simp] theorem owe_pending (s : State) (xs : List Instr) : (s.owe xs).pending = s.pending := rfl
@[simp] theorem owe_boundary (s : State) (xs : List Instr) : (s.owe xs).boundary = s.boundary := rfl
@[simp] theorem owe_resetPin (s : State) (xs : List Instr) : (s.owe xs).resetPin = s.resetPin := rfl
@[simp] theorem owe_rl (s : State) (xs : List Instr) : (s.owe xs).rl = s.rl := rfl
@[simp] theorem owe_ol (s : State) (xs : List Instr) : (s.owe xs).ol = s.ol := rfl
@[simp] theorem owe_trunk (s : State) (xs : List Instr) : (s.owe xs).trunk = s.trunk := rfl
@[simp] theorem owe_tb (s : State) (xs : List Instr) : (s.owe xs).tb = s.tb := rfl
@[simp] theorem owe_plan (s : State) (xs : List Instr) : (s.owe xs).plan = s.plan := rfl
@[simp] theorem owe_place (s : State) (xs : List Instr) : (s.owe xs).place = s.place := rfl
@[simp] theorem owe_dist (s : State) (xs : List Instr) : (s.owe xs).dist = s.dist := rfl
@[simp] theorem owe_comb (s : State) (xs : List Instr) : (s.owe xs).comb = s.comb := rfl
@[simp] theorem owe_meas (s : State) (xs : List Instr) : (s.owe xs).meas = s.meas := rfl
@[simp] theorem owe_bal (s : State) (xs : List Instr) : (s.owe xs).bal = s.bal := rfl
@[simp] theorem owe_mode (s : State) (xs : List Instr) : (s.owe xs).mode = s.mode := rfl
@[simp] theorem owe_sup (s : State) (xs : List Instr) : (s.owe xs).sup = s.sup := rfl
@[simp] theorem owe_mgmt (s : State) (xs : List Instr) : (s.owe xs).mgmt = s.mgmt := rfl
@[simp] theorem owe_out (s : State) (xs : List Instr) : (s.owe xs).out = s.out := rfl

/-! ### dropDue -/

@[simp] theorem dropDue_pending (s : State) (x : Instr) : (s.dropDue x).pending = s.pending := rfl
@[simp] theorem dropDue_boundary (s : State) (x : Instr) : (s.dropDue x).boundary = s.boundary := rfl
@[simp] theorem dropDue_resetPin (s : State) (x : Instr) : (s.dropDue x).resetPin = s.resetPin := rfl
@[simp] theorem dropDue_rl (s : State) (x : Instr) : (s.dropDue x).rl = s.rl := rfl
@[simp] theorem dropDue_ol (s : State) (x : Instr) : (s.dropDue x).ol = s.ol := rfl
@[simp] theorem dropDue_trunk (s : State) (x : Instr) : (s.dropDue x).trunk = s.trunk := rfl
@[simp] theorem dropDue_tb (s : State) (x : Instr) : (s.dropDue x).tb = s.tb := rfl
@[simp] theorem dropDue_plan (s : State) (x : Instr) : (s.dropDue x).plan = s.plan := rfl
@[simp] theorem dropDue_place (s : State) (x : Instr) : (s.dropDue x).place = s.place := rfl
@[simp] theorem dropDue_dist (s : State) (x : Instr) : (s.dropDue x).dist = s.dist := rfl
@[simp] theorem dropDue_comb (s : State) (x : Instr) : (s.dropDue x).comb = s.comb := rfl
@[simp] theorem dropDue_meas (s : State) (x : Instr) : (s.dropDue x).meas = s.meas := rfl
@[simp] theorem dropDue_bal (s : State) (x : Instr) : (s.dropDue x).bal = s.bal := rfl
@[simp] theorem dropDue_mode (s : State) (x : Instr) : (s.dropDue x).mode = s.mode := rfl
@[simp] theorem dropDue_sup (s : State) (x : Instr) : (s.dropDue x).sup = s.sup := rfl
@[simp] theorem dropDue_mgmt (s : State) (x : Instr) : (s.dropDue x).mgmt = s.mgmt := rfl
@[simp] theorem dropDue_out (s : State) (x : Instr) : (s.dropDue x).out = s.out := rfl

/-! ### raise -/

@[simp] theorem raise_pending (s : State) (k : Key) : (s.raise k).pending = s.pending := rfl
@[simp] theorem raise_due (s : State) (k : Key) : (s.raise k).due = s.due := rfl
@[simp] theorem raise_boundary (s : State) (k : Key) : (s.raise k).boundary = s.boundary := rfl
@[simp] theorem raise_resetPin (s : State) (k : Key) : (s.raise k).resetPin = s.resetPin := rfl
@[simp] theorem raise_rl (s : State) (k : Key) : (s.raise k).rl = s.rl := rfl
@[simp] theorem raise_ol (s : State) (k : Key) : (s.raise k).ol = s.ol := rfl
@[simp] theorem raise_trunk (s : State) (k : Key) : (s.raise k).trunk = s.trunk := rfl
@[simp] theorem raise_tb (s : State) (k : Key) : (s.raise k).tb = s.tb := rfl
@[simp] theorem raise_plan (s : State) (k : Key) : (s.raise k).plan = s.plan := rfl
@[simp] theorem raise_place (s : State) (k : Key) : (s.raise k).place = s.place := rfl
@[simp] theorem raise_dist (s : State) (k : Key) : (s.raise k).dist = s.dist := rfl
@[simp] theorem raise_comb (s : State) (k : Key) : (s.raise k).comb = s.comb := rfl
@[simp] theorem raise_meas (s : State) (k : Key) : (s.raise k).meas = s.meas := rfl
@[simp] theorem raise_bal (s : State) (k : Key) : (s.raise k).bal = s.bal := rfl
@[simp] theorem raise_mode (s : State) (k : Key) : (s.raise k).mode = s.mode := rfl
@[simp] theorem raise_mgmt (s : State) (k : Key) : (s.raise k).mgmt = s.mgmt := rfl
@[simp] theorem raise_out (s : State) (k : Key) : (s.raise k).out = s.out := rfl

/-! ### clear -/

@[simp] theorem clear_pending (s : State) (k : Key) : (s.clear k).pending = s.pending := rfl
@[simp] theorem clear_due (s : State) (k : Key) : (s.clear k).due = s.due := rfl
@[simp] theorem clear_boundary (s : State) (k : Key) : (s.clear k).boundary = s.boundary := rfl
@[simp] theorem clear_resetPin (s : State) (k : Key) : (s.clear k).resetPin = s.resetPin := rfl
@[simp] theorem clear_rl (s : State) (k : Key) : (s.clear k).rl = s.rl := rfl
@[simp] theorem clear_ol (s : State) (k : Key) : (s.clear k).ol = s.ol := rfl
@[simp] theorem clear_trunk (s : State) (k : Key) : (s.clear k).trunk = s.trunk := rfl
@[simp] theorem clear_tb (s : State) (k : Key) : (s.clear k).tb = s.tb := rfl
@[simp] theorem clear_plan (s : State) (k : Key) : (s.clear k).plan = s.plan := rfl
@[simp] theorem clear_place (s : State) (k : Key) : (s.clear k).place = s.place := rfl
@[simp] theorem clear_dist (s : State) (k : Key) : (s.clear k).dist = s.dist := rfl
@[simp] theorem clear_comb (s : State) (k : Key) : (s.clear k).comb = s.comb := rfl
@[simp] theorem clear_meas (s : State) (k : Key) : (s.clear k).meas = s.meas := rfl
@[simp] theorem clear_bal (s : State) (k : Key) : (s.clear k).bal = s.bal := rfl
@[simp] theorem clear_mode (s : State) (k : Key) : (s.clear k).mode = s.mode := rfl
@[simp] theorem clear_mgmt (s : State) (k : Key) : (s.clear k).mgmt = s.mgmt := rfl
@[simp] theorem clear_out (s : State) (k : Key) : (s.clear k).out = s.out := rfl

/-! ### dropScope -/

@[simp] theorem dropScope_pending (s : State) : (s.dropScope).pending = s.pending := rfl
@[simp] theorem dropScope_due (s : State) : (s.dropScope).due = s.due := rfl
@[simp] theorem dropScope_boundary (s : State) : (s.dropScope).boundary = s.boundary := rfl
@[simp] theorem dropScope_resetPin (s : State) : (s.dropScope).resetPin = s.resetPin := rfl
@[simp] theorem dropScope_rl (s : State) : (s.dropScope).rl = s.rl := rfl
@[simp] theorem dropScope_ol (s : State) : (s.dropScope).ol = s.ol := rfl
@[simp] theorem dropScope_trunk (s : State) : (s.dropScope).trunk = s.trunk := rfl
@[simp] theorem dropScope_tb (s : State) : (s.dropScope).tb = s.tb := rfl
@[simp] theorem dropScope_plan (s : State) : (s.dropScope).plan = s.plan := rfl
@[simp] theorem dropScope_place (s : State) : (s.dropScope).place = s.place := rfl
@[simp] theorem dropScope_dist (s : State) : (s.dropScope).dist = s.dist := rfl
@[simp] theorem dropScope_comb (s : State) : (s.dropScope).comb = s.comb := rfl
@[simp] theorem dropScope_meas (s : State) : (s.dropScope).meas = s.meas := rfl
@[simp] theorem dropScope_bal (s : State) : (s.dropScope).bal = s.bal := rfl
@[simp] theorem dropScope_mode (s : State) : (s.dropScope).mode = s.mode := rfl
@[simp] theorem dropScope_sup (s : State) : (s.dropScope).sup = s.sup := rfl
@[simp] theorem dropScope_out (s : State) : (s.dropScope).out = s.out := rfl

/-! ### dropOutputs -/

@[simp] theorem dropOutputs_pending (s : State) (c : CarrierId) : (s.dropOutputs c).pending = s.pending := rfl
@[simp] theorem dropOutputs_due (s : State) (c : CarrierId) : (s.dropOutputs c).due = s.due := rfl
@[simp] theorem dropOutputs_boundary (s : State) (c : CarrierId) : (s.dropOutputs c).boundary = s.boundary := rfl
@[simp] theorem dropOutputs_resetPin (s : State) (c : CarrierId) : (s.dropOutputs c).resetPin = s.resetPin := rfl
@[simp] theorem dropOutputs_rl (s : State) (c : CarrierId) : (s.dropOutputs c).rl = s.rl := rfl
@[simp] theorem dropOutputs_ol (s : State) (c : CarrierId) : (s.dropOutputs c).ol = s.ol := rfl
@[simp] theorem dropOutputs_trunk (s : State) (c : CarrierId) : (s.dropOutputs c).trunk = s.trunk := rfl
@[simp] theorem dropOutputs_tb (s : State) (c : CarrierId) : (s.dropOutputs c).tb = s.tb := rfl
@[simp] theorem dropOutputs_plan (s : State) (c : CarrierId) : (s.dropOutputs c).plan = s.plan := rfl
@[simp] theorem dropOutputs_place (s : State) (c : CarrierId) : (s.dropOutputs c).place = s.place := rfl
@[simp] theorem dropOutputs_dist (s : State) (c : CarrierId) : (s.dropOutputs c).dist = s.dist := rfl
@[simp] theorem dropOutputs_meas (s : State) (c : CarrierId) : (s.dropOutputs c).meas = s.meas := rfl
@[simp] theorem dropOutputs_bal (s : State) (c : CarrierId) : (s.dropOutputs c).bal = s.bal := rfl
@[simp] theorem dropOutputs_mode (s : State) (c : CarrierId) : (s.dropOutputs c).mode = s.mode := rfl
@[simp] theorem dropOutputs_sup (s : State) (c : CarrierId) : (s.dropOutputs c).sup = s.sup := rfl
@[simp] theorem dropOutputs_mgmt (s : State) (c : CarrierId) : (s.dropOutputs c).mgmt = s.mgmt := rfl
@[simp] theorem dropOutputs_out (s : State) (c : CarrierId) : (s.dropOutputs c).out = s.out := rfl

/-! ### expireGate -/

@[simp] theorem expireGate_pending (s : State) (r : RemoteId) (c : CarrierId) : (s.expireGate r c).pending = s.pending := rfl
@[simp] theorem expireGate_due (s : State) (r : RemoteId) (c : CarrierId) : (s.expireGate r c).due = s.due := rfl
@[simp] theorem expireGate_boundary (s : State) (r : RemoteId) (c : CarrierId) : (s.expireGate r c).boundary = s.boundary := rfl
@[simp] theorem expireGate_resetPin (s : State) (r : RemoteId) (c : CarrierId) : (s.expireGate r c).resetPin = s.resetPin := rfl
@[simp] theorem expireGate_rl (s : State) (r : RemoteId) (c : CarrierId) : (s.expireGate r c).rl = s.rl := rfl
@[simp] theorem expireGate_ol (s : State) (r : RemoteId) (c : CarrierId) : (s.expireGate r c).ol = s.ol := rfl
@[simp] theorem expireGate_trunk (s : State) (r : RemoteId) (c : CarrierId) : (s.expireGate r c).trunk = s.trunk := rfl
@[simp] theorem expireGate_tb (s : State) (r : RemoteId) (c : CarrierId) : (s.expireGate r c).tb = s.tb := rfl
@[simp] theorem expireGate_plan (s : State) (r : RemoteId) (c : CarrierId) : (s.expireGate r c).plan = s.plan := rfl
@[simp] theorem expireGate_place (s : State) (r : RemoteId) (c : CarrierId) : (s.expireGate r c).place = s.place := rfl
@[simp] theorem expireGate_dist (s : State) (r : RemoteId) (c : CarrierId) : (s.expireGate r c).dist = s.dist := rfl
@[simp] theorem expireGate_meas (s : State) (r : RemoteId) (c : CarrierId) : (s.expireGate r c).meas = s.meas := rfl
@[simp] theorem expireGate_bal (s : State) (r : RemoteId) (c : CarrierId) : (s.expireGate r c).bal = s.bal := rfl
@[simp] theorem expireGate_mode (s : State) (r : RemoteId) (c : CarrierId) : (s.expireGate r c).mode = s.mode := rfl
@[simp] theorem expireGate_sup (s : State) (r : RemoteId) (c : CarrierId) : (s.expireGate r c).sup = s.sup := rfl
@[simp] theorem expireGate_mgmt (s : State) (r : RemoteId) (c : CarrierId) : (s.expireGate r c).mgmt = s.mgmt := rfl
@[simp] theorem expireGate_out (s : State) (r : RemoteId) (c : CarrierId) : (s.expireGate r c).out = s.out := rfl

/-! ### answering -/

@[simp] theorem answering_pending (s : State) (x : Response) : (s.answering x).pending = s.pending := rfl
@[simp] theorem answering_due (s : State) (x : Response) : (s.answering x).due = s.due := rfl
@[simp] theorem answering_boundary (s : State) (x : Response) : (s.answering x).boundary = s.boundary := rfl
@[simp] theorem answering_resetPin (s : State) (x : Response) : (s.answering x).resetPin = s.resetPin := rfl
@[simp] theorem answering_rl (s : State) (x : Response) : (s.answering x).rl = s.rl := rfl
@[simp] theorem answering_ol (s : State) (x : Response) : (s.answering x).ol = s.ol := rfl
@[simp] theorem answering_trunk (s : State) (x : Response) : (s.answering x).trunk = s.trunk := rfl
@[simp] theorem answering_tb (s : State) (x : Response) : (s.answering x).tb = s.tb := rfl
@[simp] theorem answering_plan (s : State) (x : Response) : (s.answering x).plan = s.plan := rfl
@[simp] theorem answering_place (s : State) (x : Response) : (s.answering x).place = s.place := rfl
@[simp] theorem answering_dist (s : State) (x : Response) : (s.answering x).dist = s.dist := rfl
@[simp] theorem answering_comb (s : State) (x : Response) : (s.answering x).comb = s.comb := rfl
@[simp] theorem answering_meas (s : State) (x : Response) : (s.answering x).meas = s.meas := rfl
@[simp] theorem answering_bal (s : State) (x : Response) : (s.answering x).bal = s.bal := rfl
@[simp] theorem answering_mode (s : State) (x : Response) : (s.answering x).mode = s.mode := rfl
@[simp] theorem answering_sup (s : State) (x : Response) : (s.answering x).sup = s.sup := rfl
@[simp] theorem answering_out (s : State) (x : Response) : (s.answering x).out = s.out := rfl

/-! ### unlist -/

@[simp] theorem unlist_pending (s : State) (r : RemoteId) : (s.unlist r).pending = s.pending := rfl
@[simp] theorem unlist_due (s : State) (r : RemoteId) : (s.unlist r).due = s.due := rfl
@[simp] theorem unlist_boundary (s : State) (r : RemoteId) : (s.unlist r).boundary = s.boundary := rfl
@[simp] theorem unlist_resetPin (s : State) (r : RemoteId) : (s.unlist r).resetPin = s.resetPin := rfl
@[simp] theorem unlist_rl (s : State) (r : RemoteId) : (s.unlist r).rl = s.rl := rfl
@[simp] theorem unlist_ol (s : State) (r : RemoteId) : (s.unlist r).ol = s.ol := rfl
@[simp] theorem unlist_trunk (s : State) (r : RemoteId) : (s.unlist r).trunk = s.trunk := rfl
@[simp] theorem unlist_tb (s : State) (r : RemoteId) : (s.unlist r).tb = s.tb := rfl
@[simp] theorem unlist_plan (s : State) (r : RemoteId) : (s.unlist r).plan = s.plan := rfl
@[simp] theorem unlist_place (s : State) (r : RemoteId) : (s.unlist r).place = s.place := rfl
@[simp] theorem unlist_dist (s : State) (r : RemoteId) : (s.unlist r).dist = s.dist := rfl
@[simp] theorem unlist_comb (s : State) (r : RemoteId) : (s.unlist r).comb = s.comb := rfl
@[simp] theorem unlist_meas (s : State) (r : RemoteId) : (s.unlist r).meas = s.meas := rfl
@[simp] theorem unlist_bal (s : State) (r : RemoteId) : (s.unlist r).bal = s.bal := rfl
@[simp] theorem unlist_sup (s : State) (r : RemoteId) : (s.unlist r).sup = s.sup := rfl
@[simp] theorem unlist_mgmt (s : State) (r : RemoteId) : (s.unlist r).mgmt = s.mgmt := rfl
@[simp] theorem unlist_out (s : State) (r : RemoteId) : (s.unlist r).out = s.out := rfl

/-! ### endBoundary -/

@[simp] theorem endBoundary_pending (s : State) : (s.endBoundary).pending = s.pending := rfl
@[simp] theorem endBoundary_due (s : State) : (s.endBoundary).due = s.due := rfl
@[simp] theorem endBoundary_resetPin (s : State) : (s.endBoundary).resetPin = s.resetPin := rfl
@[simp] theorem endBoundary_rl (s : State) : (s.endBoundary).rl = s.rl := rfl
@[simp] theorem endBoundary_ol (s : State) : (s.endBoundary).ol = s.ol := rfl
@[simp] theorem endBoundary_trunk (s : State) : (s.endBoundary).trunk = s.trunk := rfl
@[simp] theorem endBoundary_tb (s : State) : (s.endBoundary).tb = s.tb := rfl
@[simp] theorem endBoundary_plan (s : State) : (s.endBoundary).plan = s.plan := rfl
@[simp] theorem endBoundary_place (s : State) : (s.endBoundary).place = s.place := rfl
@[simp] theorem endBoundary_dist (s : State) : (s.endBoundary).dist = s.dist := rfl
@[simp] theorem endBoundary_comb (s : State) : (s.endBoundary).comb = s.comb := rfl
@[simp] theorem endBoundary_meas (s : State) : (s.endBoundary).meas = s.meas := rfl
@[simp] theorem endBoundary_bal (s : State) : (s.endBoundary).bal = s.bal := rfl
@[simp] theorem endBoundary_mode (s : State) : (s.endBoundary).mode = s.mode := rfl
@[simp] theorem endBoundary_sup (s : State) : (s.endBoundary).sup = s.sup := rfl
@[simp] theorem endBoundary_mgmt (s : State) : (s.endBoundary).mgmt = s.mgmt := rfl
@[simp] theorem endBoundary_out (s : State) : (s.endBoundary).out = s.out := rfl

/-! ### Updates that choose their record -/

theorem modTerm_eq (s : State) (l : TermLinkId) (f : TermLink → TermLink) :
    s.modTerm l f = { s with ol := (s.modTerm l f).ol, trunk := (s.modTerm l f).trunk } := by cases l <;> rfl

theorem setBusy_eq (s : State) (ch : Channel) (p : Option InProgress) :
    s.setBusy ch p = { s with mgmt := (s.setBusy ch p).mgmt } := by cases ch <;> rfl

theorem respond_eq (s : State) (x : Response) : s.respond x = { s with mgmt := (s.respond x).mgmt } := by
  unfold respond; split <;> rfl

theorem complete_eq (s : State) (ch : Channel) (x : Result) (b : Bool) (d : List Byte) :
    s.complete ch x b d = { s with mgmt := (s.complete ch x b d).mgmt } := by
  unfold complete
  split
  · rfl
  · split
    · rfl
    · rw [respond_eq, setBusy_eq]

theorem hand_eq (s : State) (k : Key) (a b : Bool) : s.hand k a b = { s with sup := (s.hand k a b).sup } := by
  unfold hand
  split
  · rfl
  · split <;> rfl

theorem setTimebase_eq (s : State) (t : TimebaseState) :
    s.setTimebase t = { s with tb := { s.tb with state := t }, sup := (s.setTimebase t).sup } := by
  unfold setTimebase; rw [hand_eq]

/-- Entering LOCKED writes the Timebase's state and the alarm list. -/
@[simp] theorem lock_tb (s : State) : s.lock.tb = { s.tb with state := .locked } := rfl
@[simp] theorem lock_sup (s : State) : s.lock.sup = s.sup.clear s.relockCount ⟨.timingHoldover, .device⟩ := rfl
theorem lock_eq (s : State) : s.lock = { s with tb := s.lock.tb, sup := s.lock.sup } := rfl

/-- Within a boundary that is being taken, the superframe that begins is the one that the count names. -/
theorem relockCount_of_boundary (s : State) (h : s.boundary.isSome = true) : s.relockCount = s.tb.count := by
  obtain ⟨b, hb⟩ := Option.isSome_iff_exists.mp h
  unfold relockCount; cases s.tb.lf <;> simp [hb]

/-- A relock taken ahead of its boundary belongs to the superframe that is still to begin. -/
theorem relockCount_ahead (s : State) (lf : Nat) (h : s.boundary = none) (hl : s.tb.lf = some lf) (hp : 0 < lf) :
    s.relockCount = s.tb.count + 1 := by simp [relockCount, h, hl, hp]

/-- With no link frame after link frame 0 in progress, a relock belongs to the superframe that has begun. -/
theorem relockCount_begun (s : State) (h : s.tb.lf = none ∨ s.tb.lf = some 0) : s.relockCount = s.tb.count := by
  rcases h with h | h <;> simp [relockCount, h]

/-! ## What an update writes -/

@[simp] theorem modRl_same (s : State) (r : RemoteId) (f : RemoteLink → RemoteLink) : (s.modRl r f).rl[r] = f s.rl[r] := by
  simp [modRl]

theorem modRl_other (s : State) {r q : RemoteId} (f : RemoteLink → RemoteLink) (h : q ≠ r) :
    (s.modRl r f).rl[q] = s.rl[q] := by
  have : (r : Nat) ≠ q := fun e => h (Fin.ext e.symm)
  simp [modRl, Vector.getElem_set_ne, this]

@[simp] theorem modPlan_same (s : State) (o : OpId) (f : OperatorPlan → OperatorPlan) :
    (s.modPlan o f).opPlan o = f (s.opPlan o) := by simp [modPlan, opPlan]

theorem modPlan_other (s : State) {o p : OpId} (f : OperatorPlan → OperatorPlan) (h : p ≠ o) :
    (s.modPlan o f).opPlan p = s.opPlan p := by
  have : (o : Nat) ≠ p := fun e => h (Fin.ext e.symm)
  simp [modPlan, opPlan, this]

@[simp] theorem modPlan_carriers (s : State) (o : OpId) (f : OperatorPlan → OperatorPlan) :
    (s.modPlan o f).plan.carriers = s.plan.carriers := rfl

@[simp] theorem modCarrier_plans (s : State) (c : CarrierId) (f : CarrierRecord → CarrierRecord) :
    (s.modCarrier c f).plan.plans = s.plan.plans := rfl

@[simp] theorem modCarrier_same (s : State) (c : CarrierId) (f : CarrierRecord → CarrierRecord) :
    (s.modCarrier c f).carrier c = f (s.carrier c) := by simp [modCarrier, carrier]

theorem modCarrier_other (s : State) {c d : CarrierId} (f : CarrierRecord → CarrierRecord) (h : d ≠ c) :
    (s.modCarrier c f).carrier d = s.carrier d := by
  have : (c : Nat) ≠ d := fun e => h (Fin.ext e.symm)
  simp [modCarrier, carrier, this]

@[simp] theorem modBal_same (s : State) (o : OpId) (f : BalancerOp → BalancerOp) : (s.modBal o f).bal[o] = f s.bal[o] := by
  simp [modBal]

theorem modBal_other (s : State) {o p : OpId} (f : BalancerOp → BalancerOp) (h : p ≠ o) :
    (s.modBal o f).bal[p] = s.bal[p] := by
  have : (o : Nat) ≠ p := fun e => h (Fin.ext e.symm)
  simp [modBal, this]

@[simp] theorem setRecord_same (s : State) (r : RemoteId) (p : PlacementRecord) : (s.setRecord r p).record r = p := by
  simp [setRecord, record]

theorem setRecord_other (s : State) {r q : RemoteId} (p : PlacementRecord) (h : q ≠ r) :
    (s.setRecord r p).record q = s.record q := by
  have : (r : Nat) ≠ q := fun e => h (Fin.ext e.symm)
  simp [setRecord, record, this]

@[simp] theorem setGate_same (s : State) (r : RemoteId) (c : CarrierId) (g : Gate) : (s.setGate r c g).gate r c = g := by
  simp [setGate, gate]

/-- An index of a table gives the value at that index. -/
@[simp] theorem getElem_tab {n : Nat} {α : Type} (f : Fin n → α) (i : Fin n) : (tab f)[i] = f i := by simp [tab]

end Sys2Proof.Machine.State
end

