-- ==== Sys2Proof/Laws/Frames.lean ====
section
/-! SUPPORT. What the shared operations leave alone. `restOf…` is a state with the parts that a kind of operation may
change blanked out: an operation that keeps it changes nothing else, and every other field follows by `congrArg`. -/

namespace Sys2Proof.Machine.State

/-- Everything but the placement records and the alarm list. -/
def restOfPlacement (s : State) : State := { s with place := reset.place, sup := reset.sup }

/-- Everything but the remote links, gates and sums, placement records and the alarm list. -/
def restOfLinks (s : State) : State := { s with rl := reset.rl, comb := reset.comb, place := reset.place, sup := reset.sup }

/-- Everything but the remote links' counters, gates and sums, counts of blocks and the owed steps. -/
def restOfBlocks (s : State) : State := { s with rl := reset.rl, comb := reset.comb, meas := reset.meas, due := [] }

/-- Everything but the channels and the return queue. -/
def restOfChannels (s : State) : State := { s with mgmt := reset.mgmt }

/-- A fold keeps what each of its steps keeps. -/
theorem foldl_keeps {α β : Type} (p : State → β) (f : State → α → State) (h : ∀ s x, p (f s x) = p s) (l : List α)
    (s : State) : p (l.foldl f s) = p s := by
  induction l generalizing s with
  | nil => rfl
  | cons x xs ih => exact (ih _).trans (h s x)

/-! ## The alarm list -/

@[simp] theorem raise_restOfPlacement (s : State) (k : Key) : (s.raise k).restOfPlacement = s.restOfPlacement := rfl
@[simp] theorem clear_restOfPlacement (s : State) (k : Key) : (s.clear k).restOfPlacement = s.restOfPlacement := rfl
@[simp] theorem hand_restOfPlacement (s : State) (k : Key) (a b : Bool) :
    (s.hand k a b).restOfPlacement = s.restOfPlacement := by rw [hand_eq]; rfl

/-- What keeps all but placement keeps all but links. -/
theorem restOfLinks_of_placement {s t : State} (h : t.restOfPlacement = s.restOfPlacement) :
    t.restOfLinks = s.restOfLinks := by
  have : ∀ u : State, u.restOfLinks = { u.restOfPlacement with rl := reset.rl, comb := reset.comb } := fun _ => rfl
  rw [this, this, h]

/-! ## Placement -/

@[simp] theorem recompute_restOfPlacement (s : State) (r : RemoteId) :
    (s.recompute r).restOfPlacement = s.restOfPlacement := rfl

@[simp] theorem recomputeAll_restOfPlacement (s : State) : s.recomputeAll.restOfPlacement = s.restOfPlacement :=
  foldl_keeps _ _ (fun s r => recompute_restOfPlacement s r) _ _

@[simp] theorem recomputeCarrier_restOfPlacement (s : State) (c : CarrierId) :
    (s.recomputeCarrier c).restOfPlacement = s.restOfPlacement :=
  foldl_keeps _ _ (fun s r => recompute_restOfPlacement s r) _ _

theorem place_restOfPlacement (s : State) (p : Placement) : { s with place := p }.restOfPlacement = s.restOfPlacement := rfl

@[simp] theorem settleDark_restOfPlacement (s : State) (x : SectorId) :
    (s.settleDark x).restOfPlacement = s.restOfPlacement := by
  unfold settleDark; rw [place_restOfPlacement]; exact hand_restOfPlacement ..

@[simp] theorem settleShed_restOfPlacement (s : State) (r : RemoteId) :
    (s.settleShed r).restOfPlacement = s.restOfPlacement := by
  unfold settleShed; rw [place_restOfPlacement]; exact hand_restOfPlacement ..

@[simp] theorem settleOverload_restOfPlacement (s : State) (r : RemoteId) :
    (s.settleOverload r).restOfPlacement = s.restOfPlacement := by
  unfold settleOverload; rw [place_restOfPlacement]; exact hand_restOfPlacement ..

@[simp] theorem settleConditions_restOfPlacement (s : State) : s.settleConditions.restOfPlacement = s.restOfPlacement := by
  unfold settleConditions
  rw [foldl_keeps _ _ settleOverload_restOfPlacement, foldl_keeps _ _ settleShed_restOfPlacement,
    foldl_keeps _ _ settleDark_restOfPlacement]

@[simp] theorem placementChanged_restOfPlacement (s : State) : s.placementChanged.restOfPlacement = s.restOfPlacement := by
  unfold placementChanged; split <;> simp

@[simp] theorem setSleep_restOfPlacement (s : State) (r : RemoteId) :
    (s.setSleep r).restOfPlacement = s.restOfPlacement := rfl

/-! ## Remote links -/

@[simp] theorem modRl_restOfLinks (s : State) (r : RemoteId) (f : RemoteLink → RemoteLink) :
    (s.modRl r f).restOfLinks = s.restOfLinks := rfl
@[simp] theorem raise_restOfLinks (s : State) (k : Key) : (s.raise k).restOfLinks = s.restOfLinks := rfl
@[simp] theorem clear_restOfLinks (s : State) (k : Key) : (s.clear k).restOfLinks = s.restOfLinks := rfl
@[simp] theorem closeGates_restOfLinks (s : State) (r : RemoteId) : (s.closeGates r).restOfLinks = s.restOfLinks := rfl
@[simp] theorem setGate_restOfLinks (s : State) (r : RemoteId) (c : CarrierId) (g : Gate) :
    (s.setGate r c g).restOfLinks = s.restOfLinks := rfl
@[simp] theorem withdraw_restOfLinks (s : State) (r : RemoteId) : (s.withdraw r).restOfLinks = s.restOfLinks := rfl
@[simp] theorem recompute_restOfLinks (s : State) (r : RemoteId) : (s.recompute r).restOfLinks = s.restOfLinks := rfl
@[simp] theorem placementChanged_restOfLinks (s : State) : s.placementChanged.restOfLinks = s.restOfLinks :=
  restOfLinks_of_placement (placementChanged_restOfPlacement s)

@[simp] theorem clearFar_restOfLinks (s : State) (r : RemoteId) : (s.clearFar r).restOfLinks = s.restOfLinks :=
  foldl_keeps restOfLinks (fun s k => s.clear ⟨k, .remote r⟩) (fun _ _ => rfl) _ _

@[simp] theorem leaveUp_restOfLinks (s : State) (r : RemoteId) (t : RemoteState) :
    (s.leaveUp r t).restOfLinks = s.restOfLinks := by
  unfold leaveUp; simp

@[simp] theorem moveLink_restOfLinks (s : State) (r : RemoteId) (t : RemoteState) :
    (s.moveLink r t).restOfLinks = s.restOfLinks := by
  unfold moveLink; split <;> simp

/-- A link restart, or the entry into ISOLATED, changes the links, gates, sums, placement and alarm list alone. -/
@[simp] theorem restartInto_restOfLinks (s : State) (r : RemoteId) (t : RemoteState) :
    (s.restartInto r t).restOfLinks = s.restOfLinks := by
  unfold restartInto; simp

@[simp] theorem restart_restOfLinks (s : State) (r : RemoteId) : (s.restart r).restOfLinks = s.restOfLinks :=
  restartInto_restOfLinks s r .seek

@[simp] theorem disable_restOfLinks (s : State) (r : RemoteId) : (s.disable r).restOfLinks = s.restOfLinks := by
  unfold disable; simp

@[simp] theorem beginLost_restOfLinks (s : State) (r : RemoteId) : (s.beginLost r).restOfLinks = s.restOfLinks := rfl
@[simp] theorem endLost_restOfLinks (s : State) (r : RemoteId) : (s.endLost r).restOfLinks = s.restOfLinks := rfl
@[simp] theorem failNegotiation_restOfLinks (s : State) (r : RemoteId) :
    (s.failNegotiation r).restOfLinks = s.restOfLinks := by unfold failNegotiation; simp

@[simp] theorem seekRunComplete_restOfLinks (s : State) (r : RemoteId) :
    (s.seekRunComplete r).restOfLinks = s.restOfLinks := by unfold seekRunComplete; split <;> simp
@[simp] theorem farFlagChange_restOfLinks (s : State) (r : RemoteId) (i : Fin 4) :
    (s.farFlagChange r i).restOfLinks = s.restOfLinks := by
  unfold farFlagChange
  dsimp only
  split
  · split <;> simp
  · rfl
@[simp] theorem echoFailure_restOfLinks (s : State) (r : RemoteId) : (s.echoFailure r).restOfLinks = s.restOfLinks := by
  unfold echoFailure; split <;> simp
@[simp] theorem negotiationTimeout_restOfLinks (s : State) (r : RemoteId) :
    (s.negotiationTimeout r).restOfLinks = s.restOfLinks := by unfold negotiationTimeout; split <;> simp
@[simp] theorem negotiateAlignmentLoss_restOfLinks (s : State) (r : RemoteId) :
    (s.negotiateAlignmentLoss r).restOfLinks = s.restOfLinks := by unfold negotiateAlignmentLoss; split <;> simp
@[simp] theorem linkEntersUp_restOfLinks (s : State) (r : RemoteId) : (s.linkEntersUp r).restOfLinks = s.restOfLinks := by
  unfold linkEntersUp; split <;> simp
@[simp] theorem linkLostEntry_restOfLinks (s : State) (r : RemoteId) :
    (s.linkLostEntry r).restOfLinks = s.restOfLinks := by unfold linkLostEntry; split <;> simp
@[simp] theorem lostHoldEnd_restOfLinks (s : State) (r : RemoteId) : (s.lostHoldEnd r).restOfLinks = s.restOfLinks := by
  unfold lostHoldEnd; split <;> simp
@[simp] theorem linkSettingsTakeEffect_restOfLinks (s : State) (r : RemoteId) :
    (s.linkSettingsTakeEffect r).restOfLinks = s.restOfLinks := by
  unfold linkSettingsTakeEffect; dsimp only; split <;> simp

/-! ## Blocks -/

@[simp] theorem formReady_restOfBlocks (s : State) : s.formReady.restOfBlocks = s.restOfBlocks := rfl
@[simp] theorem setGate_restOfBlocks (s : State) (r : RemoteId) (c : CarrierId) (g : Gate) :
    (s.setGate r c g).restOfBlocks = s.restOfBlocks := rfl
@[simp] theorem modRl_restOfBlocks (s : State) (r : RemoteId) (f : RemoteLink → RemoteLink) :
    (s.modRl r f).restOfBlocks = s.restOfBlocks := rfl
@[simp] theorem owe_restOfBlocks (s : State) (xs : List Instr) : (s.owe xs).restOfBlocks = s.restOfBlocks := rfl

@[simp] theorem measureBlock_restOfBlocks (s : State) (q : UplinkSum) (r : RemoteId) (n : Nat) :
    (s.measureBlock q r n).restOfBlocks = s.restOfBlocks := by
  unfold measureBlock; dsimp only; split <;> rfl

@[simp] theorem takeExpiry_restOfBlocks (s : State) (r : RemoteId) (c : CarrierId) :
    (s.takeExpiry r c).restOfBlocks = s.restOfBlocks := by
  unfold takeExpiry; split <;> rfl

/-- Settling a block changes the link's missing-block counter, the gate, the sums, the counts of blocks and the owed
expiries alone. -/
@[simp] theorem settleBlock_restOfBlocks (s : State) (n : Nat) (c : CarrierId) (r : RemoteId) (b : Option (List IQ)) :
    (s.settleBlock n c r b).restOfBlocks = s.restOfBlocks := by
  have comb : ∀ (t : State) (k : Combiner), { t with comb := k }.restOfBlocks = t.restOfBlocks := fun _ _ => rfl
  unfold settleBlock
  split
  · rfl
  · split
    · rfl
    · dsimp only
      rw [formReady_restOfBlocks, comb]
      cases b <;> dsimp only <;> split <;> simp

@[simp] theorem settleMissing_restOfBlocks (s : State) (l : List (Nat × CarrierId × RemoteId)) :
    (s.settleMissing l).restOfBlocks = s.restOfBlocks := by
  unfold settleMissing
  refine foldl_keeps _ _ (fun s x => ?_) _ _
  obtain ⟨n, c, r⟩ := x
  exact settleBlock_restOfBlocks ..

@[simp] theorem deadline_restOfBlocks (s : State) (n : Nat) : (s.deadline n).restOfBlocks = s.restOfBlocks :=
  settleMissing_restOfBlocks _ _

@[simp] theorem settleUpTo_restOfBlocks (s : State) (r : RemoteId) (n : Nat) :
    (s.settleUpTo r n).restOfBlocks = s.restOfBlocks := settleMissing_restOfBlocks _ _

@[simp] theorem takeBlocks_restOfBlocks (s : State) (r : RemoteId) (n : Nat) (p : List Byte) :
    (s.takeBlocks r n p).restOfBlocks = s.restOfBlocks := by
  unfold takeBlocks
  refine foldl_keeps _ _ (fun s q => ?_) _ _
  split <;> simp

/-! ## Channels -/

@[simp] theorem respond_restOfChannels (s : State) (x : Response) : (s.respond x).restOfChannels = s.restOfChannels := by
  rw [respond_eq]; rfl
@[simp] theorem setBusy_restOfChannels (s : State) (ch : Channel) (p : Option InProgress) :
    (s.setBusy ch p).restOfChannels = s.restOfChannels := by rw [setBusy_eq]; rfl
@[simp] theorem complete_restOfChannels (s : State) (ch : Channel) (x : Result) (b : Bool) (d : List Byte) :
    (s.complete ch x b d).restOfChannels = s.restOfChannels := by rw [complete_eq]; rfl

end Sys2Proof.Machine.State

namespace Sys2Proof.Machine.RemoteLink

/-! ## The end of a superframe in a link record (R2, R26) -/

/-- The end of a superframe changes the successor of the last good frame alone. -/
theorem superframeEnds_rest (l : RemoteLink) (n : Nat) : { l.superframeEnds n with lastGood := l.lastGood } = l := rfl
@[simp] theorem superframeEnds_state (l : RemoteLink) (n : Nat) : (l.superframeEnds n).state = l.state := rfl
@[simp] theorem superframeEnds_phase (l : RemoteLink) (n : Nat) : (l.superframeEnds n).phase = l.phase := rfl
@[simp] theorem superframeEnds_format (l : RemoteLink) (n : Nat) : (l.superframeEnds n).format = l.format := rfl
@[simp] theorem superframeEnds_chosen (l : RemoteLink) (n : Nat) : (l.superframeEnds n).chosen = l.chosen := rfl
@[simp] theorem superframeEnds_negTimer (l : RemoteLink) (n : Nat) : (l.superframeEnds n).negTimer = l.negTimer := rfl
@[simp] theorem superframeEnds_holdTimer (l : RemoteLink) (n : Nat) : (l.superframeEnds n).holdTimer = l.holdTimer := rfl

/-- With a last good frame, a word follows when its number is that frame's successor, or when it opens a run in SEEK. -/
theorem followsRemote_iff {l : RemoteLink} {w : Word} {g : GoodFrame} (h : l.lastGood = some g) :
    followsRemote l w = true ↔ (l.state = .seek ∧ l.seekRun = 0) ∨ w.lf = g.successor := by simp [followsRemote, h]

end Sys2Proof.Machine.RemoteLink
end

