-- ==== Sys2Proof/Laws/Agenda.lean ====
section
/-! SUPPORT. When the hub owes nothing, and when an owed step is next: what a command then does. -/

namespace Sys2Proof.Machine.State

/-- No step of a phase is owed: the phase takes nothing. -/
theorem takePhase_of_none (p n : Nat) (s : State) (h : ∀ y ∈ s.due, phase y ≠ p) : s.takePhase p n = s := by
  cases n with
  | zero => rfl
  | succ n =>
    have : s.due.find? (fun x => phase x = p) = none := by
      simpa [List.find?_eq_none] using h
    simp [takePhase, this]

/-- With no boundary being taken, or one whose placement is settled, settling changes nothing. -/
theorem settleBoundary_of_settled (s : State) (h : ∀ b, s.boundary = some b → b.settled = true) :
    s.settleBoundary = s := by
  unfold settleBoundary
  split
  · rfl
  · next b hb => simp [h b hb]

/-- Draining below a phase changes nothing when every owed step is of that phase or later. -/
theorem drainTo_of_later (n : Nat) (s : State) (h : ∀ y ∈ s.due, n ≤ phase y)
    (hb : placementPhase < n → ∀ b, s.boundary = some b → b.settled = true) : s.drainTo n = s := by
  induction n with
  | zero => rfl
  | succ n ih =>
    have e : s.drainTo n = s := ih (fun y hy => by have := h y hy; omega) (fun hn => hb (by omega))
    have t : s.takePhase n s.due.length = s :=
      takePhase_of_none n _ s fun y hy => by have := h y hy; omega
    simp only [drainTo, e, finishPhase, t]
    split
    · next hp => exact settleBoundary_of_settled s (hb (by omega))
    · rfl

/-- A quiet hub owes nothing: draining it changes nothing. -/
theorem drain_of_quiet (s : State) (h : s.Quiet) : s.drain = s := by
  obtain ⟨_, hd, hb⟩ := h
  have e : s.drainTo requestPhase = s := drainTo_of_later _ _ (by simp [hd]) (by simp [hb])
  have b : s.endBoundary = s := by cases s; simp_all [endBoundary]
  have t : s.takePhase requestPhase s.due.length = s := takePhase_of_none _ _ s (by simp [hd])
  rw [drain, e, b, finishPhase, t]; rfl

/-- A frame that starts at the boundary being taken owes the relock of a Timebase in RELOCKING, or changes nothing. -/
theorem startAtBoundary_cases (s : State) (l : TermLinkId) (f : TermFrame) :
    s.startAtBoundary l f = s ∨ (f.atBoundary = true ∧ s.boundary.isSome = true ∧ s.isReference l = true ∧
      s.tb.state = .relocking ∧ s.startAtBoundary l f = s.owe [.timebaseRelock true]) := by
  unfold startAtBoundary referenceStart
  grind

/-- A quiet hub takes no boundary that a frame could start at. -/
@[simp] theorem startAtBoundary_of_quiet (s : State) (l : TermLinkId) (f : TermFrame) (h : s.Quiet) :
    s.startAtBoundary l f = s := by simp [startAtBoundary, h.2.2]

/-- A step that is next is taken at once. -/
theorem owedStep_of_next (s : State) (x : Instr) (h : s.Next x) : s.owedStep x = effect x (s.dropDue x) := by
  obtain ⟨_, hm, hl, hb⟩ := h
  have e : s.drainTo (phase x) = s := drainTo_of_later _ _ hl hb
  have c : s.due.contains x = true := by simpa using hm
  simp only [owedStep, c, if_true, e]

/-- A step that is not owed does not happen. -/
theorem owedStep_of_not_owed (s : State) (x : Instr) (h : x ∉ s.due) : s.owedStep x = s := by
  simp [owedStep, h]

/-- On a quiet hub a request is taken at once. -/
theorem requestStep_of_quiet (s : State) (x : Instr) (h : s.Quiet) : s.requestStep x = effect x s := by
  obtain ⟨_, hd, hb⟩ := h
  have e : s.drainTo requestPhase = s := drainTo_of_later _ _ (by simp [hd]) (by simp [hb])
  have b : s.endBoundary = s := by cases s; simp_all [endBoundary]
  have f : s.finishPhase requestPhase = s := by
    have : s.takePhase requestPhase s.due.length = s := takePhase_of_none _ _ s (by simp [hd])
    rw [finishPhase, this]; rfl
  simp [requestStep, e, b, f, hd]

/-! ## Awake -/

theorem awake_next (s : State) (f : State → State) (h : s.resetPin = false) : awake s f = .next (f s) := by
  simp [awake, h]

theorem awake_held (s : State) (f : State → State) (h : s.resetPin = true) : awake s f = .next s := by
  simp [awake, h]

/-! ## Admission (R179) -/

/-- On a ready channel whose scope test takes the command, a request is decided by the command's own rule. -/
theorem request_of_ready (s : State) (c : Channel) (code : Byte) (scope : Channel → List Byte → State → ScopeVerdict)
    (body : Channel → List Byte → State → Answer) (tag : Byte) (ps : List Byte) (h : s.Ready c)
    (hs : scope c ps s = .taken) : s.request code scope body c.code tag ps = carryOut c tag code (body c ps s) := by
  obtain ⟨_, hf, _, hb, hbar⟩ := h
  have hc : channelOfCode c.code = some c := by cases c <;> rfl
  have hn : s.mgmt.free ≠ 0 := by omega
  have hbar' : ¬ (c = .service ∧ s.mgmt.barred) := by
    rintro ⟨e, hb'⟩; simp [hbar e] at hb'
  simp only [request, if_neg hn, hc, if_neg hbar', hb, Option.isSome_none, Bool.false_eq_true, false_and, if_false, hs]

/-- Everything that the admission of a request can do (R179): it is dropped and counted, answered by one of the tests, or
decided by the command's own rule on a channel that is IDLE, ABORT apart. -/
theorem request_cases (s : State) (code : Byte) (scope : Channel → List Byte → State → ScopeVerdict)
    (body : Channel → List Byte → State → Answer) (ch tag : Byte) (ps : List Byte) :
    (s.mgmt.free = 0 ∧ s.request code scope body ch tag ps =
        { s with mgmt := { s.mgmt with dropped := satInc max32 s.mgmt.dropped } }) ∨
      (0 < s.mgmt.free ∧ ∃ x, s.request code scope body ch tag ps = s.respond ⟨ch, tag, code, x, false, [], false⟩) ∨
      (0 < s.mgmt.free ∧ ∃ c, channelOfCode ch = some c ∧ scope c ps s = .taken ∧
        (s.mgmt.busy c = none ∨ code = 0x7F) ∧
        s.request code scope body ch tag ps = carryOut c tag code (body c ps s)) := by
  unfold request
  by_cases hf : s.mgmt.free = 0
  · exact .inl ⟨hf, by simp [hf]⟩
  · refine .inr ?_
    have hp : 0 < s.mgmt.free := by omega
    simp only [hf, if_false]
    cases hc : channelOfCode ch with
    | none => exact .inl ⟨hp, _, rfl⟩
    | some c =>
      dsimp only
      split
      · exact .inl ⟨hp, _, rfl⟩
      · split
        · exact .inl ⟨hp, _, rfl⟩
        · next hb =>
          split
          · exact .inl ⟨hp, _, rfl⟩
          · exact .inl ⟨hp, _, rfl⟩
          · next ht =>
            refine .inr ⟨hp, c, rfl, ht, ?_, rfl⟩
            cases hq : s.mgmt.busy c with
            | none => exact .inl rfl
            | some p => exact .inr (by simpa [hq] using hb)

/-- A response on an UP trunk becomes due. -/
theorem respond_up (s : State) (x : Response) (h : s.trunk.state = .up) : s.respond x = s.answering x := by
  simp [respond, answering, h]

/-- A response while the trunk is not UP is discarded (R191). -/
theorem respond_down (s : State) (x : Response) (h : s.trunk.state ≠ .up) : s.respond x = s := by
  simp [respond, h]

end Sys2Proof.Machine.State
end

