-- ==== Sys2Proof/Laws/Alarms.lean ====
section
/-! SUPPORT. The alarm list: what a raise without an entry can do. -/

namespace Sys2Proof.Machine.Supervision

/-- A raise that finds no entry is appended with room in the list, is appended after an eviction, or sets the overflow flag
where no entry is CLEARED. -/
theorem raiseNew_cases (p : Supervision) (now : Count) (key : Key) :
    (p.raiseNew now key = (p.endRace now key).append now key ∧ p.alarms.length < alarmCapacity) ∨
    (∃ e ∈ p.alarms, e.active = false ∧ p.raiseNew now key =
      (countKind { p.endRace now key with alarms := p.alarms.eraseP fun e => !e.active } e.key.kind).append now key) ∨
    (p.raiseNew now key = (p.endRace now key).setOverflow ∧ ∀ e ∈ p.alarms, e.active = true) := by
  unfold raiseNew
  by_cases room : p.needsRoom now key = true
  · cases found : p.alarms.find? fun e => !e.active with
    | none =>
      refine .inr (.inr ⟨by simp [room, evict, endRace, found], ?_⟩)
      simpa using found
    | some e =>
      refine .inr (.inl ⟨e, List.mem_of_find?_eq_some found, ?_, by simp [room, evict, endRace, found]⟩)
      simpa using List.find?_some found
  · refine .inl ⟨by simp [room], ?_⟩
    simp only [needsRoom, Bool.or_eq_true, decide_eq_true_eq, not_or] at room
    omega

/-- Without a race a raise must make room in a full list and in no other (R158, R159). -/
theorem needsRoom_of_not_raced {p : Supervision} {now : Count} {key : Key} (h : p.raced now key = false) :
    p.needsRoom now key = decide (alarmCapacity ≤ p.alarms.length) := by simp [needsRoom, h]

end Sys2Proof.Machine.Supervision
end

