-- ==== Sys2Proof/Laws/PerInstr.lean ====
section
/-! SUPPORT. The per-instruction family Coded: a well-formed request is the one that its command code names (section
10.4). -/

namespace Sys2Proof.Laws.Coded

/-- A well-formed request's code, channel byte, tag and parameters decode to that request. -/
def Statement (i : Instr) : Prop :=
  ∀ code ch tag ps, i.request = some (code, ch, tag, ps) → i.WellFormed = true → decodeRequest code ch tag ps = i

/-- A code that names no command decodes to UNKNOWN_COMMAND. -/
theorem unknown_decodes (ch tag code : Byte) (params : List Byte) : Statement (.unknownCommand ch tag code params) := by
  rintro _ _ _ _ ⟨⟩ h
  simp only [Instr.WellFormed, namesCommand, Bool.and_eq_true] at h
  unfold decodeRequest at h ⊢
  split at h <;> simp_all

theorem resetPinAssert : Statement .resetPinAssert := nofun
theorem resetPinRelease : Statement .resetPinRelease := nofun
theorem linkFrameStart : Statement .linkFrameStart := nofun
theorem superframeBoundary : Statement .superframeBoundary := nofun
theorem levelFieldTakesEffect (c : CarrierId) : Statement (.levelFieldTakesEffect c) := nofun
theorem linkSettingsTakeEffect (r : RemoteId) : Statement (.linkSettingsTakeEffect r) := nofun
theorem remoteFrameReceived (r : RemoteId) (f : RemoteFrame) : Statement (.remoteFrameReceived r f) := nofun
theorem missingFramePeriod (l : LinkId) : Statement (.missingFramePeriod l) := nofun
theorem seekRunComplete (r : RemoteId) : Statement (.seekRunComplete r) := nofun
theorem farFlagChange (r : RemoteId) (flag : Fin 4) : Statement (.farFlagChange r flag) := nofun
theorem echoFailure (r : RemoteId) : Statement (.echoFailure r) := nofun
theorem negotiationTimeout (r : RemoteId) : Statement (.negotiationTimeout r) := nofun
theorem negotiateAlignmentLoss (r : RemoteId) : Statement (.negotiateAlignmentLoss r) := nofun
theorem linkEntersUp (r : RemoteId) : Statement (.linkEntersUp r) := nofun
theorem linkLostEntry (r : RemoteId) : Statement (.linkLostEntry r) := nofun
theorem lostHoldEnd (r : RemoteId) : Statement (.lostHoldEnd r) := nofun
theorem operatorFrameReceived (o : OpId) (f : TermFrame) : Statement (.operatorFrameReceived o f) := nofun
theorem trunkFrameReceived (f : TermFrame) : Statement (.trunkFrameReceived f) := nofun
theorem linkSeekToUp (l : TermLinkId) : Statement (.linkSeekToUp l) := nofun
theorem linkUpToLost (l : TermLinkId) : Statement (.linkUpToLost l) := nofun
theorem linkLostHoldEnd (l : TermLinkId) : Statement (.linkLostHoldEnd l) := nofun
theorem timebaseRelock (atBoundary : Bool) : Statement (.timebaseRelock atBoundary) := nofun
theorem gateHoldExpiry (r : RemoteId) (c : CarrierId) : Statement (.gateHoldExpiry r c) := nofun
theorem blockDeadline : Statement .blockDeadline := nofun
theorem windowEnd : Statement .windowEnd := nofun
theorem guardStepDown (r : RemoteId) : Statement (.guardStepDown r) := nofun
theorem autoQuietEntry : Statement .autoQuietEntry := nofun
theorem switchover (o : OpId) : Statement (.switchover o) := nofun
theorem hubModeDecision : Statement .hubModeDecision := nofun
theorem pendingIsolationApply : Statement .pendingIsolationApply := nofun
theorem isolationTimerExpiry (r : RemoteId) : Statement (.isolationTimerExpiry r) := nofun
theorem warmResetApplied : Statement .warmResetApplied := nofun
theorem coldResetApplied : Statement .coldResetApplied := nofun
theorem alertPlacement : Statement .alertPlacement := nofun
theorem accessSet (ch : Byte) (tag : Byte) (params : List Byte) : Statement (.accessSet ch tag params) := by rintro _ _ _ _ ⟨⟩ _; rfl
theorem release (ch : Byte) (tag : Byte) (params : List Byte) : Statement (.release ch tag params) := by rintro _ _ _ _ ⟨⟩ _; rfl
theorem linkSet (ch : Byte) (tag : Byte) (params : List Byte) : Statement (.linkSet ch tag params) := by rintro _ _ _ _ ⟨⟩ _; rfl
theorem linkRestart (ch : Byte) (tag : Byte) (params : List Byte) : Statement (.linkRestart ch tag params) := by rintro _ _ _ _ ⟨⟩ _; rfl
theorem timingSet (ch : Byte) (tag : Byte) (params : List Byte) : Statement (.timingSet ch tag params) := by rintro _ _ _ _ ⟨⟩ _; rfl
theorem windowSet (ch : Byte) (tag : Byte) (params : List Byte) : Statement (.windowSet ch tag params) := by rintro _ _ _ _ ⟨⟩ _; rfl
theorem quietSet (ch : Byte) (tag : Byte) (params : List Byte) : Statement (.quietSet ch tag params) := by rintro _ _ _ _ ⟨⟩ _; rfl
theorem modeSet (ch : Byte) (tag : Byte) (params : List Byte) : Statement (.modeSet ch tag params) := by rintro _ _ _ _ ⟨⟩ _; rfl
theorem isolate (ch : Byte) (tag : Byte) (params : List Byte) : Statement (.isolate ch tag params) := by rintro _ _ _ _ ⟨⟩ _; rfl
theorem restore (ch : Byte) (tag : Byte) (params : List Byte) : Statement (.restore ch tag params) := by rintro _ _ _ _ ⟨⟩ _; rfl
theorem alertSet (ch : Byte) (tag : Byte) (params : List Byte) : Statement (.alertSet ch tag params) := by rintro _ _ _ _ ⟨⟩ _; rfl
theorem alarmAck (ch : Byte) (tag : Byte) (params : List Byte) : Statement (.alarmAck ch tag params) := by rintro _ _ _ _ ⟨⟩ _; rfl
theorem warm (ch : Byte) (tag : Byte) (params : List Byte) : Statement (.warm ch tag params) := by rintro _ _ _ _ ⟨⟩ _; rfl
theorem cold (ch : Byte) (tag : Byte) (params : List Byte) : Statement (.cold ch tag params) := by rintro _ _ _ _ ⟨⟩ _; rfl
theorem carrierSet (ch : Byte) (tag : Byte) (params : List Byte) : Statement (.carrierSet ch tag params) := by rintro _ _ _ _ ⟨⟩ _; rfl
theorem carrierClear (ch : Byte) (tag : Byte) (params : List Byte) : Statement (.carrierClear ch tag params) := by rintro _ _ _ _ ⟨⟩ _; rfl
theorem planSector (ch : Byte) (tag : Byte) (params : List Byte) : Statement (.planSector ch tag params) := by rintro _ _ _ _ ⟨⟩ _; rfl
theorem planZone (ch : Byte) (tag : Byte) (params : List Byte) : Statement (.planZone ch tag params) := by rintro _ _ _ _ ⟨⟩ _; rfl
theorem planHome (ch : Byte) (tag : Byte) (params : List Byte) : Statement (.planHome ch tag params) := by rintro _ _ _ _ ⟨⟩ _; rfl
theorem planCommit (ch : Byte) (tag : Byte) (params : List Byte) : Statement (.planCommit ch tag params) := by rintro _ _ _ _ ⟨⟩ _; rfl
theorem planRevert (ch : Byte) (tag : Byte) (params : List Byte) : Statement (.planRevert ch tag params) := by rintro _ _ _ _ ⟨⟩ _; rfl
theorem balanceSet (ch : Byte) (tag : Byte) (params : List Byte) : Statement (.balanceSet ch tag params) := by rintro _ _ _ _ ⟨⟩ _; rfl
theorem balanceAccept (ch : Byte) (tag : Byte) (params : List Byte) : Statement (.balanceAccept ch tag params) := by rintro _ _ _ _ ⟨⟩ _; rfl
theorem status (ch : Byte) (tag : Byte) (params : List Byte) : Statement (.status ch tag params) := by rintro _ _ _ _ ⟨⟩ _; rfl
theorem linkRead (ch : Byte) (tag : Byte) (params : List Byte) : Statement (.linkRead ch tag params) := by rintro _ _ _ _ ⟨⟩ _; rfl
theorem planRead (ch : Byte) (tag : Byte) (params : List Byte) : Statement (.planRead ch tag params) := by rintro _ _ _ _ ⟨⟩ _; rfl
theorem measureRead (ch : Byte) (tag : Byte) (params : List Byte) : Statement (.measureRead ch tag params) := by rintro _ _ _ _ ⟨⟩ _; rfl
theorem balanceRead (ch : Byte) (tag : Byte) (params : List Byte) : Statement (.balanceRead ch tag params) := by rintro _ _ _ _ ⟨⟩ _; rfl
theorem alarmList (ch : Byte) (tag : Byte) (params : List Byte) : Statement (.alarmList ch tag params) := by rintro _ _ _ _ ⟨⟩ _; rfl
theorem attach (ch : Byte) (tag : Byte) (params : List Byte) : Statement (.attach ch tag params) := by rintro _ _ _ _ ⟨⟩ _; rfl
theorem detach (ch : Byte) (tag : Byte) (params : List Byte) : Statement (.detach ch tag params) := by rintro _ _ _ _ ⟨⟩ _; rfl
theorem abort (ch : Byte) (tag : Byte) (params : List Byte) : Statement (.abort ch tag params) := by rintro _ _ _ _ ⟨⟩ _; rfl
theorem unknownCommand (ch : Byte) (tag : Byte) (code : Byte) (params : List Byte) : Statement (.unknownCommand ch tag code params) :=
  unknown_decodes ch tag code params

end Sys2Proof.Laws.Coded
end

