-- ==== Sys2Proof/Tests/Slice0.lean ====
section
/-! SUPPORT. The model's own tests: ill-formed commands that WellFormed refuses, the spec's worked examples as single steps
on small states, and, for every obligation with hypotheses, concrete values that meet them. -/

namespace Sys2Proof.Tests

open Sys2Proof.Machine Sys2Proof.Machine.State

/-! ## WellFormed refuses -/

theorem test_wf_remote_word : (Instr.remoteFrameReceived 0 ⟨[0xD2, 0x47], []⟩).WellFormed = false := by decide

theorem test_wf_remote_payload :
    (Instr.remoteFrameReceived 0 ⟨List.replicate 16 0, List.replicate (remotePayloadBytes + 1) 0⟩).WellFormed = false := by
  simp [Instr.WellFormed, RemoteFrame.WellFormed]

theorem test_wf_operator_word : (Instr.operatorFrameReceived 0 ⟨List.replicate 15 0, [], true⟩).WellFormed = false := by
  decide

theorem test_wf_operator_slots :
    (Instr.operatorFrameReceived 0 ⟨List.replicate 16 0, List.replicate (slotsBytes + 1) 0, true⟩).WellFormed = false := by
  simp [Instr.WellFormed, TermFrame.WellFormedOperator]

theorem test_wf_trunk_word : (Instr.trunkFrameReceived ⟨List.replicate 17 0, [], true⟩).WellFormed = false := by decide

theorem test_wf_trunk_slots : (Instr.trunkFrameReceived ⟨List.replicate 16 0, [0], true⟩).WellFormed = false := by decide

set_option maxRecDepth 8000 in
theorem test_wf_request_length : (Instr.status 0x01 0 (List.replicate 251 0)).WellFormed = false := by
  simp [Instr.WellFormed, Instr.request, maxParams]

set_option maxRecDepth 8000 in
theorem test_wf_unknown_length : (Instr.unknownCommand 0x01 0 0x20 (List.replicate 251 0)).WellFormed = false := by
  simp [Instr.WellFormed, maxParams]

theorem test_wf_unknown_code : (Instr.unknownCommand 0x01 0 0x50 []).WellFormed = false := by decide

theorem test_wf_taken : (Instr.unknownCommand 0x01 0 0x20 []).WellFormed = true := by decide

/-! ## Codes of section 10.4 -/

theorem test_decode_requests :
    decodeRequest 0x12 0x01 7 [] = .linkSet 0x01 7 [] ∧ decodeRequest 0x38 0x02 7 [] = .balanceAccept 0x02 7 [] ∧
      decodeRequest 0x1C 0x01 7 [] = .unknownCommand 0x01 7 0x1C [] ∧ decodeRequest 0x7F 0x02 7 [] = .abort 0x02 7 [] := by
  decide

/-! ## Arithmetic examples -/

set_option maxRecDepth 8000 in
/-- The check value of the nine digits (R177). -/
theorem test_crc : crc [0x31, 0x32, 0x33, 0x34, 0x35, 0x36, 0x37, 0x38, 0x39] = 0x29B1 := by decide

/-- The step table (section 3.2, "Backoff thresholds"). -/
theorem test_step_table : (List.range 9).map stepT = [4096, 3584, 3136, 2744, 2401, 2100, 1838, 1608, 1407] := by decide

/-- The worked cases of downlink arithmetic (after R70). -/
theorem test_downlink_first : scalingFactor 4096 1 = 3584 ∧ scaleValue 3584 20000 = 17500 ∧
    reduceValue .w12 17500 = 1094 ∧ reduceValue .w8 17500 = 68 := by decide

theorem test_downlink_second : scalingFactor 3000 2 = 2296 ∧ scaleValue 2296 (-12345) = -6920 ∧
    reduceValue .w12 (-6920) = -432 ∧ reduceValue .w8 (-6920) = -27 := by decide

theorem test_downlink_halves : scaleValue 2048 1 = 1 ∧ scaleValue 2048 (-1) = 0 := by decide

/-- The example of a gate through one transmission (after R82), frames 13 to 18. -/
theorem test_gate_run :
    let step := fun (g : Gate) level => g.update level 256 2
    step ⟨true, 0⟩ 90 = ⟨⟨true, 1⟩, true, false⟩ ∧ step ⟨true, 1⟩ 0 = ⟨⟨true, 2⟩, true, false⟩ ∧
      step ⟨true, 2⟩ 260 = ⟨⟨true, 0⟩, true, false⟩ ∧ (step ⟨true, 2⟩ 40).expires = true ∧
      (step ⟨true, 2⟩ 40).passes = false ∧ step ⟨false, 0⟩ 255 = ⟨⟨false, 0⟩, false, false⟩ := by decide

/-- The table of members at full scale (R86). -/
theorem test_headroom : saturated 2 (4 * (32767 * 4096)) = 0 ∧ saturated 2 (5 * (32767 * 4096)) = 1 := by decide

/-- The worked cases of the sum (after R87), cases 1 to 3. -/
theorem test_sum_cases :
    effectiveMultiplier 3000 2 = 2296 ∧ outputValue 1 (12000 * 4096 - 8000 * 2296) = 3758 ∧
      outputValue 1 (-30784000) = -3758 ∧ outputValue 1 (-4096) = 0 ∧ outputValue 1 4096 = 1 ∧
      outputValue 0 245760000 = 32767 ∧ saturated 0 245760000 = 1 := by decide

/-- The example of shares and loads in sector 1.0 (after R105). -/
theorem test_shares :
    (occupancy 2000 100 + occupancy 6000 100) / 2 = 512 ∧ (occupancy 3125 100 + occupancy 3125 100) / 2 = 400 ∧
      (occupancy 7999 100 + occupancy 0 100) / 2 = 511 := by decide

/-- Object codes (section 10.3). -/
theorem test_object_codes : (Obj.sector (sectorOf 1 3)).code = 0x4B ∧ (Obj.operator 2).code = 0x22 ∧
    keyOfCodes 10 0x4B = some ⟨.sectorDark, .sector (sectorOf 1 3)⟩ ∧ keyOfCodes 10 0x22 = none := by decide

/-! ## Small states -/

/-- The state right after reset with the trunk UP. -/
def trunkUp : State := { State.reset with trunk := { TermLink.cold with state := .up, beenUp := true } }

/-- The same with reference FREE. -/
def freeRunning : State := { trunkUp with tb := { trunkUp.tb with reference := .free, state := .free } }

/-- Remote 7's link record changed. -/
def link7 (f : RemoteLink → RemoteLink) : State := trunkUp.modRl 7 f

/-- One step is owed. -/
def owing (x : Instr) (s : State) : State := { s with due := [x] }

/-- RP7 is UP at W12. -/
def up7 : State := link7 fun l => { l with state := .up, format := some .w12 }

/-- RP3 is isolated with a return timer that has run out. -/
def isolated3 : State :=
  (trunkUp.modRl 3 fun l => { l with state := .isolated }).withMode fun u =>
    { u with isolated := [⟨3, 0, 1, some 0, false⟩] }

/-- C5 is DEFINED for operator 2, in slot 1, with width class 1. -/
def carrier5 : State := trunkUp.modCarrier 5 fun k => { k with place := some ⟨2, 1, 1⟩ }

/-- C5 is listed in the active and the staged bank of operator 2, in sector 0. -/
def listed5 : State := carrier5.modPlan 2 fun p =>
  let b : Bank := { p.active with sectors := p.active.sectors.set 0 ⟨[5], 2⟩ }
  ⟨b, b, .clean⟩

/-- C5 is placed on RP7 alone, and sector 2.0 calls for it there. -/
def only7 : State :=
  let s := listed5.modPlan 2 fun p => { p with active := { p.active with
    zones := p.active.zones.set 7 ⟨some 0, some 0, false, []⟩ } }
  (s.modRl 7 fun l => { l with state := .up, format := some .w16 }).recompute 7

/-- A boundary is being taken and its placement is settled. -/
def atBoundary (s : State) : State := { s with boundary := some { s.closingView with settled := true } }

theorem next_owing (x : Instr) (s : State) (h : s.resetPin = false) (hb : s.boundary = none) : (owing x s).Next x :=
  ⟨h, List.mem_singleton.mpr rfl, fun y hy => by rw [List.mem_singleton.mp hy], fun _ b hx => by
    rw [show (owing x s).boundary = none from hb] at hx; exact absurd hx (by simp)⟩

theorem next_at_boundary (x : Instr) (s : State) (h : s.resetPin = false) : (owing x (atBoundary s)).Next x :=
  ⟨h, List.mem_singleton.mpr rfl, fun y hy => by rw [List.mem_singleton.mp hy], fun _ b hx => by
    have : some { s.closingView with settled := true } = some b := hx
    rw [← Option.some.inj this]⟩

/-! ## Worked examples as single steps -/

/-- The state that a command answers. -/
def after (i : Instr) (s : State) : State :=
  match exec i s with
  | .next t => t
  | .fault _ => s
  | .refused _ => s

/-- The carriers of RP10's example, as carrier, operator, width class and priority. -/
def rp10Carriers : List (CarrierId × OpId × Nat × Nat) :=
  [(0, 0, 4, 2), (1, 0, 4, 4), (2, 0, 2, 6), (3, 0, 4, 5), (8, 1, 4, 1), (9, 1, 4, 4), (10, 1, 3, 6), (11, 1, 2, 7),
    (16, 2, 4, 3), (17, 2, 4, 4), (18, 2, 4, 7), (20, 3, 4, 0), (21, 3, 4, 5), (22, 3, 1, 7), (23, 3, 3, 4)]

def rp10Plan : PlanStore :=
  { State.reset.plan with carriers := rp10Carriers.foldl (fun v x =>
      v.set x.1 { v[x.1] with place := some ⟨x.2.1, 0, x.2.2.1⟩, priority := x.2.2.2 }) State.reset.plan.carriers }

def rp10Calls : List (List CarrierId) := [[0, 1, 2, 3], [8, 9, 10, 11], [16, 17, 18], [20, 21, 22, 23]]

set_option maxRecDepth 8000 in
/-- Shedding and backoff on RP10 at W16 (after R56). -/
theorem test_rp10_w16 :
    let p := rp10Plan.recordFor .normal .w16 1000 rp10Calls false
    p.routedUnits = 204 ∧ p.shed = [22, 18] ∧ p.units = 184 ∧ p.power = 1300 ∧ p.backoff = 1 ∧ p.overload = false := by
  decide

set_option maxRecDepth 8000 in
/-- The same at W12: nothing is shed and the step is 2. -/
theorem test_rp10_w12 :
    let p := rp10Plan.recordFor .normal .w12 1000 rp10Calls false
    p.routedUnits = 153 ∧ p.shed = [] ∧ p.power = 1500 ∧ p.backoff = 2 := by decide

/-- The first entry of the alarm list after a cold reset, and the change sequence (after R172). -/
theorem test_reset_alarm :
    State.reset.sup.alarms = [⟨⟨.timingHoldover, .device⟩, true, 0, 0, 1⟩] ∧ State.reset.sup.seq = 1 ∧
      State.reset.sup.pending = true := by decide

/-- A run of four good frames enters NEGOTIATE (R6). -/
theorem test_seek_run : ((owing (.seekRunComplete 7) (link7 fun l => { l with seekRun := 4 })).due = [.seekRunComplete 7]) ∧
    (after (.seekRunComplete 7) (owing (.seekRunComplete 7) (link7 fun l => { l with seekRun := 4 }))).rl[7].phase =
      .awaitCapability := by decide

/-- A step that is not owed does nothing. -/
theorem test_not_owed : (after (.seekRunComplete 7) trunkUp).rl[7].state = .seek := by decide

/-- TIMING SET to FREE ends TIMING_HOLDOVER; a value above 5 is refused (R27). -/
theorem test_timing_free :
    (after (.timingSet 0x01 9 [5]) trunkUp).tb.state = .free ∧
      (after (.timingSet 0x01 9 [5]) trunkUp).sup.alarms.map (·.active) = [false] ∧
      (after (.timingSet 0x01 9 [6]) trunkUp).mgmt.due.map (·.result) = [.badParameter] := by decide

/-- ATTACH with a wrong code bars the channel; with code 0 stored it is out of scope (R187). -/
theorem test_attach :
    let s := trunkUp.withMgmt fun g => { g with codes := g.codes.set 1 5 }
    (after (.attach 0x02 9 [1, 0, 0, 0, 4]) s).mgmt.barred = true ∧
      (after (.attach 0x02 9 [1, 0, 0, 0, 5]) s).mgmt.scope = some 1 ∧
      (after (.attach 0x02 9 [2, 0, 0, 0, 0]) s).mgmt.due.map (·.result) = [.outOfScope] := by decide

/-- Venue commands are out of scope on the service channel, an odd channel byte is a bad parameter, and a channel in progress
is BUSY (R179, R185). -/
theorem test_admission :
    (after (.warm 0x02 9 []) trunkUp).mgmt.due.map (·.result) = [.outOfScope] ∧
      (after (.warm 0x03 9 []) trunkUp).mgmt.due.map (·.result) = [.badParameter] ∧
      (after (.status 0x01 9 []) (trunkUp.withMgmt fun g => { g with control := some ⟨1, .warm⟩ })).mgmt.due.map (·.result) =
        [.busy] := by decide

/-- The reset pin silences every link (R195). -/
theorem test_reset_pin : (after .resetPinAssert trunkUp).out.trunk = none ∧
    (after .superframeBoundary (after .resetPinAssert trunkUp)).tb.count = 0 := by decide

set_option maxRecDepth 8000 in
/-- The superframe count wraps (R25). -/
theorem test_count_wraps :
    (after .superframeBoundary { trunkUp with tb := { trunkUp.tb with count := 0xFFFFFFFF } }).tb.count = 0 := by decide

/-! ## Hypotheses that are met

Each theorem shows values that meet the hypotheses of the obligation it is named after, for each of its cases. -/

theorem quiet_trunkUp : trunkUp.Quiet := ⟨rfl, rfl, rfl⟩

theorem ready_trunkUp : trunkUp.Ready .control := ⟨quiet_trunkUp, by decide, rfl, rfl, nofun⟩

theorem ready_service : trunkUp.Ready .service := ⟨quiet_trunkUp, by decide, rfl, rfl, fun _ => rfl⟩

theorem test_meets_StepTakesFront : { trunkUp with pending := [.linkFrameStart] }.pending = .linkFrameStart :: [] := rfl

theorem test_meets_WordsAndSamplesReadBack :
    79 ≤ 79 ∧ ∀ f ∈ [Format.w16, .w12, .w8], ∀ x ∈ [IQ.mk (-128) 127, IQ.mk 127 (-128)],
      -(2 : Int) ^ (f.bits - 1) ≤ x.i ∧ x.i < (2 : Int) ^ (f.bits - 1) ∧ -(2 : Int) ^ (f.bits - 1) ≤ x.q ∧
        x.q < (2 : Int) ^ (f.bits - 1) := by decide

set_option maxRecDepth 8000 in
/-- A STATUS request in one word, and a PLAN SECTOR of five parameter bytes in two. -/
theorem test_meets_RequestsAreTaken :
    (Instr.balanceAccept 0x02 9 [1]).WellFormed = true ∧
      (Instr.balanceAccept 0x02 9 [1]).request = some (0x38, 0x02, 9, [1]) ∧
      (Instr.unknownCommand 0x01 9 0x20 []).WellFormed = true ∧
      (withCheck [0x01, 9, 0x32, 5, 0, 1, 2, 1, 7] ++ List.replicate 9 0 : List Byte).length = 20 ∧
      withCheck ([0x01, 9, 0x32, byte 5] ++ [0, 1, 2, 1, 7]) = withCheck [0x01, 9, 0x32, 5, 0, 1, 2, 1, 7] ∧
      (Instr.status 0x01 9 []).WellFormed = true ∧ trunkUp.mgmt.assembly = none ∧
      ([withCheck [0x01, 9, 0x50, 0] ++ [0, 0, 0, 0]] : List (List Byte)).flatten =
        withCheck ([0x01, 9, 0x50, byte 0] ++ []) ++ [0, 0, 0, 0] ∧
      ∀ w ∈ [(withCheck [0x01, 9, 0x50, 0] ++ [0, 0, 0, 0] : List Byte)], w.length = 10 := by decide

/-- A good word on a link whose last good frame had number 4. -/
def good (lf : Nat) (type : Byte) (payload : List Byte) : List Byte := controlWord 0 lf type payload

/-- The trunk is the reference, in a Timebase state, and its last good frame had number 79. -/
def onTrunk (t : TimebaseState) : State :=
  let s := trunkUp.modTerm .trunk fun k => { k with lastGood := some 79 }
  { s with tb := { s.tb with state := t } }

set_option maxRecDepth 8000 in
/-- An IDLE word and a whole ABORT on a trunk that is not the reference; a link frame 0 of the reference, LOCKED and off the
boundary, and RELOCKING. -/
theorem test_meets_TrunkFrame :
    freeRunning.Quiet ∧ freeRunning.trunk.state = .up ∧ freeRunning.isReference .trunk = false ∧
      freeRunning.mgmt.assembly = none ∧
      parseWord (good 5 typeIdle []) = some ⟨5, 0, typeIdle, List.replicate 10 0⟩ ∧
      followsTerm freeRunning.trunk ⟨5, 0, typeIdle, List.replicate 10 0⟩ = true ∧
      parseWord (good 5 typeMgmtStart (withCheck [1, 2, 0x7F, 0x00] ++ [0, 0, 0, 0])) =
        some ⟨5, 0, typeMgmtStart, withCheck [1, 2, 0x7F, 0x00] ++ [0, 0, 0, 0]⟩ ∧
      parseWord (good 0 typeIdle []) = some ⟨0, 0, typeIdle, List.replicate 10 0⟩ ∧
      (∀ t ∈ [TimebaseState.locked, .relocking], (onTrunk t).isReference .trunk = true ∧ (onTrunk t).tb.state = t ∧
        followsTerm (onTrunk t).trunk ⟨0, 0, typeIdle, List.replicate 10 0⟩ = true) ∧
      (onTrunk .relocking).relockOwed .trunk ⟨0, 0, typeIdle, List.replicate 10 0⟩ false = [.timebaseRelock false] ∧
      ∀ st ∈ [TermState.seek, .lost], (trunkUp.modTerm .trunk fun t => { t with state := st, seekRun := 3 }).trunk.state = st ∧
        followsTerm (trunkUp.modTerm .trunk fun t => { t with state := st, seekRun := 3 }).trunk
          ⟨5, 0, typeIdle, List.replicate 10 0⟩ = true := by
  refine ⟨⟨rfl, rfl, rfl⟩, ?_⟩; decide

/-- The trunk is not the reference, and a message has been assembled so far. -/
def assembling (bytes : List Byte) : State := freeRunning.withMgmt fun g => { g with assembly := some bytes }

set_option maxRecDepth 8000 in
/-- A message in assembly; words of each type; a parameter part of 250 bytes and one of 251; a right and a wrong check value. -/
theorem test_meets_TrunkFrame_messages :
    (assembling [1, 9, 0x50, 250, 0, 0, 0, 0, 0, 0]).Quiet ∧ (assembling [1, 9, 0x50, 250]).mgmt.assembly.isSome ∧
      followsTerm (assembling []).trunk ⟨5, 0, typeMgmtCont, List.replicate 10 7⟩ = true ∧
      parseWord (good 5 typeMgmtCont (List.replicate 10 7)) = some ⟨5, 0, typeMgmtCont, List.replicate 10 7⟩ ∧
      parseWord (good 5 typeMgmtStart [1, 9, 0x50, 251]) = some ⟨5, 0, typeMgmtStart, padTo 10 [1, 9, 0x50, 251]⟩ ∧
      (250 : Byte).toNat + 6 ≤ 256 ∧ 10 < (250 : Byte).toNat + 6 ∧ 256 < (251 : Byte).toNat + 6 ∧
      (let m := withCheck [1, 9, 0x50, 0]; (m.drop 4).take 2 = u16 (crc (m.take 4)).toNat) ∧
      (let m := withCheck [1, 9, 0x50, 0]; ((m.map (· + 1)).drop 4).take 2 ≠ u16 (crc ((m.map (· + 1)).take 4)).toNat) := by
  refine ⟨⟨rfl, rfl, rfl⟩, ?_⟩; decide

/-- The last link frame sent had a number, one response is due and an ALERT is placed. -/
def sending (lf : Option Nat) (tx : Option Transmission) (s : State) : State :=
  { s with
    tb := { s.tb with label := 80, lf := lf }
    mgmt := { s.mgmt with
      due := [reply .control 9 0x50 .done false []], tx := tx, alert := some ⟨1, 0, 1, 0, 0, false, tab fun _ => false, false⟩ } }

/-- Link frame 0 and link frame 79; a response that begins or goes on, and an ALERT that begins or goes on; a remote in UP, a
carrier that one remote carries and one that none carries; a boundary with and without a cold reset, and a carrier newly
placed. -/
theorem test_meets_LinkFrameStart :
    (sending (some 78) none only7).Quiet ∧ (sending (some 78) none only7).tb.lf = some (79 - 1) ∧
      (sending none none only7).tb.lf = none ∧ (sending (some 79) none only7).tb.lf = some 79 ∧
      only7.rl[7].state = .up ∧ only7.rl[7].format = some .w16 ∧
      (exec .blockDeadline (sending (some 78) none only7)).casesOn (fun _ => True) (fun _ => False) (fun _ => False) ∧
      (sending (some 78) (some (.response 10)) only7).mgmt.tx = some (.response 10) ∧
      (sending (some 78) none only7).mgmt.due = [reply .control 9 0x50 .done false []] ∧
      (sending (some 78) (some (.alert 10)) only7).mgmt.alert.isSome ∧
      ((sending (some 78) none only7).withMgmt fun g => { g with due := [] }).mgmt.due = [] ∧
      (trunkUp.mgmt.tx = none ∧ trunkUp.mgmt.due = [] ∧ trunkUp.mgmt.alert = none) ∧
      (only7.carrier 5).place = some ⟨2, 1, 1⟩ ∧ (5 : CarrierId) ∈ (only7.opPlan 2).active.sectors[(0 : SectorIx)].carriers ∧
      (only7.opPlan 2).active.zones[(7 : RemoteId)].cur = some 0 ∧ (5 : CarrierId) ∈ (only7.record 7).placed ∧
      (5 : CarrierId) ∉ only7.place.lastPlaced[(7 : RemoteId)] ∧ (5 : CarrierId) ∉ (listed5.record 7).placed ∧
      (trunkUp.withMgmt fun g => { g with control := some ⟨0, .cold⟩ }).mgmt.control = some ⟨0, .cold⟩ ∧
      only7.SumsFormed := by
  refine ⟨⟨rfl, rfl, rfl⟩, by decide, rfl, rfl, by decide, by decide, trivial, rfl, rfl, rfl, rfl, by decide, by decide,
    by decide, by decide, by decide, by decide, by decide, rfl, ⟨by decide, nofun, by decide, by decide⟩⟩

theorem test_meets_BoundaryCounts :
    (link7 fun l => { l with state := .negotiate, phase := .ordered, negTimer := 9 }).Quiet ∧
      (link7 fun l => { l with state := .lost, holdTimer := 49 }).Quiet ∧
      (link7 fun l => { l with state := .negotiate, phase := .confirmed }).rl[7].phase = .confirmed ∧
      (trunkUp.withMgmt fun g => { g with control := some ⟨0, .cold⟩ }).mgmt.control = some ⟨0, .cold⟩ ∧
      (∀ x ∈ trunkUp.mgmt.due, x.isCold = false) ∧ trunkUp.mgmt.control = none ∧
      (trunkUp.withMgmt fun g => { g with control := some ⟨0, .warm⟩ }).mgmt.control = some ⟨0, .warm⟩ ∧
      ((trunkUp.modPlan 1 fun p => { p with state := .armed .control true }).opPlan 1).state = .armed .control true ∧
      ((trunkUp.modTerm (.op 1) fun t => { t with state := .lost, holdTimer := 49 }).term (.op 1)).holdTimer = 49 ∧
      (trunkUp.withMeas fun m => { m with position := 99 }).meas.wForce ≤ 99 + 1 := by
  refine ⟨⟨rfl, rfl, rfl⟩, ⟨rfl, rfl, rfl⟩, ?_⟩; decide

/-- RP7 is UP, link frames 0 and 1 have been sent, and a sum of one of them waits for RP7's block of C5. -/
def combining (label : Nat) (last : GoodFrame) : State :=
  let s := only7.modRl 7 fun l => { l with lastGood := some last }
  { s with
    tb := { s.tb with label := 2, lf := some 1, history := [⟨2, 0, 1⟩, ⟨1, 0, 0⟩] }
    comb := { s.comb with
      sums := [⟨label, 0, label - 1, 5, 16, ⟨2, 1, 1⟩, 0, .unused, [⟨7, .w16, 4096, 0⟩], 0, [], false⟩] } }

/-- A directory with C5 in four units. -/
def payload5 : List Byte := [5, 4, 0xFF, 0]

theorem formed_earlier : (combining 1 ⟨none, 0⟩).SumsFormed :=
  ⟨by decide, fun q hq => by rw [List.mem_singleton.mp hq]; exact ⟨nofun, by decide, by decide⟩, by decide, by decide⟩

theorem formed_present : (combining 2 ⟨some 1, 1⟩).SumsFormed :=
  ⟨by decide, fun q hq => by rw [List.mem_singleton.mp hq]; exact ⟨nofun, by decide, by decide⟩, by decide, by decide⟩

set_option maxRecDepth 8000 in
/-- A block of the link frame before the one in progress, and one of the link frame in progress. -/
theorem test_meets_BlocksSettle :
    (combining 1 ⟨none, 0⟩).Quiet ∧ (combining 1 ⟨none, 0⟩).SumsFormed ∧ (combining 2 ⟨some 1, 1⟩).SumsFormed ∧
      (∃ q, (combining 1 ⟨none, 0⟩).OnlyBlock 1 7 5 q) ∧ (combining 1 ⟨none, 0⟩).NoBlock 1 7 6 ∧
      (combining 1 ⟨none, 0⟩).rl[7].state = .up ∧
      parseWord (good 0 typeIdle []) = some ⟨0, 0, typeIdle, List.replicate 10 0⟩ ∧
      followsRemote (combining 1 ⟨none, 0⟩).rl[7] ⟨0, 0, typeIdle, List.replicate 10 0⟩ ∧
      answered (combining 1 ⟨none, 0⟩).tb.history 0 0 = some ⟨1, 0, 0⟩ ∧
      parseWord (good 0 typeStatus [0, 0, 1]) = some ⟨0, 0, typeStatus, padTo 10 [0, 0, 1]⟩ ∧
      followsRemote (combining 1 ⟨none, 0⟩).rl[7] ⟨0, 0, typeStatus, padTo 10 [0, 0, 1]⟩ ∧
      parseWord (good 1 typeIdle []) = some ⟨1, 0, typeIdle, List.replicate 10 0⟩ ∧
      followsRemote (combining 2 ⟨some 1, 1⟩).rl[7] ⟨1, 0, typeIdle, List.replicate 10 0⟩ ∧
      answered (combining 2 ⟨some 1, 1⟩).tb.history 0 1 = some ⟨2, 0, 1⟩ ∧ (combining 2 ⟨some 1, 1⟩).tb.label = 2 ∧
      (blockFor .w16 1 5 payload5).isSome ∧ blockFor .w16 1 5 [] = none ∧
      ([⟨1, 2⟩] : List IQ).length = ([⟨3, 4⟩] : List IQ).length := by
  refine ⟨⟨rfl, rfl, rfl⟩, formed_earlier, formed_present,
    ⟨_, List.mem_singleton.mpr rfl, by decide, rfl, ⟨_, List.mem_singleton.mpr rfl, rfl⟩, fun p hp _ _ _ =>
      List.mem_singleton.mp hp⟩, fun q hq _ hc => ?_, ?_⟩
  · rw [List.mem_singleton.mp hq] at hc; exact absurd hc (by decide)
  · decide

theorem test_meets_RemoteBadFrame :
    (link7 fun l => { l with state := .up, badRun := 7 }).Quiet ∧
      ∀ st ∈ [RemoteState.off, .seek, .lost, .mismatch, .isolated, .negotiate, .up],
        (link7 fun l => { l with state := st, badRun := 7 }).rl[7].state = st ∧
          7 ≤ (link7 fun l => { l with state := st, badRun := 7 }).rl[7].badRun ∧ parseWord [0xD2, 0x47] = none ∧
          parseWord (good 5 typeIdle []) = some ⟨5, 0, typeIdle, List.replicate 10 0⟩ ∧
          followsRemote (link7 fun l => { l with seekRun := 1, lastGood := some ⟨none, 4⟩ }).rl[7]
            ⟨5, 0, typeIdle, List.replicate 10 0⟩ = false := by
  refine ⟨⟨rfl, rfl, rfl⟩, ?_⟩; decide

/-- RL7 is UP and the bad frame would have answered link frame 1, whose block of C5 has not come, or link frame 3, which has
not been sent. -/
theorem test_meets_RemoteBadFrame_up :
    let s := (combining 1 ⟨none, 0⟩).modRl 7 fun l => { l with nextAnswer := 1 }
    s.Quiet ∧ s.SumsFormed ∧ s.rl[7].state = .up ∧ s.rl[7].nextAnswer ≤ s.tb.label ∧ (∃ q, s.OnlyBlock 1 7 5 q) ∧
      s.NoBlock 1 7 6 ∧ ((combining 1 ⟨none, 0⟩).modRl 7 fun l => { l with nextAnswer := 3 }).rl[7].nextAnswer = 3 := by
  refine ⟨⟨rfl, rfl, rfl⟩, ⟨by decide, fun q hq => ?_, by decide, by decide⟩, by decide, by decide,
    ⟨_, List.mem_singleton.mpr rfl, by decide, rfl, ⟨_, List.mem_singleton.mpr rfl, rfl⟩, fun p hp _ _ _ =>
      List.mem_singleton.mp hp⟩, fun q hq _ hc => ?_, by decide⟩
  · rw [List.mem_singleton.mp hq]; exact ⟨nofun, by decide, by decide⟩
  · rw [List.mem_singleton.mp hq] at hc; exact absurd hc (by decide)

theorem test_meets_SeekFrame :
    (link7 fun l => { l with seekRun := 3, lastGood := some ⟨none, 5⟩ }).Quiet ∧
      parseWord (good 5 typeIdle []) = some ⟨5, 0, typeIdle, List.replicate 10 0⟩ ∧
      followsRemote (link7 fun l => { l with seekRun := 3, lastGood := some ⟨none, 5⟩ }).rl[7]
        ⟨5, 0, typeIdle, List.replicate 10 0⟩ = true ∧
      (link7 fun l => { l with state := .off }).rl[7].state = .off ∧
      ∀ st ∈ [RemoteState.lost, .mismatch, .isolated],
        (link7 fun l => { l with state := st, lastGood := some ⟨none, 5⟩ }).rl[7].state = st ∧
          followsRemote (link7 fun l => { l with state := st, lastGood := some ⟨none, 5⟩ }).rl[7]
            ⟨5, 0, typeIdle, List.replicate 10 0⟩ = true := by
  refine ⟨⟨rfl, rfl, rfl⟩, ?_⟩; decide

/-- A superframe ends with link frame 40, the last one that RL7 answered: its next good frame is 0, long after the history has
forgotten the end of the superframe (R2, R26). -/
theorem test_successor_of_shortened :
    let s := link7 fun l => { l with state := .lost, lastGood := some ⟨some 41, 41⟩ }
    let t := after .superframeBoundary { s with tb := { s.tb with label := 41, lf := some 40, history := [⟨41, 0, 40⟩] } }
    t.rl[7].lastGood = some ⟨some 41, 0⟩ ∧
      followsRemote { t.rl[7] with holdTimer := 9 } ⟨0, 0, typeIdle, List.replicate 10 0⟩ = true ∧
      followsRemote { t.rl[7] with holdTimer := 9 } ⟨41, 0, typeIdle, List.replicate 10 0⟩ = false := by decide

/-- RL7 awaits the capability of its remote, and link frame 0 has been sent. -/
def awaiting : State :=
  let s := link7 fun l => { l with state := .negotiate, phase := .awaitCapability, lastGood := some ⟨none, 0⟩ }
  { s with tb := { s.tb with label := 1, lf := some 0, history := [⟨1, 0, 0⟩] } }

theorem test_meets_CapabilityChoosesFormat :
    awaiting.Quiet ∧ awaiting.rl[7].state = .negotiate ∧ awaiting.rl[7].phase = .awaitCapability ∧
      (parseWord (good 0 typeCapability [0x06])).isSome ∧
      followsRemote awaiting.rl[7] ⟨0, 0, typeCapability, padTo 10 [0x06]⟩ = true ∧
      (answered awaiting.tb.history 0 0).isSome ∧
      (formatSetOf 0x06).choose awaiting.rl[7].offered = some .w12 ∧
      (formatSetOf 0x00).choose awaiting.rl[7].offered = none := by
  refine ⟨⟨rfl, rfl, rfl⟩, ?_⟩; decide

/-- Operator link 2 is UP and C5 is its carrier. -/
def operatorUp : State := carrier5.modTerm (.op 2) fun t => { t with state := .up, beenUp := true }

theorem test_meets_OperatorFrame :
    operatorUp.Quiet ∧ operatorUp.ol[2].state = .up ∧ operatorUp.isReference (.op 2) = false ∧
      parseWord (good 5 typeIdle []) = some ⟨5, 0, typeIdle, List.replicate 10 0⟩ ∧
      followsTerm operatorUp.ol[2] ⟨5, 0, typeIdle, List.replicate 10 0⟩ = true ∧
      (operatorUp.carrier 5).place = some ⟨2, 1, 1⟩ ∧ operatorUp.plan.owner 6 ≠ some 2 ∧
      parseWord (good 0 typeIdle []) = some ⟨0, 0, typeIdle, List.replicate 10 0⟩ ∧
      followsTerm operatorUp.ol[2] ⟨0, 0, typeIdle, List.replicate 10 0⟩ = true ∧
      (∀ t ∈ [TimebaseState.locked, .relocking],
        { operatorUp with tb := { operatorUp.tb with reference := .op 2, state := t } }.isReference (.op 2) = true) ∧
      ∀ st ∈ [TermState.seek, .lost], (trunkUp.modTerm (.op 1) fun t => { t with state := st, seekRun := 3 }).ol[1].state = st ∧
        followsTerm (trunkUp.modTerm (.op 1) fun t => { t with state := st, seekRun := 3 }).ol[1]
          ⟨5, 0, typeIdle, List.replicate 10 0⟩ = true := by
  refine ⟨⟨rfl, rfl, rfl⟩, ?_⟩; decide

theorem test_meets_TermBadFrame :
    (trunkUp.modTerm .trunk fun t => { t with badRun := 7 }).Quiet ∧
      ∀ st ∈ [TermState.seek, .lost, .up], ∀ l ∈ [TermLinkId.trunk, .op 3],
        ((trunkUp.modTerm l fun t => { t with state := st, badRun := 7 }).term l).state = st ∧ TermLinkId.op 0 ≠ l ∧
          parseWord [0xD2, 0x47] = none ∧ parseWord (good 5 typeIdle []) = some ⟨5, 0, typeIdle, List.replicate 10 0⟩ ∧
          followsTerm ((trunkUp.modTerm l fun t => { t with state := .up, lastGood := some 79 }).term l)
            ⟨5, 0, typeIdle, List.replicate 10 0⟩ = false := by
  refine ⟨⟨rfl, rfl, rfl⟩, ?_⟩; decide

theorem test_meets_TermLinkSteps :
    (owing (.linkSeekToUp .trunk) (trunkUp.modTerm .trunk fun t => { t with state := .seek, seekRun := 4 })).Next
        (.linkSeekToUp .trunk) ∧
      (owing (.linkUpToLost (.op 1)) (trunkUp.modTerm (.op 1) fun t => { t with state := .up, badRun := 8 })).Next
        (.linkUpToLost (.op 1)) ∧
      (owing (.linkLostHoldEnd (.op 1)) (trunkUp.modTerm (.op 1) fun t => { t with state := .lost, holdTimer := 50 })).Next
        (.linkLostHoldEnd (.op 1)) ∧
      (trunkUp.modTerm .trunk fun t => { t with state := .seek, seekRun := 4 }).isReference .trunk = true ∧
      trunkUp.isReference (.op 1) = false :=
  ⟨next_owing _ _ rfl rfl, next_owing _ _ rfl rfl, next_owing _ _ rfl rfl, by decide, by decide⟩

theorem test_meets_TrunkLoss :
    (owing (.linkUpToLost .trunk) (trunkUp.modTerm .trunk fun t => { t with badRun := 8 })).Next (.linkUpToLost .trunk) ∧
      (trunkUp.modTerm .trunk fun t => { t with badRun := 8 }).trunk.state = .up ∧ trunkUp.tb.reference = .trunk ∧
      freeRunning.tb.reference ≠ .trunk ∧ (sending none none trunkUp).mgmt.alert.isSome ∧ trunkUp.sup.enable = true :=
  ⟨next_owing _ _ rfl rfl, rfl, rfl, by decide, rfl, rfl⟩

/-- TIMING_HOLDOVER has its ACTIVE entry; the relock belongs to a boundary being taken, to one still to be made, with link
frame 1 in progress, or to the one that link frame 0 followed. -/
theorem test_meets_TimebaseRelock :
    let s : State := { trunkUp with tb := { trunkUp.tb with state := .relocking } }
    s.tb.state = .relocking ∧ (owing (.timebaseRelock true) s).Next (.timebaseRelock true) ∧
      (owing (.timebaseRelock false) s).Next (.timebaseRelock false) ∧
      (owing (.timebaseRelock true) (atBoundary s)).Next (.timebaseRelock true) ∧
      s.sup.entry ⟨.timingHoldover, .device⟩ = some ⟨⟨.timingHoldover, .device⟩, true, 0, 0, 1⟩ ∧
      (∀ n ∈ [0, 1], (owing (.timebaseRelock true) { s with tb := { s.tb with lf := some n } }).tb.lf = some n) ∧
      (owing (.timebaseRelock true) s).boundary = none :=
  ⟨rfl, next_owing _ _ rfl rfl, next_owing _ _ rfl rfl, next_at_boundary _ _ rfl, by decide, by decide, rfl⟩

set_option maxRecDepth 8000 in
/-- Link frame 0 of the reference starts at the boundary and is taken ahead of it, with link frame 79 in progress:
TIMING_HOLDOVER is CLEARED with the count of the superframe that begins (R26, R157). -/
theorem test_relock_ahead :
    let s := onTrunk .relocking
    let t := after .superframeBoundary (after (.trunkFrameReceived ⟨good 0 typeIdle [], [], true⟩)
      { s with tb := { s.tb with label := 80, lf := some 79 } })
    t.tb.state = .locked ∧ t.tb.count = 1 ∧ t.sup.alarms = [⟨⟨.timingHoldover, .device⟩, false, 0, 1, 1⟩] := by decide

theorem test_meets_TimingSet :
    trunkUp.Ready .control ∧ (trunkUp.term .trunk).state = .up ∧ (trunkUp.term (.op 3)).state ≠ .up ∧
      6 ≤ (0x06 : Byte).toNat ∧ { trunkUp.tb with state := .locked }.state = .locked :=
  ⟨ready_trunkUp, by decide, by decide, by decide, rfl⟩

theorem test_meets_LinkComesUp :
    (owing (.seekRunComplete 7) (link7 fun l => { l with seekRun := 4 })).Next (.seekRunComplete 7) ∧
      (link7 fun l => { l with seekRun := 4 }).rl[7].state = .seek ∧
      (owing (.linkEntersUp 7) (link7 fun l =>
        { l with state := .negotiate, phase := .confirmed, chosen := some .w8 })).Next (.linkEntersUp 7) :=
  ⟨next_owing _ _ rfl rfl, by decide, next_owing _ _ rfl rfl⟩

theorem test_meets_LinkRestarts :
    (owing (.negotiationTimeout 7) (link7 fun l => { l with state := .negotiate, negTimer := 10 })).Next
        (.negotiationTimeout 7) ∧
      (owing (.negotiateAlignmentLoss 7) (link7 fun l => { l with state := .negotiate, badRun := 8 })).Next
        (.negotiateAlignmentLoss 7) ∧
      (owing (.lostHoldEnd 7) (link7 fun l => { l with state := .lost, holdTimer := 50 })).Next (.lostHoldEnd 7) ∧
      (owing (.echoFailure 7) (link7 fun l => { l with state := .up, echoRun := 3 })).Next (.echoFailure 7) :=
  ⟨next_owing _ _ rfl rfl, next_owing _ _ rfl rfl, next_owing _ _ rfl rfl, next_owing _ _ rfl rfl⟩

theorem test_meets_LinkLostEntry :
    (owing (.linkLostEntry 7) (link7 fun l => { l with state := .up, badRun := 8 })).Next (.linkLostEntry 7) :=
  next_owing _ _ rfl rfl

/-- RL7 has sent an ORDER word and awaits a STATUS word, or is UP. -/
def reporting (st : RemoteState) (ph : NegPhase) : State :=
  awaiting.modRl 7 fun l => { l with state := st, phase := ph, chosen := some .w12, format := some .w12 }

set_option maxRecDepth 8000 in
theorem test_meets_StatusWords :
    (reporting .negotiate .ordered).Quiet ∧ (reporting .negotiate .ordered).rl[7].phase = .ordered ∧
      (reporting .negotiate .ordered).rl[7].chosen = some .w12 ∧ (reporting .up .none).rl[7].format = some .w12 ∧
      parseWord (good 0 typeStatus [0x01, 0, 0x02]) = some ⟨0, 0, typeStatus, padTo 10 [0x01, 0, 0x02]⟩ ∧
      followsRemote (reporting .up .none).rl[7] ⟨0, 0, typeStatus, padTo 10 [1, 0, 2]⟩ ∧
      answered (reporting .up .none).tb.history 0 0 = some ⟨1, 0, 0⟩ ∧
      (owing (.farFlagChange 7 2) (link7 fun l => { l with state := .up, flags := l.flags.set 2 ⟨true, 3⟩ })).due =
        [.farFlagChange 7 2] ∧
      (link7 fun l => { l with state := .up, flags := l.flags.set 2 ⟨true, 3⟩ }).rl[7].flags[2].run = 3 := by
  refine ⟨⟨rfl, rfl, rfl⟩, ?_⟩; decide

theorem test_next_farFlagChange :
    (owing (.farFlagChange 7 2) (link7 fun l => { l with state := .up, flags := l.flags.set 2 ⟨true, 3⟩ })).Next
      (.farFlagChange 7 2) := next_owing _ _ rfl rfl

theorem test_meets_SettingsTakeEffect :
    (owing (.levelFieldTakesEffect 5) carrier5).Next (.levelFieldTakesEffect 5) ∧
      (owing (.linkSettingsTakeEffect 7) up7).Next (.linkSettingsTakeEffect 7) ∧
      (carrier5.carrier 5).set.mdl = (carrier5.carrier 5).eff.mdl ∧ up7.rl[7].pmaxEff = up7.rl[7].pmax ∧
      (carrier5.carrier 5).place.isSome ∧
      ((carrier5.modCarrier 5 fun k => { k with set := { k.set with power := 7 } }).carrier 5).set.power = 7 ∧
      (up7.modRl 7 fun l => { l with pmax := 7 }).rl[7].pmaxEff ≠ 7 :=
  ⟨next_owing _ _ rfl rfl, next_owing _ _ rfl rfl, by decide, by decide, by decide, by decide, by decide⟩

theorem test_meets_UnitsAndShedding : up7.rl[7].state = .up ∧ up7.rl[7].format = some .w12 := by decide

theorem test_meets_CompositeBackoff : up7.rl[7].state = .up ∧ up7.rl[7].format = some .w12 := by decide

theorem test_meets_DownlinkScaling : up7.rl[7].state = .up ∧ 8 ≤ 8 ∧ (-32768 : Int) ≤ -32768 ∧ 4096 ≤ 4096 := by decide

theorem test_meets_FormatReduction :
    (-32768 : Int) ≤ 32760 ∧ (32760 : Int) ≤ 32767 ∧ (32640 : Int) ≤ 32640 ∧
      (({ trunkUp.dist with source := [⟨5, [⟨1, 2⟩]⟩] } : Distributor).source.find? fun x => x.carrier = 5) =
        some ⟨5, [⟨1, 2⟩]⟩ := by decide

theorem test_meets_GateUpdates :
    (owing (.gateHoldExpiry 7 5) (trunkUp.setGate 7 5 ⟨true, 3⟩)).Next (.gateHoldExpiry 7 5) ∧ 3 ≤ 3 ∧ 2 < 3 :=
  ⟨next_owing _ _ rfl rfl, by decide, by decide⟩

/-- A sum that nothing has entered. -/
def emptySum : UplinkSum := ⟨1, 0, 0, 5, 16, ⟨2, 1, 1⟩, 2, .unused, [], 0, [], false⟩

theorem test_meets_UplinkRounding :
    emptySum.contributors = 0 ∧ { emptySum with contributors := 1 }.contributors ≠ 0 ∧ 4 ≤ 4 ∧ (-32768 : Int) ≤ 32767 ∧
      (32767 : Int) < (134217728 + 2 ^ 11) / 2 ^ 12 ∧ (-134217728 - 4096 + 2 ^ 11 : Int) / 2 ^ 12 < -32768 := by decide

/-- I and Q of one value saturate apart, and one that fits does not count (R87). -/
theorem test_saturations_apart :
    { emptySum with h := 0, contributors := 1, acc := [⟨134217728, -134221824⟩, ⟨134217728, 4096⟩] }.saturations = 3 ∧
      { emptySum with h := 0, contributors := 1, acc := [⟨134217728, -134221824⟩, ⟨134217728, 4096⟩] }.samples =
        [⟨32767, -32768⟩, ⟨32767, 1⟩] := by decide

theorem test_meets_Occupancy : 0 < 100 ∧ 8000 ≤ 80 * 100 := by decide

theorem test_meets_ShareAndLoad :
    formSnapshot 0 trunkUp.meas (tab fun _ => .cold) trunkUp.comb.sat =
      formSnapshot 0 trunkUp.meas (tab fun _ => .cold) trunkUp.comb.sat ∧
    Bank.cold.zones[7].cur = none ∧ (Zone.mk (some 1) (some 1) false []).cur = some 1 := ⟨rfl, by decide, by decide⟩

theorem test_meets_WindowEnd :
    (owing .windowEnd (atBoundary trunkUp)).Next .windowEnd ∧ (owing .windowEnd (atBoundary trunkUp)).boundary.isSome ∧
      trunkUp.bal[1].mode ≠ .auto ∧ ((1 : OpId), (7 : RemoteId)) ∉ trunkUp.closingView.moved :=
  ⟨next_at_boundary _ _ rfl, rfl, by decide, by decide⟩

/-- A boundary at which a window ends: sector 2.0 has RP7 as its only member. -/
def closing : State := owing .windowEnd (atBoundary only7)

theorem test_meets_RunsComplete :
    closing.Next .windowEnd ∧ closing.boundary = some { only7.closingView with settled := true } ∧
      only7.closingView.banks[(2 : OpId)].zones[(7 : RemoteId)].cur = some 0 ∧ only7.closingView.modeSet = false ∧
      only7.meas.satLimit < 65 ∧ only7.comb.guard[(7 : RemoteId)] < 8 ∧
      (only7.withMode fun u => { u with aqEnable := true }).mode.aqEnable = true ∧ only7.mode.mode = .normal ∧
      (owing (.guardStepDown 7) (atBoundary trunkUp)).Next (.guardStepDown 7) ∧
      (owing .autoQuietEntry (atBoundary trunkUp)).Next .autoQuietEntry ∧
      { trunkUp.comb with recover := trunkUp.comb.recover.set 7 10 }.recover[7] = trunkUp.meas.recoverWindows ∧
      { trunkUp.mode with quietRun := 60 }.quietRun = trunkUp.mode.quietWindows :=
  ⟨next_at_boundary _ _ rfl, rfl, by decide, rfl, by decide, by decide, rfl, rfl, next_at_boundary _ _ rfl,
    next_at_boundary _ _ rfl, by decide, by decide⟩

/-- Operator 2 in AUTO, UP and CLEAN, with C5 in sector 2.0 and C6 in 2.1. RP7, which is UP, and RP8 are in sector 2.0 with
an occupancy of 256 of C5 each, and RP7 may move to 2.1. -/
def spreading : State :=
  let s := (operatorUp.modCarrier 6 fun k => { k with place := some ⟨2, 2, 1⟩ }).modPlan 2 fun p =>
    let b : Bank := ⟨(p.active.sectors.set 0 ⟨[5], 2⟩).set 1 ⟨[6], 2⟩,
      (p.active.zones.set 7 ⟨some 0, some 0, false, [1]⟩).set 8 ⟨some 0, some 0, false, []⟩⟩
    ⟨b, b, .clean⟩
  let s := (s.modRl 7 fun l => { l with state := .up, format := some .w16 }).recompute 7
  (s.modBal 2 fun k => { k with mode := .auto, hotLevel := 512, minShare := 256 }).withMeas fun m =>
    { m with position := 1, activity := (m.activity.set 7 (m.activity[7].set 5 20)).set 8 (m.activity[8].set 5 20) }

set_option maxRecDepth 8000 in
/-- The window of `spreading` makes sector 2.0 hot with RP7 as its candidate, and the move passes the trial and the load
tests. -/
theorem test_meets_BalancerEvaluates :
    (owing .windowEnd (atBoundary spreading)).Next .windowEnd ∧
      (owing .windowEnd (atBoundary spreading)).boundary = some { spreading.closingView with settled := true } ∧
      spreading.bal[2].mode = .auto ∧ spreading.mode.mode = .normal ∧ spreading.ol[2].state = .up ∧
      spreading.closingView.staged[(2 : OpId)] = .clean ∧ spreading.trialPasses 7 2 1 = true ∧
      (formSnapshot 0 spreading.meas spreading.closingView.banks spreading.comb.sat).share[(2 : OpId)][(7 : RemoteId)] = 256 ∧
      (formSnapshot 0 spreading.meas spreading.closingView.banks spreading.comb.sat).load[(16 : SectorId)] = 512 ∧
      2 * 256 + 0 ≤ 512 ∧ 0 + 256 < 512 ∧ spreading.rl[7].flags[0].present = false ∧ spreading.bal[2].holdOff[7] - 1 = 0 ∧
      trunkUp.bal[1].mode = .off ∧ (trunkUp.ol[1].state ≠ .up ∧
        (trunkUp.modBal 1 fun k => { k with mode := .advise }).bal[1].mode ≠ .off) ∧
      (spreading.modPlan 2 fun p => { p with state := .editing .control }).closingView.staged[(2 : OpId)] ≠ .clean :=
  ⟨next_at_boundary _ _ rfl, rfl, by decide, rfl, by decide, by decide, by decide, by decide, by decide, by decide,
    by decide, by decide, by decide, by decide, by decide, by decide⟩

set_option maxRecDepth 8000 in
/-- The Balancer moves RP7; at hot level 513 nothing is hot, and with RP7 pinned nothing moves (R118, R119, R124). -/
theorem test_balancer :
    (after .windowEnd (owing .windowEnd (atBoundary spreading))).bal[2].outcome = .moved ∧
      (after .windowEnd (owing .windowEnd (atBoundary
        (spreading.modBal 2 fun k => { k with hotLevel := 513 })))).bal[2].outcome = .noHot ∧
      (after .windowEnd (owing .windowEnd (atBoundary (spreading.modPlan 2 fun p => { p with active := { p.active with
        zones := p.active.zones.set 7 ⟨some 0, some 0, true, [1]⟩ } })))).bal[2].outcome = .noMove := by decide

theorem test_meets_Switchover :
    (owing (.switchover 2) (trunkUp.modPlan 2 fun p => { p with state := .armed .balancer false })).Next (.switchover 2) ∧
      (∀ ch ∈ [Channel.control, .service], ∀ cmd ∈ [Timed.planCommit 2, .balanceAccept 2 ⟨0, 7, 0, 1, 40, 90, 10⟩],
        ((trunkUp.modPlan 2 fun p => { p with state := .armed ch.origin true }).setBusy ch (some ⟨9, cmd⟩)).mgmt.busy ch =
          some ⟨9, cmd⟩) :=
  ⟨next_owing _ _ rfl rfl, by decide⟩

theorem test_meets_HubModeDecision :
    (owing .hubModeDecision ((trunkUp.withMode fun u => { u with requested := some .quiet }).withMgmt fun g =>
        { g with control := some ⟨9, .modeSet⟩ })).Next .hubModeDecision ∧
      (owing .hubModeDecision (trunkUp.withMode fun u => { u with auto := some .quiet })).Next .hubModeDecision ∧
      trunkUp.mode.mode ≠ .quiet :=
  ⟨next_owing _ _ rfl rfl, next_owing _ _ rfl rfl, by decide⟩

theorem test_meets_IsolationSteps :
    (owing .pendingIsolationApply ((trunkUp.withMode fun u => { u with pendingIso := some ⟨7, 0, true⟩ }).withMgmt fun g =>
        { g with control := some ⟨9, .isolate false⟩ })).Next .pendingIsolationApply ∧
      (owing .pendingIsolationApply ((only7.withMode fun u => { u with pendingIso := some ⟨7, 0, false⟩ }).withMgmt fun g =>
        { g with control := some ⟨9, .isolate false⟩ })).Next .pendingIsolationApply ∧
      only7.recheck 7 = some 16 ∧ trunkUp.recheck 7 = none ∧ (∀ q : RemoteId, .linkEntersUp q ∉ only7.due) ∧
      (owing (.isolationTimerExpiry 3) isolated3).Next (.isolationTimerExpiry 3) ∧
      ⟨3, 0, 1, some 0, false⟩ ∈ isolated3.mode.isolated ∧ isolated3.Ready .control ∧ isolated3.Listed 3 ∧
      ¬ isolated3.Listed 7 :=
  ⟨next_owing _ _ rfl rfl, next_owing _ _ rfl rfl, by decide, by decide, nofun, next_owing _ _ rfl rfl, by decide,
    ⟨⟨rfl, rfl, rfl⟩, by decide, rfl, rfl, nofun⟩, ⟨_, List.mem_singleton.mpr rfl, rfl⟩,
    by simp [Listed, isolated3, withMode]⟩

/-- WARM is in progress on the control channel, and a command or none on the service channel. -/
def warming (service : Option InProgress) : State :=
  trunkUp.withMgmt fun g => { g with control := some ⟨9, .warm⟩, service := service }

theorem test_meets_WarmReset :
    (∀ service, (owing .warmResetApplied (atBoundary (warming service))).Next .warmResetApplied) ∧
      (∀ service, (warming service).mgmt.control = some ⟨9, .warm⟩ ∧ (warming service).trunk.state = .up) ∧
      (warming none).mgmt.service = none ∧ (warming (some ⟨7, .planCommit 1⟩)).mgmt.service = some ⟨7, .planCommit 1⟩ ∧
      (warming (some ⟨7, .balanceAccept 1 ⟨0, 7, 0, 1, 40, 900, 100⟩⟩)).mgmt.service =
        some ⟨7, .balanceAccept 1 ⟨0, 7, 0, 1, 40, 900, 100⟩⟩ :=
  ⟨fun _ => next_at_boundary _ _ rfl, fun _ => ⟨rfl, rfl⟩, rfl, rfl, rfl⟩

theorem test_meets_ColdReset :
    trunkUp.resetPin = false ∧ Instr.linkFrameStart ≠ .resetPinRelease ∧
      (owing .coldResetApplied trunkUp).Next .coldResetApplied ∧ trunkUp.Ready .control :=
  ⟨rfl, by decide, next_owing _ _ rfl rfl, ready_trunkUp⟩

theorem test_meets_AlertPlacement :
    .alertPlacement ∈ (owing .alertPlacement trunkUp).due ∧ trunkUp.sup.pending = true ∧ trunkUp.sup.enable = true ∧
      trunkUp.alertBegun = false ∧ State.reset.trunk.state ≠ .up ∧
      .hubModeDecision ∉ (owing .alertPlacement trunkUp).due ∧
      .hubModeDecision ∈ ({ trunkUp with due := [.hubModeDecision, .alertPlacement] } : State).due := by
  refine ⟨List.mem_singleton.mpr rfl, ?_⟩; decide

theorem test_meets_AccessAndScope :
    trunkUp.Ready .control ∧ trunkUp.Ready .service ∧ trunkUp.mgmt.codes[1] = 0 ∧
      (trunkUp.withMgmt fun g => { g with codes := g.codes.set 1 5, scope := some 1 }).Ready .service ∧
      (trunkUp.withMgmt fun g => { g with codes := g.codes.set 1 5, scope := some 1 }).mgmt.codes[1] = 5 ∧
      (trunkUp.withMgmt fun g => { g with barred := true }).Ready .control :=
  ⟨ready_trunkUp, ready_service, by decide, ⟨⟨rfl, rfl, rfl⟩, by decide, rfl, rfl, fun _ => rfl⟩, by decide,
    ⟨⟨rfl, rfl, rfl⟩, by decide, rfl, rfl, nofun⟩⟩

theorem test_meets_LinkRestart :
    ∀ st ∈ [RemoteState.isolated, .off, .seek, .negotiate, .up, .lost, .mismatch],
      (link7 fun l => { l with state := st }).rl[7].state = st ∧
        (link7 fun l => { l with state := st }).Ready .control := by
  intro st _
  exact ⟨by revert st; decide, ⟨⟨rfl, rfl, rfl⟩, by simp [link7, modRl]; decide, rfl, rfl, nofun⟩⟩

theorem test_meets_LinkSet :
    up7.Ready .control ∧ (⟨false, false, true⟩ : FormatSet) ≠ ⟨false, false, false⟩ ∧ 65535 < 65536 ∧
      up7.rl[7].state ≠ .off ∧ offeredRestarts up7.rl[7] ⟨false, true, true⟩ = false ∧
      offeredRestarts up7.rl[7] ⟨true, false, true⟩ = true ∧ (link7 fun l => { l with state := .off }).rl[7].state = .off :=
  ⟨⟨⟨rfl, rfl, rfl⟩, by decide, rfl, rfl, nofun⟩, by decide, by decide, by decide, by decide, by decide, by decide⟩

theorem test_meets_SettingsStored : trunkUp.Ready .control ∧ 65535 < 65536 := ⟨ready_trunkUp, by decide⟩

/-- Four remotes are isolated. -/
def full : State := trunkUp.withMode fun u =>
  { u with isolated := [⟨0, 0, 0, none, true⟩, ⟨1, 0, 0, none, true⟩, ⟨2, 0, 0, none, true⟩, ⟨3, 0, 0, none, true⟩] }

theorem test_meets_TimedCommands :
    trunkUp.Ready .control ∧ ¬ trunkUp.Listed 7 ∧ trunkUp.rl[7].state ≠ .off ∧ trunkUp.mode.isolated.length < 4 ∧
      trunkUp.darkening 7 = none ∧ only7.darkening 7 = some 16 ∧ only7.Ready .control ∧ isolated3.Listed 3 ∧
      (link7 fun l => { l with state := .off }).rl[7].state = .off ∧ full.Ready .control ∧ ¬ full.Listed 7 ∧
      4 ≤ full.mode.isolated.length :=
  ⟨ready_trunkUp, by simp [Listed, trunkUp, State.reset], by decide, by decide, by decide, by decide,
    ⟨⟨rfl, rfl, rfl⟩, by decide, rfl, rfl, nofun⟩, ⟨_, List.mem_singleton.mpr rfl, rfl⟩, by decide,
    ⟨⟨rfl, rfl, rfl⟩, by decide, rfl, rfl, nofun⟩, by simp [Listed, full, withMode], by decide⟩

/-- The trunk-loss entry is CLEARED. -/
def cleared : State := trunkUp.withSup fun p => { p with alarms := p.alarms ++ [⟨⟨.trunkLinkLost, .device⟩, false, 0, 0, 1⟩] }

theorem test_meets_AlarmCommands :
    trunkUp.Ready .control ∧ (0xFFFE : BitVec 16).getLsbD 0 = false ∧ ⟨.timingHoldover, .device⟩ ∈ catalogue ∧
      (cleared.sup.entry ⟨.timingHoldover, .device⟩).map (·.active) = some true ∧
      (cleared.sup.entry ⟨.trunkLinkLost, .device⟩).map (·.active) = some false ∧ cleared.Ready .control :=
  ⟨ready_trunkUp, by decide, by decide, by decide, by decide, ⟨⟨rfl, rfl, rfl⟩, by decide, rfl, rfl, nofun⟩⟩

theorem test_meets_CarrierTable :
    carrier5.Ready .control ∧ slotHeld carrier5 5 2 1 = false ∧ isListed carrier5 5 = false ∧
      slotHeld carrier5 6 2 1 = true ∧ isListed listed5 5 = true ∧ slotHeld listed5 5 2 7 = false ∧
      (carrier5.carrier 5).place.isSome ∧ listed5.Ready .control ∧
      ((listed5.carrier 5).place = some ⟨2, 1, max 1 (min 0 4)⟩ ∧ (listed5.carrier 5).priority = min 4 7 ∧
        (listed5.carrier 5).eventOnly = false) ∧ (listed5.carrier 5).priority ≠ min 9 7 ∧
      slotHeld listed5 5 2 1 = false ∧ (carrier5.carrier 6).place = none :=
  ⟨⟨⟨rfl, rfl, rfl⟩, by decide, rfl, rfl, nofun⟩, by decide, by decide, by decide, by decide, by decide, by decide,
    ⟨⟨rfl, rfl, rfl⟩, by decide, rfl, rfl, nofun⟩, by decide, by decide, by decide, by decide⟩

theorem test_meets_PlanEdits :
    carrier5.Ready .control ∧ (carrier5.opPlan 2).state = .clean ∧ (∀ c ∈ [(5 : CarrierId)], carrier5.plan.owner c = some 2) ∧
      [(5 : CarrierId)].Nodup ∧ altsFit (some 0) [1, 2, 3] = true ∧
      ((carrier5.modPlan 2 fun p => { p with state := .armed .service true }).opPlan 2).state = .armed .service true ∧
      ((carrier5.modPlan 2 fun p => { p with state := .editing .service }).opPlan 2).state = .editing .service ∧
      (carrier5.withMgmt fun g => { g with scope := some 2 }).Ready .service ∧
      (carrier5.withMgmt fun g => { g with scope := some 2 }).mgmt.scope = some 2 :=
  ⟨⟨⟨rfl, rfl, rfl⟩, by decide, rfl, rfl, nofun⟩, by decide, by decide, by decide, by decide, by decide, by decide,
    ⟨⟨rfl, rfl, rfl⟩, by decide, rfl, rfl, fun _ => rfl⟩, rfl⟩

/-- Operator 2 is being edited by the control channel and has an advice. -/
def advised : State :=
  (carrier5.modPlan 2 fun p => { p with state := .editing .control }).modBal 2 fun b =>
    { b with advice := some ⟨0, 7, 0, 1, 40, 90, 10⟩ }

/-- Operator 2 has an advice that holds: RP7 may move from sector 2.0 to 2.1. -/
def holding : State :=
  let s := carrier5.modPlan 2 fun p =>
    let b : Bank := ⟨p.active.sectors.set 1 ⟨[5], 2⟩, p.active.zones.set 7 ⟨some 0, some 0, false, [1]⟩⟩
    ⟨b, b, .clean⟩
  (s.modRl 7 fun l => { l with state := .up, format := some .w16 }).modBal 2 fun b =>
    { b with advice := some ⟨0, 7, 0, 1, 40, 90, 10⟩ }

/-- Eight carriers of width class 4, two operators: with the staged bank of operator 2, RP7 needs 256 units. -/
def crowded : State :=
  let s := allCarriers.foldl (fun s c => s.modCarrier c fun k =>
    { k with place := some ⟨if c.val < 8 then 2 else 3, ⟨c.val % 8, by omega⟩, 4⟩ }) advised
  let s := s.modPlan 3 fun p => { p with active := ⟨p.active.sectors.set 0 ⟨[8, 9, 10, 11, 12, 13, 14, 15], 2⟩,
    p.active.zones.set 7 ⟨some 0, some 0, false, []⟩⟩ }
  let s := s.modPlan 2 fun p => { p with staged := ⟨p.active.sectors.set 0 ⟨[0, 1, 2, 3, 4, 5, 6, 7], 2⟩,
    p.active.zones.set 7 ⟨some 0, some 0, false, []⟩⟩ }
  s.modRl 7 fun l => { l with state := .up, format := some .w16 }

theorem test_meets_CommitRevertAccept :
    advised.Ready .control ∧ (advised.opPlan 2).state = .editing .control ∧ advised.fitFailure 2 = none ∧
      advised.mode.mode = .normal ∧ adviceHolds advised 2 ⟨0, 7, 0, 1, 40, 90, 10⟩ = false ∧
      adviceHolds holding 2 ⟨0, 7, 0, 1, 40, 90, 10⟩ = true ∧ holding.bal[2].advice.isSome ∧
      crowded.fitFailure 2 = some (7, 256) ∧ (crowded.opPlan 2).state = .editing .control :=
  ⟨⟨⟨rfl, rfl, rfl⟩, by decide, rfl, rfl, nofun⟩, by decide, by decide, by decide, by decide, by decide, by decide,
    by decide, by decide⟩

theorem test_meets_Reads :
    trunkUp.Ready .control ∧ 63 < 64 ∧ trunkUp.Ready .service ∧ trunkUp.mgmt.scope = none ∧
      (trunkUp.withMgmt fun g => { g with scope := some 1 }).Ready .service :=
  ⟨ready_trunkUp, by decide, ready_service, rfl, ⟨⟨rfl, rfl, rfl⟩, by decide, rfl, rfl, fun _ => rfl⟩⟩

theorem test_meets_AbortAndUnknown :
    trunkUp.Ready .service ∧ trunkUp.Quiet ∧ 0 < trunkUp.mgmt.free ∧
      (trunkUp.withMgmt fun g => { g with control := some ⟨9, .modeSet⟩ }).Quiet ∧
      ((trunkUp.modPlan 2 fun p => { p with state := .armed .control true }).opPlan 2).state = .armed .control true ∧
      0 < (trunkUp.withMgmt fun g => { g with control := some ⟨9, .warm⟩ }).mgmt.free :=
  ⟨ready_service, quiet_trunkUp, by decide, ⟨rfl, rfl, rfl⟩, by decide, by decide⟩

theorem test_meets_Admission :
    trunkUp.Quiet ∧ 0 < trunkUp.mgmt.free ∧ trunkUp.trunk.state = .up ∧ trunkUp.Ready .control ∧ trunkUp.Ready .service ∧
      (trunkUp.withMgmt fun g => { g with due := List.replicate 8 (reply .control 9 0x50 .done false []) }).mgmt.free = 0 ∧
      (trunkUp.withMgmt fun g => { g with barred := true }).mgmt.barred = true ∧
      (trunkUp.withMgmt fun g => { g with control := some ⟨9, .warm⟩ }).mgmt.control.isSome ∧
      (trunkUp.withMgmt fun g => { g with service := some ⟨9, .planCommit 1⟩ }).mgmt.service.isSome ∧
      trunkUp.mgmt.scope = none ∧ (trunkUp.withMgmt fun g => { g with scope := some 1 }).mgmt.scope = some 1 ∧
      (trunkUp.withMgmt fun g => { g with scope := some 1 }).Ready .service :=
  ⟨quiet_trunkUp, by decide, rfl, ready_trunkUp, ready_service, by decide, rfl, rfl, rfl, rfl, rfl,
    ⟨⟨rfl, rfl, rfl⟩, by decide, rfl, rfl, fun _ => rfl⟩⟩

set_option maxRecDepth 8000 in
/-- Parameters just out of their range or form: each clause of BAD_PARAMETER for an identifier, flag, format set, enumerated value
or list, and the service channel attached to operator 1. -/
theorem test_meets_Admission_parameters :
    ([0x01, 0xC0] : List Byte).head? = some (byte (1 : OpId).val) ∧ 4 ≤ (4 : Byte).toNat ∧ 24 ≤ (24 : Byte).toNat ∧
      6 ≤ (6 : Byte).toNat ∧ 2 ≤ (2 : Byte).toNat ∧ 64 ≤ (64 : Byte).toNat ∧ (0 : Byte).toNat = 0 ∧ 8 ≤ (8 : Byte).toNat ∧
      (1 : Byte).getLsbD 0 = true ∧ 16 < (17 : Byte).toNat ∧ ([1, 2, 3] : List Byte).length ≠ 2 * (1 : Byte).toNat ∧
      (∃ i < (1 : Byte).toNat, ∀ k ∈ catalogue,
        ¬ (([10, 0x22] : List Byte).getD (2 * i) 0 = byte k.kind.code ∧
          ([10, 0x22] : List Byte).getD (2 * i + 1) 0 = k.obj.code)) ∧
      3 ≤ (3 : Byte).toNat ∧ (0x52 : Byte) ∈ [0x32, 0x33, 0x37, 0x52] ∧ ¬ ([5, 5] : List Byte).Nodup ∧
      (∃ y : CarrierId, y.val = (6 : Byte).toNat ∧ ∀ p : OpId, p.val = (2 : Byte).toNat → listed5.plan.owner y ≠ some p) ∧
      (∃ y : CarrierId, y.val = (5 : Byte).toNat ∧ ∀ p : OpId, p.val = (1 : Byte).toNat → listed5.plan.owner y ≠ some p) ∧
      (8 ≤ (0xFE : Byte).toNat ∧ (0xFE : Byte) ≠ 0xFF) ∧ (0xFF = (0xFF : Byte) ∧ ([1] : List Byte) ≠ []) :=
  ⟨rfl, by decide, by decide, by decide, by decide, by decide, rfl, by decide, rfl, by decide, by decide,
    ⟨0, by decide, by decide⟩, by decide, by decide, by decide, ⟨6, rfl, by decide⟩, ⟨5, rfl, by decide⟩, by decide, by decide⟩

set_option maxRecDepth 8000 in
/-- A PLAN SECTOR that lists an UNUSED carrier, a PLAN ZONE whose alternate is its home, and a LINK SET with no format are refused
(R38, R39, R199). -/
theorem test_bad_parameters :
    (([.planSector 0x01 9 [2, 0, 1, 1, 6], .planZone 0x01 9 [2, 7, 3, 0, 1, 3], .linkSet 0x01 9 [7, 1, 0, 0, 0, 0, 1]] :
      List Instr).map fun i => (after i listed5).mgmt.due.map (·.result)) = [[.badParameter], [.badParameter], [.badParameter]] := by
  decide

theorem test_meets_ServiceChannelIsConfined :
    (trunkUp.withMgmt fun g => { g with scope := some 1 }).Quiet ∧
      (Instr.planHome 0x02 9 [1]).request = some (0x34, 0x02, 9, [1]) ∧ carrier5.plan.owner 5 = some 2 :=
  ⟨⟨rfl, rfl, rfl⟩, rfl, by decide⟩

theorem test_meets_ActiveBankOnlyBySwitchover :
    trunkUp.Quiet ∧ (∃ t, exec .superframeBoundary trunkUp = .next t) ∧
      (owing (.switchover 2) trunkUp).Next (.switchover 2) ∧ phase (.switchover 2) < requestPhase :=
  ⟨quiet_trunkUp, ⟨_, rfl⟩, next_owing _ _ rfl rfl, by decide⟩

/-- The state after reset meets every invariant, and a step from it answers a next state. -/
theorem test_meets_invariants :
    State.reset.PlacesBounded ∧ State.reset.AlarmsBounded ∧ State.reset.GuardBounded ∧ State.reset.SumsFormed ∧
      State.reset.CleanMatches ∧ State.reset.IsolationBounded ∧ step State.reset = .next State.reset := by
  refine ⟨(by decide : _ ≤ _), ⟨by decide, by decide⟩, ?_, ⟨by decide, nofun, by decide, by decide⟩, ?_,
    ⟨by decide, by decide, nofun⟩, rfl⟩
  · intro r; revert r; decide
  · intro o _; revert o; decide

theorem cold_formed : BankFormed Bank.cold :=
  ⟨fun i => by simp [Bank.cold], fun r => by simp [Bank.cold]⟩

/-- A hub at a boundary, all its banks cold, meets the invariant of banks. -/
theorem test_meets_BanksFormed : (atBoundary trunkUp).BanksFormed ∧ (atBoundary trunkUp).CleanMatches := by
  have cold : ∀ o : OpId, (trunkUp.opPlan o).active = .cold ∧ (trunkUp.opPlan o).staged = .cold := by decide
  refine ⟨⟨fun o => ?_, fun b hb o _ r => ?_⟩, fun o _ => ?_⟩
  · exact ⟨(cold o).1 ▸ cold_formed, (cold o).2 ▸ cold_formed⟩
  · cases hb
    have closing : (trunkUp.closingView.banks)[o] = .cold := by revert o; decide
    show SameZone (trunkUp.closingView.banks)[o].zones[r] (trunkUp.opPlan o).active.zones[r] ∧
      SameZone (trunkUp.closingView.banks)[o].zones[r] (trunkUp.opPlan o).staged.zones[r]
    rw [closing, (cold o).1, (cold o).2]
    exact ⟨⟨rfl, rfl, rfl⟩, ⟨rfl, rfl, rfl⟩⟩
  · exact (cold o).2.trans (cold o).1.symm

/-- The state after reset meets the placement invariant. -/
theorem test_meets_PlacementInvariant : State.reset.PlansAndLinksFormed ∧ State.reset.PlacementDerived := by
  refine ⟨⟨fun o i c h => ?_, fun r => ⟨fun h => ?_, fun h => ?_⟩⟩, fun r => ?_, fun _ => ⟨fun x => ?_, fun r => ?_⟩⟩
  · have : ∀ (o : OpId) (i : SectorIx), (State.reset.opPlan o).active.sectors[i].carriers = [] ∧
      (State.reset.opPlan o).staged.sectors[i].carriers = [] := by decide
    rw [(this o i).1, (this o i).2] at h; exact absurd h (by simp)
  · exact absurd h (by revert r; decide)
  · exact absurd h (by revert r; decide)
  · revert r; decide
  · refine ⟨fun h => absurd h (by revert x; decide), fun ⟨⟨c, hc, _⟩, _⟩ => ?_⟩
    have : ∀ (o : OpId) (i : SectorIx), (State.reset.opPlan o).active.sectors[i].carriers = [] := by decide
    rw [this] at hc; exact absurd hc (by simp)
  · revert r; decide

set_option maxRecDepth 8000 in
/-- LINK RESTART in the trunk frame that also relocks the Timebase: the sector that RP7 alone carried is dark at once, with its
alarm (R58, R63). -/
theorem test_restart_at_relock :
    let s : State := { only7 with
      tb := { only7.tb with state := .relocking }, due := [.timebaseRelock false, .linkRestart 0x01 9 [7]] }
    s.drain.place.dark[(16 : SectorId)] = true ∧
      (s.drain.sup.alarms.any fun e => e.active && e.key = ⟨.sectorDark, .sector 16⟩) = true := by decide

set_option maxRecDepth 8000 in
/-- A window ends at the boundary at which the reference's link frame 0 starts, and TIMING_HOLDOVER has lost its entry: taken
in that boundary the frame relocks first, and the resweep does not raise what has ended; with no such frame it does (R26,
R161). -/
theorem test_relock_at_window_end :
    let s : State := { atBoundary (onTrunk .relocking) with
      due := [.windowEnd], sup := { State.reset.sup with alarms := [], seq := 5 } }
    let t := after (.trunkFrameReceived ⟨good 0 typeIdle [], [], true⟩) s
    t.tb.state = .locked ∧ t.meas.snap.closing = -1 ∧ t.sup.alarms = [] ∧ t.sup.seq = 5 ∧
      (after .windowEnd s).sup.alarms.map (·.key) = [⟨.timingHoldover, .device⟩] := by decide

/-- A relock inside a superframe drops what the blocks of the cut link frame counted (R26, R99). -/
theorem test_cut_counts :
    let s : State := { trunkUp with meas := { trunkUp.meas with heldPeak := trunkUp.meas.heldPeak.set 7 900 } }
    (after (.timebaseRelock false) (owing (.timebaseRelock false)
      { s with tb := { s.tb with state := .relocking } })).meas.peak[(7 : RemoteId)] = 0 ∧
      (s.cutFrame).meas.heldPeak[(7 : RemoteId)] = 0 := by decide

/-- ISOLATE of a remote that alone carries a sector is refused with the sector's code (R144, section 10.3). -/
theorem test_isolate_would_darken :
    ((after (.isolate 0x01 9 [7, 0, 0, 0]) only7).mgmt.due.map fun x => (x.result, x.data)) = [(.wouldDarken, [0x50])] := by
  decide

set_option maxRecDepth 8000 in
/-- A CAPABILITY word {W12, W8} on a link that offers all formats orders W12 (the example of RP7, after R21). -/
theorem test_capability :
    (after (.remoteFrameReceived 7 ⟨good 0 typeCapability [0x06], []⟩) awaiting).rl[7].phase = .ordered ∧
      (after (.remoteFrameReceived 7 ⟨good 0 typeCapability [0x06], []⟩) awaiting).rl[7].chosen = some .w12 := by decide

/-- A full alarm list: the entries at positions 0 and 1 are CLEARED, the others ACTIVE. -/
def fullList : Supervision :=
  { State.reset.sup with
    alarms := ((catalogue.take 64).zipIdx).map fun x => ⟨x.1, decide (2 ≤ x.2), 0, 0, 1⟩, overflow := true }

/-- The acknowledgement race on a full list (R166): the ALARM ACK of the entry at position 0 clears the overflow flag and
opens the race for another key in its own superframe, not for the key it removed, which is appended (first row); the ALARM
ACK of the entry at position 1 opens none. What the fifth row would evict is the next CLEARED entry. -/
theorem test_ack_race :
    let p := (fullList.ack 5 [⟨.linkLost, .remote 0⟩]).1
    p.alarms.length = 63 ∧ p.overflow = false ∧ p.raced 5 ⟨.farPa, .remote 16⟩ = true ∧
      p.raced 6 ⟨.farPa, .remote 16⟩ = false ∧ p.raced 5 ⟨.linkLost, .remote 0⟩ = false ∧
      (p.raise 5 ⟨.linkLost, .remote 0⟩).alarms.getLast? = some ⟨⟨.linkLost, .remote 0⟩, true, 5, 5, 1⟩ ∧
      (fullList.ack 5 [⟨.linkLost, .remote 1⟩]).1.race = none ∧
      (p.evict.map fun q => q.alarms.any fun e => !e.active) = some false := by decide

/-- A payload that ends inside the directory is read on with zeros, whose tags do not ascend (log entry 9, R4). -/
theorem test_short_directory : containersOf [5, 4] = [] ∧ containersOf [5, 4, 0xFF] = [⟨5, 4, 0⟩] := by decide

end Sys2Proof.Tests
end

section
/-! SUPPORT. A request on a ready channel (R179, R180), the Timebase's state (R25, R156), and what a link restart does to a
link record, its placement record and its gates (R12). -/

namespace Sys2Proof.Machine.State

/-! ## Requests on a ready channel -/

theorem Ready.quiet {s : State} {ch : Channel} (h : s.Ready ch) : s.Quiet := h.1

theorem Ready.trunk_up {s : State} {ch : Channel} (h : s.Ready ch) : s.trunk.state = .up := by
  obtain ⟨_, _, up, _, _⟩ := h
  exact up

/-- A request on a ready channel whose scope test takes it is carried out as the command's own rule decides. -/
theorem requestStep_of_ready {s : State} {ch : Channel} {x : Instr} {code tag : Byte} {ps : List Byte}
    {scope : Channel → List Byte → State → ScopeVerdict} {body : Channel → List Byte → State → Answer}
    (ready : s.Ready ch) (taken : scope ch ps s = .taken)
    (hx : effect x s = s.request code scope body ch.code tag ps) :
    awake s (fun s => s.requestStep x) = .next (carryOut ch tag code (body ch ps s)) := by
  obtain ⟨pin, _, _⟩ := ready.quiet
  rw [awake_next _ _ pin, requestStep_of_quiet s x ready.quiet, hx, request_of_ready _ _ _ _ _ _ _ ready taken]

/-- An answer at once on an UP trunk is the command's own state with its response due. -/
theorem carryOut_now_of_up (ch : Channel) (tag code : Byte) (x : Result) (b : Bool) (d : List Byte) {t : State}
    (up : t.trunk.state = .up) : carryOut ch tag code (.now x b d t) = t.answering (reply ch tag code x b d) :=
  respond_up _ _ up

/-- TIMING SET on the control channel, ready. -/
theorem exec_timingSet_of_ready {s : State} (tag : Byte) (ps : List Byte) (ready : s.Ready .control) :
    exec (.timingSet 0x01 tag ps) s = .next (carryOut .control tag 0x14 (doTimingSet .control ps s)) :=
  requestStep_of_ready (x := .timingSet 0x01 tag ps) (scope := venueScope) ready rfl rfl

/-- LINK RESTART on the control channel, ready. -/
theorem exec_linkRestart_of_ready {s : State} (tag : Byte) (ps : List Byte) (ready : s.Ready .control) :
    exec (.linkRestart 0x01 tag ps) s = .next (carryOut .control tag 0x13 (doLinkRestart .control ps s)) :=
  requestStep_of_ready (x := .linkRestart 0x01 tag ps) (scope := venueScope) ready rfl rfl

/-! ## The Timebase -/

@[simp] theorem setTimebase_tb (s : State) (x : TimebaseState) : (s.setTimebase x).tb = { s.tb with state := x } := by
  rw [setTimebase_eq]

@[simp] theorem setTimebase_trunk (s : State) (x : TimebaseState) : (s.setTimebase x).trunk = s.trunk := by
  rw [setTimebase_eq]

/-- TIMING_HOLDOVER holds in HOLDOVER and RELOCKING and in no other state (R156). -/
theorem holds_timingHoldover_iff (s : State) :
    s.holds ⟨.timingHoldover, .device⟩ = true ↔ s.tb.state = .holdover ∨ s.tb.state = .relocking := by
  simp [holds]

/-! ## Placement records under a change of conditions -/

@[simp] theorem settleDark_records (s : State) (x : SectorId) : (s.settleDark x).place.records = s.place.records := rfl
@[simp] theorem settleShed_records (s : State) (r : RemoteId) : (s.settleShed r).place.records = s.place.records := rfl
@[simp] theorem settleOverload_records (s : State) (r : RemoteId) :
    (s.settleOverload r).place.records = s.place.records := rfl

@[simp] theorem settleConditions_records (s : State) : s.settleConditions.place.records = s.place.records := by
  unfold settleConditions
  rw [foldl_keeps (·.place.records) _ settleOverload_records, foldl_keeps (·.place.records) _ settleShed_records,
    foldl_keeps (·.place.records) _ settleDark_records]

@[simp] theorem placementChanged_records (s : State) : s.placementChanged.place.records = s.place.records := by
  unfold placementChanged; split <;> simp

@[simp] theorem placementChanged_record (s : State) (r : RemoteId) : s.placementChanged.record r = s.record r := by
  simp [record]

@[simp] theorem placementChanged_rl (s : State) : s.placementChanged.rl = s.rl :=
  (congrArg State.rl (placementChanged_restOfPlacement s) :)

@[simp] theorem placementChanged_comb (s : State) : s.placementChanged.comb = s.comb :=
  (congrArg State.comb (placementChanged_restOfPlacement s) :)

/-- A remote whose link is not UP has an empty record (R58). -/
theorem derive_of_not_up {s : State} {r : RemoteId} (h : s.rl[r].state ≠ .up) : s.derive r = .empty := by
  simp only [derive, upFormat, if_neg h]

/-! ## A link leaves UP (R12, R91) -/

@[simp] theorem clearFar_rl (s : State) (r : RemoteId) : (s.clearFar r).rl = s.rl := rfl
@[simp] theorem clearFar_place (s : State) (r : RemoteId) : (s.clearFar r).place = s.place := rfl
@[simp] theorem clearFar_comb (s : State) (r : RemoteId) : (s.clearFar r).comb = s.comb := rfl

@[simp] theorem withdraw_rl (s : State) (r : RemoteId) : (s.withdraw r).rl = s.rl := rfl
@[simp] theorem withdraw_place (s : State) (r : RemoteId) : (s.withdraw r).place = s.place := rfl
@[simp] theorem withdraw_gates (s : State) (r : RemoteId) : (s.withdraw r).comb.gates = s.comb.gates := rfl
@[simp] theorem withdraw_guard (s : State) (r : RemoteId) : (s.withdraw r).comb.guard = s.comb.guard := rfl

@[simp] theorem recompute_rl (s : State) (r : RemoteId) : (s.recompute r).rl = s.rl := rfl
@[simp] theorem recompute_comb (s : State) (r : RemoteId) : (s.recompute r).comb = s.comb := rfl

theorem recompute_record_other (s : State) {r q : RemoteId} (h : q ≠ r) : (s.recompute r).record q = s.record q :=
  setRecord_other s _ h

/-- A remote whose link is not UP is left with an empty record. -/
theorem recompute_record_of_not_up {s : State} {r : RemoteId} (h : s.rl[r].state ≠ .up) :
    (s.recompute r).record r = .empty := by rw [recompute, setRecord_same, derive_of_not_up h]

/-- A link record when its link goes to another state: with the leave-UP fields if it was UP (R12). -/
def moved (l : RemoteLink) (target : RemoteState) : RemoteLink :=
  { (if l.state = .up then leftUp l else l) with state := target }

theorem moved_of_up {l : RemoteLink} (target : RemoteState) (h : l.state = .up) :
    moved l target = { leftUp l with state := target } := by rw [moved, if_pos h]

theorem moved_of_not_up {l : RemoteLink} (target : RemoteState) (h : l.state ≠ .up) :
    moved l target = { l with state := target } := by rw [moved, if_neg h]

@[simp] theorem leaveUp_rl (s : State) (r : RemoteId) (target : RemoteState) :
    (s.leaveUp r target).rl = (s.modRl r fun l => { leftUp l with state := target }).rl := by
  simp only [leaveUp, placementChanged_rl, recompute_rl, withdraw_rl, modRl, clearFar_rl]

@[simp] theorem leaveUp_gates (s : State) (r : RemoteId) (target : RemoteState) :
    (s.leaveUp r target).comb.gates = s.comb.gates := by
  simp only [leaveUp, placementChanged_comb, recompute_comb, withdraw_gates, modRl_comb, clearFar_comb]

@[simp] theorem leaveUp_guard (s : State) (r : RemoteId) (target : RemoteState) :
    (s.leaveUp r target).comb.guard = s.comb.guard := by
  simp only [leaveUp, placementChanged_comb, recompute_comb, withdraw_guard, modRl_comb, clearFar_comb]

/-- Leaving UP empties the remote's placement record (R58). -/
theorem leaveUp_record_same (s : State) (r : RemoteId) {target : RemoteState} (h : target ≠ .up) :
    (s.leaveUp r target).record r = .empty := by
  rw [leaveUp, placementChanged_record, recompute_record_of_not_up]
  rwa [withdraw_rl, modRl_same]

theorem leaveUp_record_other (s : State) {r q : RemoteId} (target : RemoteState) (h : q ≠ r) :
    (s.leaveUp r target).record q = s.record q := by
  rw [leaveUp, placementChanged_record, recompute_record_other _ h]
  simp only [record, withdraw_place, modRl_place, clearFar_place]

/-! ## A link goes to another state (R9, R12) -/

theorem moveLink_of_up {s : State} {r : RemoteId} (target : RemoteState) (h : s.rl[r].state = .up) :
    s.moveLink r target = s.leaveUp r target := by simp only [moveLink, h]

/-- A link that was not UP goes to its new state, and at most LINK_MISMATCH ends. -/
theorem moveLink_of_not_up {s : State} {r : RemoteId} (target : RemoteState) (h : s.rl[r].state ≠ .up) :
    s.moveLink r target =
      { (s.modRl r fun l => { l with state := target }) with sup := (s.moveLink r target).sup } := by
  unfold moveLink
  split
  · contradiction
  · rfl
  · rfl

theorem moveLink_rl_same (s : State) (r : RemoteId) (target : RemoteState) :
    (s.moveLink r target).rl[r] = moved s.rl[r] target := by
  by_cases up : s.rl[r].state = .up
  · rw [moveLink_of_up _ up, leaveUp_rl, modRl_same, moved_of_up _ up]
  · rw [moveLink_of_not_up _ up, modRl_same, moved_of_not_up _ up]

theorem moveLink_rl_other (s : State) {r q : RemoteId} (target : RemoteState) (h : q ≠ r) :
    (s.moveLink r target).rl[q] = s.rl[q] := by
  by_cases up : s.rl[r].state = .up
  · rw [moveLink_of_up _ up, leaveUp_rl, modRl_other _ _ h]
  · rw [moveLink_of_not_up _ up, modRl_other _ _ h]

@[simp] theorem moveLink_gates (s : State) (r : RemoteId) (target : RemoteState) :
    (s.moveLink r target).comb.gates = s.comb.gates := by
  by_cases up : s.rl[r].state = .up
  · rw [moveLink_of_up _ up, leaveUp_gates]
  · rw [moveLink_of_not_up _ up, modRl_comb]

@[simp] theorem moveLink_guard (s : State) (r : RemoteId) (target : RemoteState) :
    (s.moveLink r target).comb.guard = s.comb.guard := by
  by_cases up : s.rl[r].state = .up
  · rw [moveLink_of_up _ up, leaveUp_guard]
  · rw [moveLink_of_not_up _ up, modRl_comb]

theorem moveLink_record_other (s : State) {r q : RemoteId} (target : RemoteState) (h : q ≠ r) :
    (s.moveLink r target).record q = s.record q := by
  by_cases up : s.rl[r].state = .up
  · rw [moveLink_of_up _ up, leaveUp_record_other _ _ h]
  · rw [moveLink_of_not_up _ up, record, modRl_place, record]

/-! ## A link restart (R12) -/

@[simp] theorem closeGates_same (s : State) (r : RemoteId) :
    (s.closeGates r).comb.gates[r] = Vector.replicate 24 ⟨false, 0⟩ := by simp [closeGates]

theorem closeGates_other (s : State) {r q : RemoteId} (h : q ≠ r) :
    (s.closeGates r).comb.gates[q] = s.comb.gates[q] := by
  have : (r : Nat) ≠ q := fun e => h (Fin.ext e.symm)
  simp [closeGates, Vector.getElem_set_ne, this]

/-- The link record after a restart: its move to the target state, and the fields that a restart clears. -/
theorem restartInto_rl_same (s : State) (r : RemoteId) (target : RemoteState) :
    (s.restartInto r target).rl[r] = restarted (moved s.rl[r] target) := by
  rw [restartInto, closeGates_rl, modRl_same, moveLink_rl_same]

theorem restartInto_record (s : State) (r q : RemoteId) (target : RemoteState) :
    (s.restartInto r target).record q = (s.moveLink r target).record q := rfl

theorem restartInto_gates_same (s : State) (r : RemoteId) (target : RemoteState) :
    (s.restartInto r target).comb.gates[r] = Vector.replicate 24 ⟨false, 0⟩ := closeGates_same _ r

@[simp] theorem restartInto_guard (s : State) (r : RemoteId) (target : RemoteState) :
    (s.restartInto r target).comb.guard = s.comb.guard := moveLink_guard s r target

/-- A restart of one link leaves every other remote its link record, gates and placement record. -/
theorem restartInto_sameOtherRemotes (s : State) (r : RemoteId) (target : RemoteState) :
    s.SameOtherRemotes (s.restartInto r target) r := by
  intro q hq
  refine ⟨?link, ?gates, moveLink_record_other s target hq⟩
  case link => rw [restartInto, closeGates_rl, modRl_other _ _ hq, moveLink_rl_other s target hq]
  case gates => rw [restartInto, closeGates_other _ hq, modRl_comb, moveLink_gates]

/-- States that agree outside the links, gates, sums, placement and alarm list differ in those alone. -/
theorem sameButLinks_of_restOfLinks {s t : State} (h : t.restOfLinks = s.restOfLinks) : s.SameButLinks t :=
  (congrArg (fun u : State => { u with rl := t.rl, comb := t.comb, place := t.place, sup := t.sup }) h :)

/-- A restart of an UP link has the leave-UP effects (R12, R58). -/
theorem restartInto_leftUp (s : State) (r : RemoteId) {target : RemoteState} (h : target ≠ .up)
    (up : s.rl[r].state = .up) : (s.restartInto r target).LeftUp r := by
  have record : (s.restartInto r target).record r = .empty := by
    rw [restartInto_record, moveLink_of_up _ up, leaveUp_record_same s r h]
  rw [LeftUp, restartInto_rl_same, moved_of_up _ up]
  exact ⟨rfl, rfl, rfl, rfl, record⟩

/-- A link restart has exactly the effects of R12. -/
theorem restartInto_restarted (s : State) (r : RemoteId) {target : RemoteState} (h : target ≠ .up) :
    s.Restarted (s.restartInto r target) r target := by
  have others := restartInto_sameOtherRemotes s r target
  have rest := sameButLinks_of_restOfLinks (restartInto_restOfLinks s r target)
  have left := restartInto_leftUp s r h
  rw [Restarted, restartInto_rl_same, restartInto_gates_same, restartInto_guard]
  by_cases up : s.rl[r].state = .up
  · rw [moved_of_up _ up]
    simp only [restarted, leftUp, true_and]
    exact ⟨left, others, rest⟩
  · rw [moved_of_not_up _ up]
    simp only [restarted, true_and]
    exact ⟨left, others, rest⟩

theorem restart_restarted (s : State) (r : RemoteId) : s.Restarted (s.restart r) r .seek :=
  restartInto_restarted s r (by decide)

/-- A restart by itself counts no negotiation failure (R12). -/
theorem restart_negFail (s : State) (r : RemoteId) : (s.restart r).rl[r].negFail = s.rl[r].negFail := by
  rw [restart, restartInto_rl_same, restarted, moved]
  split <;> rfl

@[simp] theorem restart_trunk (s : State) (r : RemoteId) : (s.restart r).trunk = s.trunk :=
  (congrArg State.trunk (restart_restOfLinks s r) :)

/-- LINK_MISMATCH holds in MISMATCH alone (R9, R156). -/
theorem holds_linkMismatch_eq_false {s : State} {r : RemoteId} (h : s.rl[r].state ≠ .mismatch) :
    s.holds ⟨.linkMismatch, .remote r⟩ = false := decide_eq_false h

end Sys2Proof.Machine.State

namespace Sys2Proof.Machine

/-! ## Operands -/

/-- The code of a reference is read back. -/
@[simp] theorem referenceOf_code (ref : Reference) : referenceOf ref.code = some ref := by
  cases ref with
  | trunk => rfl
  | op o => revert o; decide
  | free => rfl

/-- The codes end at FREE (R27). -/
theorem referenceOf_of_le {b : Byte} (h : 6 ≤ b.toNat) : referenceOf b = none := by
  unfold referenceOf
  split
  case h_7 => rfl
  all_goals omega

/-- The number of a remote is read back. -/
@[simp] theorem remoteOf_byte (r : RemoteId) : remoteOf (byte r.val) = some r := by revert r; decide

/-! ## The state that TIMING SET gives (R27) -/

theorem timingState_of_not_up {s : State} {ref : Reference} {l : TermLinkId} (names : State.referenceLink ref = some l)
    (down : (s.term l).state ≠ .up) : timingState s ref = .holdover := by simp [timingState, names, down]

theorem timingState_of_up {s : State} {ref : Reference} {l : TermLinkId} (names : State.referenceLink ref = some l)
    (up : (s.term l).state = .up) :
    timingState s ref = if ref = s.tb.reference ∧ s.tb.state = .locked then .locked else .relocking := by
  simp [timingState, names, up]

/-- TIMING SET of a named reference takes the selection and the state that it gives. -/
theorem doTimingSet_code (ch : Channel) (s : State) (ref : Reference) :
    doTimingSet ch [ref.code] s =
      answerDone false ({ s with tb := { s.tb with reference := ref } }.setTimebase (timingState s ref)) := by
  simp [doTimingSet, referenceParams, withParams]

/-- TIMING SET of any other value is refused. -/
theorem doTimingSet_of_le (ch : Channel) (s : State) {b : Byte} (h : 6 ≤ b.toNat) :
    doTimingSet ch [b] s = refuse .badParameter s := by
  simp [doTimingSet, referenceParams, withParams, referenceOf_of_le h]

/-! ## What LINK RESTART does with a link (R21) -/

theorem doLinkRestart_of_isolated (ch : Channel) {s : State} {r : RemoteId} (h : s.rl[r].state = .isolated) :
    doLinkRestart ch [byte r.val] s = refuse .isolated s := by
  simp only [doLinkRestart, remoteParams, remoteOf_byte, withParams, h]

theorem doLinkRestart_of_off (ch : Channel) {s : State} {r : RemoteId} (h : s.rl[r].state = .off) :
    doLinkRestart ch [byte r.val] s = answerDone false s := by
  simp only [doLinkRestart, remoteParams, remoteOf_byte, withParams, h]

/-- In the states that the first two branches leave out, the link restarts. -/
theorem doLinkRestart_of_restarting (ch : Channel) {s : State} {r : RemoteId} (notIsolated : s.rl[r].state ≠ .isolated)
    (notOff : s.rl[r].state ≠ .off) : doLinkRestart ch [byte r.val] s = answerDone false (s.restart r) := by
  simp only [doLinkRestart, remoteParams, remoteOf_byte, withParams]

end Sys2Proof.Machine
end

section
/-! The statements on TIMING SET and LINK RESTART. -/

namespace Sys2Proof.Proofs

open Sys2Proof.Machine Sys2Proof.Machine.State

/-- Settles O18: the state TIMING SET gives, case by case of the link that the reference names. -/
theorem timingSet : Obligations.TimingSet := by
  intro s tag ready
  have up := ready.trunk_up
  refine ⟨fun ref => ?_, fun b h => ?_⟩
  · refine ⟨{ s with tb := { s.tb with reference := ref } }.setTimebase (timingState s ref), ?_, ?_, ?_, ?_, ?_, ?_,
      holds_timingHoldover_iff _⟩
    · rw [exec_timingSet_of_ready tag _ ready, doTimingSet_code, answerDone, carryOut_now_of_up]
      simpa using up
    · rw [setTimebase_eq]
    · simp
    · simp
    · rintro rfl
      simp [timingState, referenceLink]
    · intro l names
      simp only [setTimebase_tb]
      refine ⟨timingState_of_not_up names, fun linkUp same locked => ?_, fun linkUp other => ?_⟩
      · rw [timingState_of_up names linkUp, if_pos ⟨same, locked⟩]
      · rw [timingState_of_up names linkUp, if_neg other]
  · rw [exec_timingSet_of_ready tag _ ready, doTimingSet_of_le _ _ h, refuse, carryOut_now_of_up _ _ _ _ _ _ up]

/-- Settles O42: an ISOLATED link is refused, an OFF link is left, and any other restarts with the effects of R12. -/
theorem linkRestart : Obligations.LinkRestart := by
  intro s tag r ready
  have up := ready.trunk_up
  rw [exec_linkRestart_of_ready tag _ ready]
  refine ⟨fun isolated => ?_, fun off => ?_, fun notIsolated notOff => ?_⟩
  · rw [doLinkRestart_of_isolated _ isolated, refuse, carryOut_now_of_up _ _ _ _ _ _ up]
  · rw [doLinkRestart_of_off _ off, answerDone, carryOut_now_of_up _ _ _ _ _ _ up]
  · have restarted := restart_restarted s r
    have seeks : (s.restart r).rl[r].state ≠ .mismatch := by rw [restarted.1]; decide
    refine ⟨s.restart r, ?_, restarted, restart_negFail s r, holds_linkMismatch_eq_false seeks⟩
    rw [doLinkRestart_of_restarting _ notIsolated notOff, answerDone, carryOut_now_of_up]
    rwa [restart_trunk]

end Sys2Proof.Proofs
end

section
/-! SUPPORT. The Placement Unit's derivation as its rules say it: the routed set (R53), the order of shedding and what shedding
leaves (R54, R55), and the search for the backoff step (R56). -/

namespace Sys2Proof.Machine

/-! ## The routed set (R53) -/

/-- The carriers that a bank calls for at a remote are those of its current sector (R34). -/
theorem Bank.mem_calls_iff {b : Bank} {r : RemoteId} {c : CarrierId} :
    c ∈ b.calls r ↔ ∃ i, b.zones[r].cur = some i ∧ c ∈ b.sectors[i].carriers := by
  unfold Bank.calls
  split
  case h_1 unzoned => simp only [unzoned, List.not_mem_nil, reduceCtorEq, false_and, exists_false]
  case h_2 current => simp only [current, Option.some.injEq, exists_eq_left']

namespace PlanStore

theorem mem_activeCalls_iff {ps : PlanStore} {r : RemoteId} {l : List CarrierId} :
    l ∈ ps.activeCalls r ↔ ∃ o : OpId, ps.plans[o].active.calls r = l := by
  simp [activeCalls, allOps]

theorem mem_route_iff {ps : PlanStore} {mode : HubMode} {calls : List (List CarrierId)} {c : CarrierId} :
    c ∈ ps.route mode calls ↔ (∃ l ∈ calls, c ∈ l) ∧ ps.suspended mode c = false := by
  simp [route, allCarriers]

/-- The routed set ascends in carrier number (R53). -/
theorem route_ascending (ps : PlanStore) (mode : HubMode) (calls : List (List CarrierId)) :
    (ps.route mode calls).Pairwise (· < ·) :=
  (List.pairwise_lt_finRange 24).filter _

/-! ## Units (R54) -/

theorem units_perm (ps : PlanStore) (f : Format) {cs ds : List CarrierId} (h : cs.Perm ds) : ps.units f cs = ps.units f ds :=
  (h.map _).sum_eq

/-! ## The order of shedding (R55) -/

theorem shedBefore_iff {ps : PlanStore} {a b : CarrierId} :
    ps.shedBefore a b = true ↔ ps.carriers[b].priority < ps.carriers[a].priority ∨
      (ps.carriers[a].priority = ps.carriers[b].priority ∧ b < a) := by
  rw [shedBefore, Bool.or_eq_true, decide_eq_true_iff, Bool.and_eq_true, decide_eq_true_iff, decide_eq_true_iff, Fin.lt_def]

theorem shedBefore_trans {ps : PlanStore} {a b c : CarrierId} (hab : ps.shedBefore a b = true)
    (hbc : ps.shedBefore b c = true) : ps.shedBefore a c = true := by
  simp only [shedBefore_iff, Fin.lt_def] at *
  omega

/-- Of two different carriers one is shed before the other. -/
theorem shedBefore_of_not {ps : PlanStore} {a b : CarrierId} (hne : a ≠ b) (h : ¬ ps.shedBefore a b = true) :
    ps.shedBefore b a = true := by
  simp only [shedBefore_iff, Fin.lt_def, ne_eq, Fin.ext_iff] at *
  omega

theorem exists_shedNext {ps : PlanStore} {cs : List CarrierId} (h : cs ≠ []) : ∃ c, ps.shedNext cs = some c := by
  cases cs with
  | nil => contradiction
  | cons c cs =>
    simp only [shedNext]
    split
    · exact ⟨c, rfl⟩
    · split <;> exact ⟨_, rfl⟩

theorem shedNext_eq_none {ps : PlanStore} {cs : List CarrierId} (h : ps.shedNext cs = none) : cs = [] := by
  by_contra hne
  obtain ⟨c, hc⟩ := exists_shedNext (ps := ps) hne
  simp [hc] at h

/-- The carrier that is shed next is one of the set, and is shed before every other of the set (R55). -/
theorem shedNext_spec {ps : PlanStore} {cs : List CarrierId} {c : CarrierId} (h : ps.shedNext cs = some c) :
    c ∈ cs ∧ ∀ d ∈ cs, d ≠ c → ps.shedBefore c d = true := by
  induction cs generalizing c with
  | nil => simp [shedNext] at h
  | cons a cs ih =>
    simp only [shedNext] at h
    split at h
    case h_1 last =>
      obtain rfl := shedNext_eq_none last
      cases h
      simp
    case h_2 b best =>
      obtain ⟨mem, before⟩ := ih best
      split at h <;> cases h
      case isTrue first =>
        refine ⟨List.mem_cons_self, fun d hd hne => ?_⟩
        have hd := (List.mem_cons.mp hd).resolve_left hne
        by_cases hdb : d = b
        · exact hdb ▸ first
        · exact shedBefore_trans first (before d hd hdb)
      case isFalse notFirst =>
        refine ⟨List.mem_cons_of_mem _ mem, fun d hd hne => ?_⟩
        rcases List.mem_cons.mp hd with rfl | hd
        · exact shedBefore_of_not hne notFirst
        · exact before d hd hne

/-! ## Shedding (R55) -/

/-- R55 as a relation between a set, the carriers that stay and the carriers shed in their order: a set of at most 192 units
stays whole, and from a larger one the carrier that is shed next is removed and the rest is treated alike. -/
inductive Sheds (ps : PlanStore) (f : Format) : List CarrierId → List CarrierId → List CarrierId → Prop
  | fits {cs : List CarrierId} (within : ps.units f cs ≤ linkUnits) : Sheds ps f cs cs []
  | remove {cs kept gone : List CarrierId} {c : CarrierId} (exceeds : linkUnits < ps.units f cs)
      (next : ps.shedNext cs = some c) (rest : Sheds ps f (cs.erase c) kept gone) : Sheds ps f cs kept (c :: gone)

/-- With as many removals allowed as the set has carriers, the model sheds as R55 says. -/
theorem shedTo_sheds (ps : PlanStore) (f : Format) {n : Nat} {cs : List CarrierId} (h : cs.length ≤ n) :
    ps.Sheds f cs (ps.shedTo f n cs).1 (ps.shedTo f n cs).2 := by
  induction n generalizing cs with
  | zero =>
    obtain rfl := List.eq_nil_of_length_eq_zero (Nat.le_zero.mp h)
    exact .fits (Nat.zero_le _)
  | succ n ih =>
    by_cases within : ps.units f cs ≤ linkUnits
    · simpa only [shedTo, if_pos within] using Sheds.fits within
    · have nonempty : cs ≠ [] := by
        rintro rfl
        exact within (Nat.zero_le _)
      obtain ⟨c, next⟩ := exists_shedNext (ps := ps) nonempty
      have shorter : (cs.erase c).length ≤ n := by
        rw [List.length_erase_of_mem (shedNext_spec next).1]
        omega
      simpa only [shedTo, if_neg within, next] using Sheds.remove (Nat.lt_of_not_le within) next (ih shorter)

namespace Sheds

variable {ps : PlanStore} {f : Format} {cs kept gone : List CarrierId}

theorem perm (h : ps.Sheds f cs kept gone) : (kept ++ gone).Perm cs := by
  induction h with
  | fits => simp
  | remove _ next _ ih =>
    exact List.perm_middle.trans ((ih.cons _).trans (List.perm_cons_erase (shedNext_spec next).1).symm)

theorem sublist (h : ps.Sheds f cs kept gone) : kept.Sublist cs := by
  induction h with
  | fits => exact List.Sublist.refl _
  | remove _ _ _ ih => exact ih.trans List.erase_sublist

theorem units_le (h : ps.Sheds f cs kept gone) : ps.units f kept ≤ linkUnits := by
  induction h with
  | fits within => exact within
  | remove _ _ _ ih => exact ih

theorem of_units_le (h : ps.Sheds f cs kept gone) (within : ps.units f cs ≤ linkUnits) : kept = cs ∧ gone = [] := by
  cases h with
  | fits => exact ⟨rfl, rfl⟩
  | remove exceeds => omega

theorem gone_ne_nil (h : ps.Sheds f cs kept gone) (exceeds : linkUnits < ps.units f cs) : gone ≠ [] := by
  cases h with
  | fits within => omega
  | remove => exact List.cons_ne_nil _ _

/-- Before each removal the rest exceeds the units of a link. -/
theorem exceeds_before_removal (h : ps.Sheds f cs kept gone) {n : Nat} (hn : n < gone.length) :
    linkUnits < ps.units f (kept ++ gone.drop n) := by
  induction h generalizing n with
  | fits => simp at hn
  | remove exceeds next rest ih =>
    cases n with
    | zero =>
      rw [List.drop_zero, ps.units_perm f (Sheds.remove exceeds next rest).perm]
      exact exceeds
    | succ n => exact ih (Nat.lt_of_succ_lt_succ hn)

/-- The carriers are shed in the order of shedding, and each before those that stay. -/
theorem ordered (h : ps.Sheds f cs kept gone) (nodup : cs.Nodup) :
    gone.Pairwise (fun a b => ps.shedBefore a b = true) ∧ ∀ a ∈ gone, ∀ b ∈ kept, ps.shedBefore a b = true := by
  induction h with
  | fits => simp
  | @remove cs kept gone c _ next rest ih =>
    obtain ⟨sorted, before⟩ := ih (nodup.erase c)
    have first : ∀ d ∈ kept ++ gone, ps.shedBefore c d = true := fun d hd => by
      obtain ⟨other, member⟩ := nodup.mem_erase_iff.mp (rest.perm.mem_iff.mp hd)
      exact (shedNext_spec next).2 d member other
    rw [List.forall_mem_append] at first
    obtain ⟨firstOfKept, firstOfGone⟩ := first
    exact ⟨sorted.cons firstOfGone, List.forall_mem_cons.mpr ⟨firstOfKept, before⟩⟩

end Sheds

theorem recordFor_sheds (ps : PlanStore) (mode : HubMode) (f : Format) (pmax : Nat) (calls : List (List CarrierId))
    (sleep : Bool) :
    let p := ps.recordFor mode f pmax calls sleep
    ps.Sheds f p.routed p.placed p.shed := ps.shedTo_sheds f le_rfl

end PlanStore

/-! ## The backoff step (R56) -/

theorem backoffFits_iff {power pmax b : Nat} :
    backoffFits power pmax b = true ↔ power * stepT b ^ 2 ≤ pmax * 4096 ^ 2 := decide_eq_true_iff

/-- The search finds the smallest step in 0 to 8 that passes the test. -/
theorem backoffSearch_eq_some_iff {power pmax b : Nat} : backoffSearch power pmax = some b ↔
    b ≤ 8 ∧ power * stepT b ^ 2 ≤ pmax * 4096 ^ 2 ∧ ∀ a < b, ¬ power * stepT a ^ 2 ≤ pmax * 4096 ^ 2 := by
  simp only [backoffSearch, List.find?_range_eq_some, List.mem_range, Nat.lt_succ_iff, Bool.not_eq_true', ← Bool.not_eq_true,
    backoffFits_iff]
  exact and_left_comm

theorem backoffSearch_eq_none_iff {power pmax : Nat} :
    backoffSearch power pmax = none ↔ ∀ b ≤ 8, ¬ power * stepT b ^ 2 ≤ pmax * 4096 ^ 2 := by
  simp only [backoffSearch, List.find?_eq_none, List.mem_range, Nat.lt_succ_iff, backoffFits_iff]

/-- Without power the test passes at step 0. -/
theorem backoffSearch_zero (pmax : Nat) : backoffSearch 0 pmax = some 0 :=
  backoffSearch_eq_some_iff.mpr ⟨Nat.zero_le _, by simp, nofun⟩

namespace PlanStore

variable {ps : PlanStore} {mode : HubMode} {f : Format} {pmax : Nat} {calls : List (List CarrierId)} {sleep : Bool}

/-- The record's step and overload when a step passes the test at the record's power. -/
theorem recordFor_of_found {b : Nat} (found : backoffSearch (ps.recordFor mode f pmax calls sleep).power pmax = some b) :
    (ps.recordFor mode f pmax calls sleep).backoff = b ∧ (ps.recordFor mode f pmax calls sleep).overload = false :=
  ⟨congrArg (Option.getD · 8) found, congrArg Option.isNone found⟩

/-- The record's step and overload when no step passes. -/
theorem recordFor_of_not_found (exhausted : backoffSearch (ps.recordFor mode f pmax calls sleep).power pmax = none) :
    (ps.recordFor mode f pmax calls sleep).backoff = 8 ∧ (ps.recordFor mode f pmax calls sleep).overload = true :=
  ⟨congrArg (Option.getD · 8) exhausted, congrArg Option.isNone exhausted⟩

theorem recordFor_power_of_placed_nil (h : (ps.recordFor mode f pmax calls sleep).placed = []) :
    (ps.recordFor mode f pmax calls sleep).power = 0 := congrArg ps.power h

end PlanStore

/-! ## The record of an UP remote -/

namespace State

theorem upFormat_of_up {s : State} {r : RemoteId} {f : Format} (up : s.rl[r].state = .up) (format : s.rl[r].format = some f) :
    s.upFormat r = some f := by rw [upFormat, if_pos up, format]

theorem recompute_record_of_up {s : State} {r : RemoteId} {f : Format} (up : s.rl[r].state = .up)
    (format : s.rl[r].format = some f) : (s.recompute r).record r =
      s.plan.recordFor s.mode.mode f s.rl[r].pmaxEff (s.plan.activeCalls r) (s.record r).sleep := by
  rw [recompute, setRecord_same, derive, upFormat_of_up up format]

theorem holds_carrierShed_iff (s : State) (r : RemoteId) :
    s.holds ⟨.carrierShed, .remote r⟩ = true ↔ (s.record r).shed ≠ [] := decide_eq_true_iff

theorem holds_compositeOverload (s : State) (r : RemoteId) :
    s.holds ⟨.compositeOverload, .remote r⟩ = (s.record r).overload := rfl

end State

end Sys2Proof.Machine
end

section
/-! SUPPORT. Downlink arithmetic: scaling factors (R67), scaling (R68), saturation and reduction to a format (R69). -/

namespace Sys2Proof.Machine

/-! ## Saturation -/

theorem saturate_of_within {bits : Nat} {y : Int} (low : -(2 : Int) ^ (bits - 1) ≤ y)
    (high : y ≤ (2 : Int) ^ (bits - 1) - 1) : saturate bits y = y := by rw [saturate, min_eq_left high, max_eq_right low]

theorem saturate_of_above {bits : Nat} {y : Int} (h : (2 : Int) ^ (bits - 1) ≤ y) :
    saturate bits y = (2 : Int) ^ (bits - 1) - 1 := by
  have positive : (0 : Int) < 2 ^ (bits - 1) := by positivity
  rw [saturate, min_eq_right (by omega), max_eq_right (by omega)]

theorem saturate_mem (bits : Nat) (y : Int) :
    -(2 : Int) ^ (bits - 1) ≤ saturate bits y ∧ saturate bits y ≤ (2 : Int) ^ (bits - 1) - 1 := by
  have positive : (0 : Int) < 2 ^ (bits - 1) := by positivity
  exact ⟨le_max_left _ _, max_le (by omega) (min_le_right _ _)⟩

/-! ## Scaling factors (R67) -/

theorem stepT_zero : stepT 0 = 4096 := rfl

theorem stepT_le (b : Nat) : stepT b ≤ 4096 := by
  have : 7 ^ b ≤ 8 ^ b := Nat.pow_le_pow_left (by decide) b
  exact Nat.div_le_of_le_mul (by rw [Nat.mul_comm]; exact Nat.mul_le_mul_right _ this)

theorem scalingFactor_le (mdl b : Nat) : scalingFactor mdl b ≤ mdl :=
  Nat.div_le_of_le_mul (by rw [Nat.mul_comm]; exact Nat.mul_le_mul_right _ (stepT_le b))

theorem scalingFactor_step_zero (mdl : Nat) : scalingFactor mdl 0 = mdl := by
  rw [scalingFactor, stepT_zero, Nat.mul_div_cancel _ (by decide)]

theorem scalingFactor_full (b : Nat) : scalingFactor 4096 b = stepT b := Nat.mul_div_cancel_left _ (by decide)

/-! ## Downlink scaling (R68) -/

/-- A factor of at most 4096 takes no 16-bit value out of range. -/
theorem scaled_within {x : Int} {k : Nat} (low : -32768 ≤ x) (high : x ≤ 32767) (hk : k ≤ 4096) :
    -32768 ≤ (x * k + 2048) / 4096 ∧ (x * k + 2048) / 4096 ≤ 32767 := by
  have below : -32768 * (k : Int) ≤ x * k := Int.mul_le_mul_of_nonneg_right low (Int.natCast_nonneg k)
  have above : x * k ≤ 32767 * k := Int.mul_le_mul_of_nonneg_right high (Int.natCast_nonneg k)
  omega

theorem scaleValue_of_within {x : Int} {k : Nat} (low : -32768 ≤ x) (high : x ≤ 32767) (hk : k ≤ 4096) :
    scaleValue k x = (x * k + 2048) / 4096 :=
  have ⟨below, above⟩ := scaled_within low high hk
  saturate_of_within below above

theorem scaleValue_mem (k : Nat) (x : Int) : -32768 ≤ scaleValue k x ∧ scaleValue k x ≤ 32767 := saturate_mem 16 _

theorem scaleValue_zero (x : Int) : scaleValue 0 x = 0 := by
  have : (x * (0 : Nat) + 2048) / 4096 = 0 := by omega
  rw [scaleValue, this]
  rfl

/-! ## Format reduction (R69) -/

@[simp] theorem reduceValue_w16 (y : Int) : reduceValue .w16 y = y := rfl

theorem reduceValue_w12_of_lt {y : Int} (low : -32768 ≤ y) (high : y < 32760) : reduceValue .w12 y = (y + 8) / 16 :=
  saturate_of_within (by norm_num; omega) (by norm_num; omega)

theorem reduceValue_w12_of_le {y : Int} (h : 32760 ≤ y) : reduceValue .w12 y = 2047 :=
  saturate_of_above (by norm_num; omega)

theorem reduceValue_w12_mem (y : Int) : -2048 ≤ reduceValue .w12 y ∧ reduceValue .w12 y ≤ 2047 := saturate_mem 12 _

theorem reduceValue_w8_of_lt {y : Int} (low : -32768 ≤ y) (high : y < 32640) : reduceValue .w8 y = (y + 128) / 256 :=
  saturate_of_within (by norm_num; omega) (by norm_num; omega)

theorem reduceValue_w8_of_le {y : Int} (h : 32640 ≤ y) : reduceValue .w8 y = 127 :=
  saturate_of_above (by norm_num; omega)

theorem reduceValue_w8_mem (y : Int) : -128 ≤ reduceValue .w8 y ∧ reduceValue .w8 y ≤ 127 := saturate_mem 8 _

theorem State.containerFor_samples {s : State} {f : Format} {c : CarrierId} {k : Nat} {b : SourceBlock}
    (h : (s.dist.source.find? fun x => x.carrier = c) = some b) :
    (s.containerFor f (c, k)).samples = scaleBlock f k b.samples := by simp only [State.containerFor, h]

end Sys2Proof.Machine
end

section
/-! The statements on placement and downlink arithmetic. -/

namespace Sys2Proof.Proofs

open Sys2Proof.Machine Sys2Proof.Machine.State

/-- Settles O24: the placed and the shed set are related to the routed set by R55, read as the relation `PlanStore.Sheds`. -/
theorem unitsAndShedding : Obligations.UnitsAndShedding := by
  refine ⟨fun s r f up format => ?_, fun ps a b => PlanStore.shedBefore_iff, fun s r => holds_carrierShed_iff s r⟩
  rw [recompute_record_of_up up format]
  have sheds := s.plan.recordFor_sheds s.mode.mode f s.rl[r].pmaxEff (s.plan.activeCalls r) (s.record r).sleep
  have ascending := s.plan.route_ascending s.mode.mode (s.plan.activeCalls r)
  obtain ⟨sorted, before⟩ := sheds.ordered ascending.nodup
  refine ⟨fun c => ?_, ascending, ascending.sublist sheds.sublist, sheds.perm, rfl, rfl, sheds.units_le, sheds.of_units_le,
    sheds.gone_ne_nil, fun n => sheds.exceeds_before_removal, sorted, before⟩
  simp only [PlanStore.recordFor, PlanStore.mem_route_iff, PlanStore.mem_activeCalls_iff, exists_exists_eq_and,
    Bank.mem_calls_iff, opPlan]

/-- Settles O25: by whether the search for the backoff step finds one. -/
theorem compositeBackoff : Obligations.CompositeBackoff := by
  refine ⟨fun s r f up format => ?_, fun _ _ _ _ _ _ _ => ⟨rfl, rfl⟩, holds_compositeOverload⟩
  rw [recompute_record_of_up up format]
  generalize record : s.plan.recordFor s.mode.mode f s.rl[r].pmaxEff (s.plan.activeCalls r) (s.record r).sleep = p
  have power : p.power = (p.placed.map fun c => (s.carrier c).eff.power).sum := record ▸ rfl
  have idle : p.placed = [] → p.power = 0 := record ▸ PlanStore.recordFor_power_of_placed_nil
  cases search : backoffSearch p.power s.rl[r].pmaxEff with
  | some b =>
    obtain ⟨backoff, overload⟩ : p.backoff = b ∧ p.overload = false := by
      subst record
      exact PlanStore.recordFor_of_found search
    obtain ⟨le, passes, smallest⟩ := backoffSearch_eq_some_iff.mp search
    simp only [backoff, overload]
    refine ⟨power, le, nofun, fun _ => ⟨passes, smallest⟩, fun _ => passes, fun empty => ⟨idle empty, ?_, trivial⟩⟩
    rw [idle empty, backoffSearch_zero] at search
    exact (Option.some.inj search).symm
  | none =>
    obtain ⟨backoff, overload⟩ : p.backoff = 8 ∧ p.overload = true := by
      subst record
      exact PlanStore.recordFor_of_not_found search
    have fails := backoffSearch_eq_none_iff.mp search
    simp only [backoff, overload]
    refine ⟨power, le_rfl, fun _ => ⟨trivial, fails⟩, nofun, nofun, fun empty => ?_⟩
    rw [idle empty, backoffSearch_zero] at search
    contradiction

/-- Settles O26: the factors of the record, and the bound on a scaled value. -/
theorem downlinkScaling : Obligations.DownlinkScaling := by
  refine ⟨fun s r f up format => ?factors, fun mdl b _ => ?factor, fun x k low high hk => ?value, fun k xs => rfl⟩
  case factors =>
    rw [recompute_record_of_up up format]
    rfl
  case factor =>
    exact ⟨rfl, scalingFactor_le mdl b, (scalingFactor_le mdl b).trans, scalingFactor_step_zero mdl, scalingFactor_full b⟩
  case value =>
    obtain ⟨below, above⟩ := scaleValue_mem k x
    exact ⟨rfl, scaleValue_of_within low high hk, below, above, scaleValue_zero x⟩

/-- Settles O27: each format's reduction below and from the value at which it saturates. -/
theorem formatReduction : Obligations.FormatReduction := by
  refine ⟨fun y low high => ?value, fun s f c k b found => containerFor_samples found, fun s lf => ⟨rfl, rfl⟩⟩
  case value =>
    obtain ⟨low12, high12⟩ := reduceValue_w12_mem y
    obtain ⟨low8, high8⟩ := reduceValue_w8_mem y
    exact ⟨reduceValue_w16 y, reduceValue_w12_of_lt low, fun h => ⟨by omega, reduceValue_w12_of_le h⟩,
      reduceValue_w8_of_lt low, fun h => ⟨by omega, reduceValue_w8_of_le h⟩, low12, high12, low8, high8⟩

end Sys2Proof.Proofs
end

section
/-! SUPPORT. The occupancy of a window and where its snapshot holds it (R103). -/

namespace Sys2Proof.Machine

theorem occupancy_le {a wa : Nat} (h : a ≤ 80 * wa) : occupancy a wa ≤ 1024 :=
  Nat.div_le_of_le_mul (Nat.mul_le_mul_right 1024 h)

/-- The floor is full only when the quotient is: `1024 ≤ a * 1024 / (80 * wa)` bounds the dividend from below. -/
theorem le_occupancy_iff {a wa : Nat} (pos : 0 < wa) : 1024 ≤ occupancy a wa ↔ 80 * wa ≤ a := by
  have divisor : 0 < 80 * wa := by omega
  rw [occupancy, Nat.le_div_iff_mul_le divisor]
  omega

theorem occupancy_eq_full_iff {a wa : Nat} (pos : 0 < wa) (h : a ≤ 80 * wa) : occupancy a wa = 1024 ↔ a = 80 * wa :=
  calc occupancy a wa = 1024
    _ ↔ 1024 ≤ occupancy a wa := (occupancy_le h).ge_iff_eq.symm
    _ ↔ 80 * wa ≤ a := le_occupancy_iff pos
    _ ↔ a = 80 * wa := h.ge_iff_eq

theorem formSnapshot_occ (closing : Count) (m : Measurement) (banks : Vector Bank 4) (sat : Vector Nat 32) (r : RemoteId)
    (c : CarrierId) : (formSnapshot closing m banks sat).occ[r][c] = occupancy m.activity[r][c] m.position := by
  simp only [formSnapshot, State.getElem_tab]

end Sys2Proof.Machine
end

section
/-! The statement on measurement. -/

namespace Sys2Proof.Proofs

open Sys2Proof.Machine

/-- Settles O30: the pair's entry of the snapshot, the bound on an occupancy, and when it is reached. -/
theorem occupancy : Obligations.Occupancy :=
  ⟨formSnapshot_occ, fun _ _ pos h => ⟨occupancy_le h, occupancy_eq_full_iff pos h⟩⟩

end Sys2Proof.Proofs
end

section
/-! SUPPORT. The frame of every step that the hub owes: an equation that names the parts of the state that the step may change.
A predicate that reads none of them is kept, by rewriting with the equation. -/

namespace Sys2Proof.Machine.State

/-! ## Frames from a state with parts blanked out -/

theorem frame_of_place {s t : State} (h : ∀ p, { t with place := p } = { s with place := p }) :
    t = { s with place := t.place } := h t.place

theorem frame_of_gates {s t : State} (h : ∀ v, { t with comb := { t.comb with gates := v } } =
    { s with comb := { s.comb with gates := v } }) : t = { s with comb := { s.comb with gates := t.comb.gates } } :=
  h t.comb.gates

theorem frame_of_restOfPlacement {s t : State} (h : t.restOfPlacement = s.restOfPlacement) :
    t = { s with place := t.place, sup := t.sup } :=
  (congrArg (fun u : State => { u with place := t.place, sup := t.sup }) h :)

theorem frame_of_restOfBlocks {s t : State} (h : t.restOfBlocks = s.restOfBlocks) :
    t = { s with rl := t.rl, comb := t.comb, meas := t.meas, due := t.due } :=
  (congrArg (fun u : State => { u with rl := t.rl, comb := t.comb, meas := t.meas, due := t.due }) h :)

/-! ## Placement (R57, R58, R63) -/

theorem recomputeAll_frame (s : State) : s.recomputeAll = { s with place := s.recomputeAll.place } :=
  frame_of_place fun p => foldl_keeps (fun u : State => { u with place := p }) recompute (fun _ _ => rfl) allRemotes s

theorem recomputeCarrier_frame (s : State) (c : CarrierId) :
    s.recomputeCarrier c = { s with place := (s.recomputeCarrier c).place } :=
  frame_of_place fun p => foldl_keeps (fun u : State => { u with place := p }) recompute (fun _ _ => rfl) _ s

theorem settleConditions_frame (s : State) :
    s.settleConditions = { s with place := s.settleConditions.place, sup := s.settleConditions.sup } :=
  frame_of_restOfPlacement (settleConditions_restOfPlacement s)

theorem placementChanged_frame (s : State) :
    s.placementChanged = { s with place := s.placementChanged.place, sup := s.placementChanged.sup } :=
  frame_of_restOfPlacement (placementChanged_restOfPlacement s)

theorem startGates_frame (s : State) (r : RemoteId) :
    s.startGates r = { s with comb := { s.comb with gates := (s.startGates r).comb.gates } } :=
  frame_of_gates fun v => foldl_keeps (fun u : State => { u with comb := { u.comb with gates := v } })
    (fun s c => s.setGate r c ⟨false, 0⟩) (fun _ _ => rfl) _ s

theorem foldl_startGates_frame (s : State) (l : List RemoteId) :
    l.foldl startGates s = { s with comb := { s.comb with gates := (l.foldl startGates s).comb.gates } } :=
  frame_of_gates fun v => foldl_keeps (fun u : State => { u with comb := { u.comb with gates := v } })
    startGates (fun s r => by rw [startGates_frame]) _ s

theorem foldl_setSleep_frame (s : State) (l : List RemoteId) :
    l.foldl setSleep s = { s with place := (l.foldl setSleep s).place } :=
  frame_of_place fun p => foldl_keeps (fun u : State => { u with place := p }) setSleep (fun _ _ => rfl) l s

theorem settleBoundary_frame (s : State) : s.settleBoundary = { s with
    place := s.settleBoundary.place, sup := s.settleBoundary.sup, boundary := s.settleBoundary.boundary
    comb := { s.comb with gates := s.settleBoundary.comb.gates } } := by
  unfold settleBoundary
  split
  · rfl
  · split
    · rfl
    · rw [foldl_setSleep_frame, foldl_startGates_frame, settleConditions_frame]

theorem levelFieldTakesEffect_frame (s : State) (c : CarrierId) : s.levelFieldTakesEffect c = { s with
    plan := { s.plan with carriers := s.plan.carriers.set c { s.carrier c with eff := (s.carrier c).set } }
    place := (s.levelFieldTakesEffect c).place, sup := (s.levelFieldTakesEffect c).sup } := by
  unfold levelFieldTakesEffect
  dsimp only
  split
  · rw [placementChanged_frame, recomputeCarrier_frame]; rfl
  · rfl

theorem linkSettingsTakeEffect_frame (s : State) (r : RemoteId) : s.linkSettingsTakeEffect r = { s with
    rl := s.rl.set r { s.rl[r] with mEff := s.rl[r].m, pmaxEff := s.rl[r].pmax }
    place := (s.linkSettingsTakeEffect r).place, sup := (s.linkSettingsTakeEffect r).sup } := by
  unfold linkSettingsTakeEffect
  dsimp only
  split
  · rw [placementChanged_frame]; rfl
  · rfl

/-! ## Remote links -/

theorem farFlagChange_frame (s : State) (r : RemoteId) (i : Fin 4) :
    s.farFlagChange r i = { s with rl := (s.farFlagChange r i).rl, sup := (s.farFlagChange r i).sup } := by
  unfold farFlagChange
  dsimp only
  split
  · split <;> rfl
  · rfl

theorem seekRunComplete_frame (s : State) (r : RemoteId) :
    s.seekRunComplete r = { s with rl := (s.seekRunComplete r).rl } := by
  unfold seekRunComplete
  split <;> rfl

theorem linkEntersUp_frame (s : State) (r : RemoteId) : s.linkEntersUp r = { s with
    rl := (s.linkEntersUp r).rl, place := (s.linkEntersUp r).place, sup := (s.linkEntersUp r).sup } := by
  unfold linkEntersUp
  split
  · rw [placementChanged_frame]; rfl
  · rfl

/-! ## Operator links and the trunk -/

theorem linkSeekToUp_frame (s : State) (l : TermLinkId) : s.linkSeekToUp l = { s with
    ol := (s.linkSeekToUp l).ol, trunk := (s.linkSeekToUp l).trunk, tb := (s.linkSeekToUp l).tb
    sup := (s.linkSeekToUp l).sup } := by
  unfold linkSeekToUp
  split
  · dsimp only
    split
    · rw [setTimebase_eq, modTerm_eq]; rfl
    · rw [modTerm_eq]; rfl
  · rfl

theorem linkLostHoldEnd_frame (s : State) (l : TermLinkId) :
    s.linkLostHoldEnd l = { s with ol := (s.linkLostHoldEnd l).ol, trunk := (s.linkLostHoldEnd l).trunk } := by
  unfold linkLostHoldEnd
  split
  · exact modTerm_eq ..
  · rfl

theorem linkUpToLost_frame (s : State) (l : TermLinkId) : s.linkUpToLost l = { s with
    ol := (s.linkUpToLost l).ol, trunk := (s.linkUpToLost l).trunk, tb := (s.linkUpToLost l).tb
    sup := (s.linkUpToLost l).sup, mgmt := (s.linkUpToLost l).mgmt } := by
  unfold linkUpToLost
  split
  · dsimp only
    generalize hu : (s.modTerm l _).raise (lossKey l) = u
    have ku : u = { s with ol := u.ol, trunk := u.trunk, sup := u.sup } := by subst hu; rw [modTerm_eq]; rfl
    generalize hv : (if u.isReference l = true then u.setTimebase .holdover else u) = v
    have kv : v = { s with ol := v.ol, trunk := v.trunk, sup := v.sup, tb := v.tb } := by
      subst hv
      split
      · rw [setTimebase_eq, ku]
      · rw [ku]
    cases l with
    | op o => exact kv ▸ rfl
    | trunk => rw [kv]; rfl
  · rfl

/-! ## Blocks -/

theorem deadline_frame (s : State) (n : Nat) : s.deadline n = { s with
    rl := (s.deadline n).rl, comb := (s.deadline n).comb, meas := (s.deadline n).meas, due := (s.deadline n).due } :=
  frame_of_restOfBlocks (deadline_restOfBlocks s n)

/-! ## The window -/

theorem guardStepDown_frame (s : State) (r : RemoteId) :
    s.guardStepDown r = { s with comb := (s.guardStepDown r).comb, sup := (s.guardStepDown r).sup } := by
  unfold guardStepDown
  split
  · dsimp only
    split <;> rfl
  · rfl

theorem autoQuietEntry_frame (s : State) : s.autoQuietEntry = { s with mode := s.autoQuietEntry.mode } := by
  unfold autoQuietEntry
  split <;> rfl

theorem setOverloadMark_frame (s : State) (l : List SectorId) (x : SectorId) : s.setOverloadMark l x = { s with
    comb := { s.comb with overload := (s.setOverloadMark l x).comb.overload }, sup := (s.setOverloadMark l x).sup } := by
  unfold setOverloadMark
  dsimp only
  rw [hand_eq]

theorem stepGuardUp_frame (s : State) (r : RemoteId) : s.stepGuardUp r = { s with
    comb := { s.comb with guard := s.comb.guard.set r (s.comb.guard[r] + 1) }, sup := (s.stepGuardUp r).sup } := by
  unfold stepGuardUp
  dsimp only
  split <;> rfl

theorem updateRecover_frame (s : State) (l : List SectorId) (banks : Vector Bank 4) (r : RemoteId) :
    s.updateRecover l banks r = { s with
      comb := { s.comb with recover := (s.updateRecover l banks r).comb.recover }
      due := (s.updateRecover l banks r).due } := by
  unfold updateRecover
  dsimp only
  generalize (l.any _) = hit
  cases hit with
  | true => rfl
  | false =>
    simp only [Bool.false_eq_true, if_false]
    split <;> rfl

/-- The parts that a window's marks, guard steps and runs leave. -/
def restOfGuard (s : State) : State :=
  { s with comb := { reset.comb with gates := s.comb.gates, sums := s.comb.sums, outputs := s.comb.outputs }
           sup := reset.sup, due := [] }

theorem guardWindow_restOfGuard (s : State) (banks : Vector Bank 4) (peak : Vector Nat 24) :
    (s.guardWindow banks peak).restOfGuard = s.restOfGuard := by
  unfold guardWindow
  dsimp only
  generalize overloadedSectors _ _ = overl
  generalize overl.filterMap _ = named
  have sat (t : State) (v : Vector Nat 32) : { t with comb := { t.comb with sat := v } }.restOfGuard = t.restOfGuard := rfl
  rw [sat, foldl_keeps restOfGuard _ (fun s r => by rw [updateRecover_frame]; rfl),
    foldl_keeps restOfGuard _ (fun s r => by rw [stepGuardUp_frame]; rfl),
    foldl_keeps restOfGuard _ (fun s x => by rw [setOverloadMark_frame]; rfl)]

theorem guardWindow_frame (s : State) (banks : Vector Bank 4) (peak : Vector Nat 24) : s.guardWindow banks peak = { s with
    comb := { (s.guardWindow banks peak).comb with
      gates := s.comb.gates, sums := s.comb.sums, outputs := s.comb.outputs }
    sup := (s.guardWindow banks peak).sup, due := (s.guardWindow banks peak).due } := by
  have h := guardWindow_restOfGuard s banks peak
  generalize s.guardWindow banks peak = t at h ⊢
  exact (congrArg (fun u : State => { u with
    comb := { t.comb with gates := u.comb.gates, sums := u.comb.sums, outputs := u.comb.outputs }
    sup := t.sup, due := t.due }) h :)

theorem modBal_frame (s : State) (o : OpId) (f : BalancerOp → BalancerOp) :
    s.modBal o f = { s with bal := (s.modBal o f).bal } := rfl

theorem setOutcome_frame (s : State) (o : OpId) (x : BalancerOutcome) :
    s.setOutcome o x = { s with bal := (s.setOutcome o x).bal } := rfl

theorem defer_frame (s : State) (o : OpId) (x : BalancerOutcome) : s.defer o x = { s with bal := (s.defer o x).bal } := rfl

theorem autoMove_frame (s : State) (o : OpId) (hot : SectorIx) (r : RemoteId) (t : SectorIx) :
    s.autoMove o hot r t =
      { s with bal := (s.autoMove o hot r t).bal, plan := (s.stageMove o r t .balancer).plan } := rfl

theorem advise_frame (s : State) (o : OpId) (hot : SectorIx) (r : RemoteId) (t : SectorIx) :
    s.advise o hot r t = { s with bal := (s.advise o hot r t).bal, sup := (s.advise o hot r t).sup } := by
  unfold advise
  dsimp only
  split <;> rfl

theorem evaluate_frame (s : State) (o : OpId) (b : Bank) : s.evaluate o b = { s with
    bal := (s.evaluate o b).bal, sup := (s.evaluate o b).sup, plan := (s.evaluate o b).plan } := by
  unfold evaluate
  split
  · rfl
  · split
    · rfl
    · split
      · rfl
      · split
        · rfl
        · rw [advise_frame]

theorem balance_frame (s : State) (banks : Vector Bank 4) (staged : Vector StagedState 4) (o : OpId) :
    s.balance banks staged o = { s with
      bal := (s.balance banks staged o).bal, sup := (s.balance banks staged o).sup
      plan := (s.balance banks staged o).plan } := by
  unfold balance
  split
  · rfl
  · split
    · rfl
    · split
      · rfl
      · split
        · rfl
        · exact evaluate_frame s o banks[o]

theorem autoQuiet_frame (s : State) (b : Boundary) :
    s.autoQuiet b = { s with mode := (s.autoQuiet b).mode, due := (s.autoQuiet b).due } := by
  unfold autoQuiet
  split
  · rfl
  · split
    · dsimp only
      generalize (if s.quietWindow b = true then min (s.mode.quietRun + 1) 255 else 0) = run
      split <;> rfl
    · split <;> rfl

end Sys2Proof.Machine.State
end

section
/-! SUPPORT. The frames of the steps that a boundary owes, from the window end to the warm reset. -/

namespace Sys2Proof.Machine.State

/-- The parts that a window end leaves. -/
def restOfWindow (s : State) : State :=
  { s with
    comb := { reset.comb with gates := s.comb.gates, sums := s.comb.sums, outputs := s.comb.outputs }
    meas := reset.meas, sup := reset.sup, bal := reset.bal, plan := { s.plan with plans := reset.plan.plans }
    mode := reset.mode, due := [] }

theorem guardWindow_restOfWindow (s : State) (banks : Vector Bank 4) (peak : Vector Nat 24) :
    (s.guardWindow banks peak).restOfWindow = s.restOfWindow := by rw [guardWindow_frame]; rfl

theorem autoMove_restOfWindow (s : State) (o : OpId) (hot : SectorIx) (r : RemoteId) (t : SectorIx) :
    (s.autoMove o hot r t).restOfWindow = s.restOfWindow := rfl

theorem evaluate_restOfWindow (s : State) (o : OpId) (b : Bank) : (s.evaluate o b).restOfWindow = s.restOfWindow := by
  unfold evaluate
  split
  · rfl
  · split
    · rfl
    · split
      · rfl
      · split
        · rfl
        · rw [advise_frame]; rfl

theorem balance_restOfWindow (s : State) (banks : Vector Bank 4) (staged : Vector StagedState 4) (o : OpId) :
    (s.balance banks staged o).restOfWindow = s.restOfWindow := by
  unfold balance
  split
  · rfl
  · split
    · rfl
    · split
      · rfl
      · split
        · rfl
        · exact evaluate_restOfWindow s o banks[o]

theorem windowEnd_restOfWindow (s : State) : s.windowEnd.restOfWindow = s.restOfWindow := by
  unfold windowEnd
  split
  · rfl
  · dsimp only
    generalize hg : State.guardWindow _ _ _ = g
    have kg : g.restOfWindow = s.restOfWindow := by
      subst hg
      exact guardWindow_restOfWindow ..
    have resweeps (t : State) : t.resweep.restOfWindow = t.restOfWindow := rfl
    have quiets (t : State) (b : Boundary) : (t.autoQuiet b).restOfWindow = t.restOfWindow := by
      rw [autoQuiet_frame]; rfl
    have counts (t : State) (l : List (OpId × RemoteId)) : (t.countHoldOffs l).restOfWindow = t.restOfWindow := rfl
    rw [resweeps, quiets, foldl_keeps restOfWindow _ (fun s o => balance_restOfWindow s _ _ o), counts, kg]

theorem windowEnd_frame (s : State) : s.windowEnd = { s with
    comb := { s.windowEnd.comb with gates := s.comb.gates, sums := s.comb.sums, outputs := s.comb.outputs }
    meas := s.windowEnd.meas, sup := s.windowEnd.sup, bal := s.windowEnd.bal
    plan := { s.plan with plans := s.windowEnd.plan.plans }
    mode := s.windowEnd.mode, due := s.windowEnd.due } := by
  have h := windowEnd_restOfWindow s
  generalize s.windowEnd = t at h ⊢
  exact (congrArg (fun u : State => { u with
    comb := { t.comb with gates := u.comb.gates, sums := u.comb.sums, outputs := u.comb.outputs }
    meas := t.meas, sup := t.sup, bal := t.bal, plan := { u.plan with plans := t.plan.plans }, mode := t.mode
    due := t.due }) h :)

/-! ## Plans, mode and isolation -/

theorem completeArming_frame (s : State) (o : OpId) (ch : Channel) : s.completeArming o ch = { s with
    bal := (s.completeArming o ch).bal, boundary := (s.completeArming o ch).boundary
    mgmt := (s.completeArming o ch).mgmt } := by
  unfold completeArming
  split
  · rw [complete_eq]
  · rw [complete_eq]; rfl
  · rfl

theorem switchover_frame (s : State) (o : OpId) : s.switchover o = { s with
    plan := { s.plan with plans := (s.switchover o).plan.plans }, place := (s.switchover o).place
    sup := (s.switchover o).sup, bal := (s.switchover o).bal, boundary := (s.switchover o).boundary
    mgmt := (s.switchover o).mgmt } := by
  unfold switchover
  split
  · dsimp only
    split
    · rw [completeArming_frame, placementChanged_frame, recomputeAll_frame]; rfl
    · rw [completeArming_frame, placementChanged_frame, recomputeAll_frame]; rfl
    · rw [placementChanged_frame, recomputeAll_frame]; rfl
  · rfl

theorem takeMode_frame (s : State) (m : HubMode) : s.takeMode m = { s with
    mode := { s.mode with mode := m }, place := (s.takeMode m).place, sup := (s.takeMode m).sup } := by
  unfold takeMode
  dsimp only
  split
  · rfl
  · rw [placementChanged_frame, recomputeAll_frame]

theorem hubModeDecision_frame (s : State) : s.hubModeDecision = { s with
    mode := s.hubModeDecision.mode, place := s.hubModeDecision.place, sup := s.hubModeDecision.sup
    mgmt := s.hubModeDecision.mgmt } := by
  unfold hubModeDecision
  split
  · rw [complete_eq, takeMode_frame]
  · rw [takeMode_frame]
  · rfl

/-- What the links' own steps leave, as an equation. -/
theorem frame_of_restOfLinks {s t : State} (h : t.restOfLinks = s.restOfLinks) :
    t = { s with rl := t.rl, comb := t.comb, place := t.place, sup := t.sup } := sameButLinks_of_restOfLinks h

theorem restartInto_frame (s : State) (r : RemoteId) (x : RemoteState) : s.restartInto r x = { s with
    rl := (s.restartInto r x).rl, comb := (s.restartInto r x).comb, place := (s.restartInto r x).place
    sup := (s.restartInto r x).sup } := frame_of_restOfLinks (restartInto_restOfLinks s r x)

theorem pendingIsolationApply_frame (s : State) : s.pendingIsolationApply = { s with
    mode := s.pendingIsolationApply.mode, rl := s.pendingIsolationApply.rl, comb := s.pendingIsolationApply.comb
    place := s.pendingIsolationApply.place, sup := s.pendingIsolationApply.sup
    mgmt := s.pendingIsolationApply.mgmt } := by
  unfold pendingIsolationApply
  split
  · rfl
  · dsimp only
    split
    · rw [complete_eq]
    · rw [complete_eq]
      unfold beginIsolation
      rw [restartInto_frame]

theorem isolationTimerExpiry_frame (s : State) (r : RemoteId) : s.isolationTimerExpiry r = { s with
    mode := (s.isolationTimerExpiry r).mode, rl := (s.isolationTimerExpiry r).rl
    comb := (s.isolationTimerExpiry r).comb, place := (s.isolationTimerExpiry r).place
    sup := (s.isolationTimerExpiry r).sup } := by
  unfold isolationTimerExpiry
  split
  · rw [restart, restartInto_frame]; rfl
  · rfl

/-! ## Resets and alerts -/

theorem alertPlacement_frame (s : State) :
    s.alertPlacement = { s with mgmt := s.alertPlacement.mgmt, sup := s.alertPlacement.sup } := by
  unfold alertPlacement
  split <;> rfl

theorem cancelService_frame (s : State) : s.cancelService = { s with mgmt := s.cancelService.mgmt } := by
  unfold cancelService
  split
  · rw [complete_eq]
  · rw [complete_eq]
  · rfl

theorem warmCompletions_frame (s : State) : s.warmCompletions = { s with mgmt := s.warmCompletions.mgmt } := by
  unfold warmCompletions
  split
  · rw [cancelService_frame, complete_eq]
  · rw [complete_eq, cancelService_frame]

theorem warmResetApplied_frame (s : State) : s.warmResetApplied =
    { s.warmBlocks with mgmt := s.warmResetApplied.mgmt, sup := s.warmResetApplied.sup } := by
  unfold warmResetApplied
  dsimp only
  rw [warmCompletions_frame]

end Sys2Proof.Machine.State
end

section
/-! SUPPORT. What settling a block leaves of the state (R77, R78). -/

namespace Sys2Proof.Machine.State

/-! ## Settling blocks: what it leaves -/

/-- A Combiner without its gates, sums, outputs and saturation counts. -/
def blankSums (k : Combiner) : Combiner :=
  { k with gates := reset.comb.gates, sums := [], outputs := [], sat := reset.comb.sat }

/-- Everything but the remote links' missing-block counters, the gates, sums, outputs and saturation counts, the counts of
blocks and the owed steps. -/
def restOfSettling (s : State) : State :=
  { s with rl := s.rl.map fun l => { l with missing := 0 }, comb := blankSums s.comb, meas := reset.meas, due := [] }

theorem formReady_restOfSettling (s : State) : s.formReady.restOfSettling = s.restOfSettling := rfl

theorem modRl_missing_restOfSettling (s : State) (r : RemoteId) (n : RemoteLink → Nat) :
    (s.modRl r fun l => { l with missing := n l }).restOfSettling = s.restOfSettling := by
  have same : (s.rl.set r { s.rl[r] with missing := n s.rl[r] }).map (fun l => { l with missing := 0 }) =
      s.rl.map fun l => { l with missing := 0 } := by
    ext i hi : 1
    by_cases h : r.val = i
    · subst h; simp
    · simp [Vector.getElem_set_ne, h]
  unfold modRl restOfSettling
  dsimp only
  rw [same]

theorem measureBlock_restOfSettling (s : State) (q : UplinkSum) (r : RemoteId) (n : Nat) :
    (s.measureBlock q r n).restOfSettling = s.restOfSettling := by
  unfold measureBlock
  dsimp only
  split <;> rfl

theorem takeExpiry_restOfSettling (s : State) (r : RemoteId) (c : CarrierId) :
    (s.takeExpiry r c).restOfSettling = s.restOfSettling := by
  unfold takeExpiry
  split <;> rfl

theorem settleBlock_restOfSettling (s : State) (n : Nat) (c : CarrierId) (r : RemoteId) (b : Option (List IQ)) :
    (s.settleBlock n c r b).restOfSettling = s.restOfSettling := by
  have gates (t : State) (g : Gate) : (t.setGate r c g).restOfSettling = t.restOfSettling := rfl
  have owes (t : State) (g : GateStep) :
      (if g.expires then t.owe [.gateHoldExpiry r c] else t).restOfSettling = t.restOfSettling := by split <;> rfl
  have sums (t : State) (l : List UplinkSum) :
      { t with comb := { t.comb with sums := l } }.restOfSettling = t.restOfSettling := rfl
  unfold settleBlock
  split
  · rfl
  · split
    · rfl
    · cases b <;> dsimp only <;>
        simp only [formReady_restOfSettling, sums, owes, gates, measureBlock_restOfSettling, modRl_missing_restOfSettling,
          takeExpiry_restOfSettling]

theorem settleMissing_restOfSettling (s : State) (l : List (Nat × CarrierId × RemoteId)) :
    (s.settleMissing l).restOfSettling = s.restOfSettling :=
  by
  unfold settleMissing
  exact foldl_keeps restOfSettling _ (fun s (n, c, r) => settleBlock_restOfSettling s n c r none) l s

theorem deadline_restOfSettling (s : State) (n : Nat) : (s.deadline n).restOfSettling = s.restOfSettling :=
  settleMissing_restOfSettling _ _

theorem settleUpTo_restOfSettling (s : State) (r : RemoteId) (n : Nat) :
    (s.settleUpTo r n).restOfSettling = s.restOfSettling := settleMissing_restOfSettling _ _

theorem takeBlocks_restOfSettling (s : State) (r : RemoteId) (n : Nat) (p : List Byte) :
    (s.takeBlocks r n p).restOfSettling = s.restOfSettling := by
  refine foldl_keeps restOfSettling _ (fun s q => ?_) _ s
  split
  · exact settleBlock_restOfSettling ..
  · rfl

/-- Two states that agree but for what settling blocks changes. -/
theorem frame_of_restOfSettling {s t : State} (h : t.restOfSettling = s.restOfSettling) : t = { s with
    rl := t.rl, meas := t.meas, due := t.due
    comb := { s.comb with gates := t.comb.gates, sums := t.comb.sums, outputs := t.comb.outputs, sat := t.comb.sat } } :=
  (congrArg (fun u : State => { u with
    rl := t.rl, meas := t.meas, due := t.due
    comb := { u.comb with gates := t.comb.gates, sums := t.comb.sums, outputs := t.comb.outputs, sat := t.comb.sat } }) h :)

/-- Settling blocks changes a link record by its missing-block counter alone. -/
theorem link_of_restOfSettling {s t : State} (h : t.restOfSettling = s.restOfSettling) (r : RemoteId) :
    t.rl[r] = { s.rl[r] with missing := t.rl[r].missing } := by
  have records := congrArg (fun u : State => { u.rl[r] with missing := t.rl[r].missing }) h
  simpa only [restOfSettling, Fin.getElem_fin, Vector.getElem_map] using records

end Sys2Proof.Machine.State
end

section
/-! SUPPORT. The frames of received frames, of a boundary and of the start of a link frame. -/

namespace Sys2Proof.Machine.State

/-! ## Frames received -/

/-- Everything but the remote links, what settling blocks changes, the alarm list and the owed steps. -/
def restOfHearing (s : State) : State :=
  { s with rl := reset.rl, comb := blankSums s.comb, meas := reset.meas, sup := reset.sup, due := [] }

theorem restOfHearing_of_settling {s t : State} (h : t.restOfSettling = s.restOfSettling) :
    t.restOfHearing = s.restOfHearing := by
  have forget (u : State) : u.restOfHearing = { u.restOfSettling with rl := reset.rl, sup := reset.sup } := rfl
  rw [forget, forget, h]

theorem modRl_restOfHearing (s : State) (r : RemoteId) (f : RemoteLink → RemoteLink) :
    (s.modRl r f).restOfHearing = s.restOfHearing := rfl

theorem owe_restOfHearing (s : State) (l : List Instr) : (s.owe l).restOfHearing = s.restOfHearing := rfl

theorem countAnswer_restOfHearing (s : State) (r : RemoteId) : (s.countAnswer r).restOfHearing = s.restOfHearing := by
  unfold countAnswer
  split <;> rfl

theorem capabilityWord_restOfHearing (s : State) (r : RemoteId) (w : Word) :
    (s.capabilityWord r w).restOfHearing = s.restOfHearing := by
  unfold capabilityWord
  dsimp only
  split <;> rfl

theorem negotiateWord_restOfHearing (s : State) (r : RemoteId) (w : Word) :
    (s.negotiateWord r w).restOfHearing = s.restOfHearing := by
  unfold negotiateWord
  split
  · split
    · exact capabilityWord_restOfHearing s r w
    · rfl
  · split <;> rfl
  · rfl

theorem upAnswer_restOfHearing (s : State) (r : RemoteId) (w : Word) (f : HubFrame) (p : List Byte) :
    (s.upAnswer r w f p).restOfHearing = s.restOfHearing := by
  unfold upAnswer
  dsimp only
  rw [restOfHearing_of_settling (takeBlocks_restOfSettling ..)]
  have statusKeeps (t : State) :
      (if w.lf = 0 ∧ w.type = typeStatus then t.statusWord r w else t).restOfHearing = t.restOfHearing := by split <;> rfl
  rw [statusKeeps]
  split
  · rfl
  · exact restOfHearing_of_settling (settleUpTo_restOfSettling ..)

/-- A link record after a good frame, before its word is read (R6, R8, R16). -/
def countGood (tb : Timebase) (w : Word) (l : RemoteLink) : RemoteLink :=
  { l with
    framesRx := satInc max32 l.framesRx
    lastGood := some (tb.goodFrame w)
    seekRun := if l.state = .seek then l.seekRun + 1 else l.seekRun
    badRun := if l.state = .negotiate ∨ l.state = .up then 0 else l.badRun }

/-- The hub after a good frame is counted, before its word is read. -/
def hearGood (s : State) (r : RemoteId) (w : Word) : State :=
  if s.rl[r].state = .seek ∧ seekRunLimit ≤ s.rl[r].seekRun + 1 then
    (s.modRl r (countGood s.tb w)).owe [.seekRunComplete r]
  else s.modRl r (countGood s.tb w)

/-- What the word and the payload of a good frame that answers a hub link frame do, in the link's state. -/
def readWord (s : State) (r : RemoteId) (st : RemoteState) (w : Word) (f : HubFrame) (payload : List Byte) : State :=
  match st with
  | .negotiate => if w.lf = 0 then s.negotiateWord r w else s
  | .up => s.upAnswer r w f payload
  | _ => s

theorem remoteGood_eq (s : State) (r : RemoteId) (w : Word) (p : List Byte) : s.remoteGood r w p =
    match answered (s.hearGood r w).tb.history w.low w.lf with
    | none => (s.hearGood r w).countAnswer r
    | some f => ((s.hearGood r w).readWord r s.rl[r].state w f p).modRl r fun l => { l with nextAnswer := f.label + 1 } :=
  rfl

theorem hearGood_frame (s : State) (r : RemoteId) (w : Word) : s.hearGood r w = { s with
    rl := s.rl.set r (countGood s.tb w s.rl[r]), due := (s.hearGood r w).due } := by
  unfold hearGood
  split <;> rfl

theorem readWord_restOfHearing (s : State) (r : RemoteId) (st : RemoteState) (w : Word) (f : HubFrame) (p : List Byte) :
    (s.readWord r st w f p).restOfHearing = s.restOfHearing := by
  unfold readWord
  split
  · split
    · exact negotiateWord_restOfHearing ..
    · rfl
  · exact upAnswer_restOfHearing ..
  · rfl

theorem remoteGood_restOfHearing (s : State) (r : RemoteId) (w : Word) (p : List Byte) :
    (s.remoteGood r w p).restOfHearing = s.restOfHearing := by
  have heard : (s.hearGood r w).restOfHearing = s.restOfHearing := by rw [hearGood_frame]; rfl
  rw [remoteGood_eq, ← heard]
  split
  · exact countAnswer_restOfHearing ..
  · rw [modRl_restOfHearing, readWord_restOfHearing]

theorem remoteBad_restOfHearing (s : State) (r : RemoteId) : (s.remoteBad r).restOfHearing = s.restOfHearing := by
  have owes (b : Prop) [Decidable b] (t : State) (l : List Instr) :
      (if b then t.owe l else t).restOfHearing = t.restOfHearing := by split <;> rfl
  unfold remoteBad
  dsimp only
  split
  · rfl
  · exact countAnswer_restOfHearing ..
  · exact countAnswer_restOfHearing ..
  · exact countAnswer_restOfHearing ..
  · exact countAnswer_restOfHearing ..
  · rw [countAnswer_restOfHearing, owes, modRl_restOfHearing]
  · rw [countAnswer_restOfHearing, owes]
    split
    · rw [restOfHearing_of_settling (settleUpTo_restOfSettling ..), modRl_restOfHearing]
    · rfl

theorem remoteFrame_restOfHearing (s : State) (r : RemoteId) (f : RemoteFrame) :
    (s.remoteFrame r f).restOfHearing = s.restOfHearing := by
  unfold remoteFrame
  split
  · rfl
  · split
    · split
      · exact remoteGood_restOfHearing ..
      · exact remoteBad_restOfHearing ..
    · exact remoteBad_restOfHearing ..

theorem frame_of_restOfHearing {s t : State} (h : t.restOfHearing = s.restOfHearing) : t = { s with
    rl := t.rl, meas := t.meas, due := t.due, sup := t.sup
    comb := { s.comb with gates := t.comb.gates, sums := t.comb.sums, outputs := t.comb.outputs, sat := t.comb.sat } } :=
  (congrArg (fun u : State => { u with
    rl := t.rl, meas := t.meas, due := t.due, sup := t.sup
    comb := { u.comb with gates := t.comb.gates, sums := t.comb.sums, outputs := t.comb.outputs, sat := t.comb.sat } }) h :)

/-- Everything but the operator links, the trunk, the Timebase's state, the operator links' blocks, the alarm list, the
channels and the owed steps. -/
def restOfTerms (s : State) : State :=
  { s with ol := reset.ol, trunk := reset.trunk, tb := { s.tb with state := .free }, dist := { s.dist with incoming := [] }
           sup := reset.sup, mgmt := reset.mgmt, due := [] }

theorem modTerm_restOfTerms (s : State) (l : TermLinkId) (f : TermLink → TermLink) :
    (s.modTerm l f).restOfTerms = s.restOfTerms := by rw [modTerm_eq]; rfl

theorem setTimebase_restOfTerms (s : State) (x : TimebaseState) : (s.setTimebase x).restOfTerms = s.restOfTerms := by
  rw [setTimebase_eq]; rfl

theorem referenceStart_restOfTerms (s : State) (l : TermLinkId) (w : Word) (b : Bool) :
    (s.referenceStart l w b).restOfTerms = s.restOfTerms := by
  unfold referenceStart
  split
  · split
    · split
      · rfl
      · exact setTimebase_restOfTerms ..
    · rfl
    · rfl
  · rfl

theorem termGood_restOfTerms (s : State) (l : TermLinkId) (w : Word) : (s.termGood l w).restOfTerms = s.restOfTerms := by
  unfold termGood
  dsimp only
  split
  · rw [← modTerm_restOfTerms s l]; rfl
  · exact modTerm_restOfTerms ..

theorem cutOff_frame (s : State) : s.cutOff = { s with mgmt := s.cutOff.mgmt } := by
  unfold cutOff
  split <;> rfl

theorem assemble_frame (s : State) (bytes : List Byte) :
    s.assemble bytes = { s with mgmt := (s.assemble bytes).mgmt, due := (s.assemble bytes).due } := by
  unfold assemble
  split
  · rfl
  · dsimp only
    split
    · rfl
    · split
      · rfl
      · split <;> rfl

theorem deliver_frame (s : State) (w : Word) :
    s.deliver w = { s with mgmt := (s.deliver w).mgmt, due := (s.deliver w).due } := by
  unfold deliver
  split
  · rw [assemble_frame, cutOff_frame]
  · split
    · split
      · exact assemble_frame ..
      · rfl
    · rw [cutOff_frame]

theorem termBad_restOfTerms (s : State) (l : TermLinkId) : (s.termBad l).restOfTerms = s.restOfTerms := by
  unfold termBad
  split
  · exact modTerm_restOfTerms ..
  · rfl
  · dsimp only
    generalize hu : State.modTerm _ _ _ = u
    have ku : u.restOfTerms = s.restOfTerms := by subst hu; exact modTerm_restOfTerms ..
    rw [← ku]
    have owes (b : Prop) [Decidable b] (t : State) (x : List Instr) :
        (if b then t.owe x else t).restOfTerms = t.restOfTerms := by split <;> rfl
    rw [owes]
    cases l with
    | op o => rfl
    | trunk => dsimp only; rw [cutOff_frame]; rfl

theorem takeSlots_restOfTerms (s : State) (o : OpId) (b : List Byte) : (s.takeSlots o b).restOfTerms = s.restOfTerms := rfl

theorem operatorFrame_restOfTerms (s : State) (o : OpId) (f : TermFrame) :
    (s.operatorFrame o f).restOfTerms = s.restOfTerms := by
  unfold operatorFrame
  split
  · split
    · dsimp only
      split
      · rw [takeSlots_restOfTerms, termGood_restOfTerms, referenceStart_restOfTerms]
      · rw [termGood_restOfTerms, referenceStart_restOfTerms]
    · exact termBad_restOfTerms ..
  · exact termBad_restOfTerms ..

theorem trunkFrame_restOfTerms (s : State) (f : TermFrame) : (s.trunkFrame f).restOfTerms = s.restOfTerms := by
  have delivers (t : State) (w : Word) : (t.deliver w).restOfTerms = t.restOfTerms := by rw [deliver_frame]; rfl
  unfold trunkFrame
  split
  · split
    · dsimp only
      split
      · rw [delivers, termGood_restOfTerms, referenceStart_restOfTerms]
      · rw [termGood_restOfTerms, referenceStart_restOfTerms]
    · exact termBad_restOfTerms ..
  · exact termBad_restOfTerms ..

theorem frame_of_restOfTerms {s t : State} (h : t.restOfTerms = s.restOfTerms) : t = { s with
    ol := t.ol, trunk := t.trunk, tb := { s.tb with state := t.tb.state }
    dist := { s.dist with incoming := t.dist.incoming }, sup := t.sup, mgmt := t.mgmt, due := t.due } :=
  (congrArg (fun u : State => { u with
    ol := t.ol, trunk := t.trunk, tb := { u.tb with state := t.tb.state }
    dist := { u.dist with incoming := t.dist.incoming }, sup := t.sup, mgmt := t.mgmt, due := t.due }) h :)

/-! ## Boundaries and link frames -/

theorem makeBoundary_frame (s : State) (cut : Bool) : s.makeBoundary cut = { s with
    tb := { s.tb with count := s.tb.count + 1, lf := none }, rl := (s.makeBoundary cut).rl
    ol := tab fun o => s.ol[o].tick, trunk := s.trunk.tick
    mode := { s.mode with isolated := s.mode.isolated.map IsoEntry.tick }, meas := (s.makeBoundary cut).meas
    boundary := some s.closingView, due := (s.makeBoundary cut).due, dist := (s.makeBoundary cut).dist
    comb := { s.comb with
      gates := (s.makeBoundary cut).comb.gates, sums := (s.makeBoundary cut).comb.sums
      outputs := (s.makeBoundary cut).comb.outputs, sat := (s.makeBoundary cut).comb.sat } } := by
  unfold makeBoundary
  dsimp only
  rw [frame_of_restOfSettling (deadline_restOfSettling s _)]
  split <;> split <;> rfl

theorem startFrame_frame (s : State) : s.startFrame = { s with
    tb := s.tickFrame.tb, rl := s.startFrame.rl, meas := s.startFrame.meas, due := s.startFrame.due
    dist := s.startFrame.dist, mgmt := s.startFrame.mgmt, out := s.startFrame.out
    place := { s.place with lastPlaced := s.startFrame.place.lastPlaced }
    comb := { s.comb with
      gates := s.startFrame.comb.gates, sums := s.startFrame.comb.sums
      outputs := s.startFrame.comb.outputs, sat := s.startFrame.comb.sat } } := by
  unfold startFrame
  dsimp only
  rw [frame_of_restOfSettling (deadline_restOfSettling s _)]
  rfl

end Sys2Proof.Machine.State
end

section
/-! SUPPORT. How an invariant of the whole machine is proved: what each owed step, each request and each event must keep, and
that a step of the hub then keeps it. -/

namespace Sys2Proof.Machine

/-! ## Requests -/

/-- The state that an answer leaves, before its response or its place. -/
def Answer.state : Answer → State
  | .now _ _ _ s => s
  | .later _ s => s
  | .cold s => s

/-- The own rules of the commands. -/
inductive IsBody : (Channel → List Byte → State → Answer) → Prop
  | accessSet : IsBody doAccessSet
  | release : IsBody doRelease
  | linkSet : IsBody doLinkSet
  | linkRestart : IsBody doLinkRestart
  | timingSet : IsBody doTimingSet
  | windowSet : IsBody doWindowSet
  | quietSet : IsBody doQuietSet
  | modeSet : IsBody doModeSet
  | isolate : IsBody doIsolate
  | restore : IsBody doRestore
  | alertSet : IsBody doAlertSet
  | alarmAck : IsBody doAlarmAck
  | warm : IsBody doWarm
  | cold : IsBody doCold
  | carrierSet : IsBody doCarrierSet
  | carrierClear : IsBody doCarrierClear
  | planSector : IsBody doPlanSector
  | planZone : IsBody doPlanZone
  | planHome : IsBody doPlanHome
  | planCommit : IsBody doPlanCommit
  | planRevert : IsBody doPlanRevert
  | balanceSet : IsBody doBalanceSet
  | balanceAccept : IsBody doBalanceAccept
  | status : IsBody doStatus
  | linkRead : IsBody doLinkRead
  | planRead : IsBody doPlanRead
  | measureRead : IsBody doMeasureRead
  | balanceRead : IsBody doBalanceRead
  | alarmList : IsBody doAlarmList
  | attach : IsBody doAttach
  | detach : IsBody doDetach
  | abort : IsBody doAbort
  | unknown : IsBody doUnknown

/-- A step of the last phase is a request, decided by the rule of its command. -/
theorem effect_of_requestPhase {x : Instr} (h : phase x = requestPhase) :
    ∃ code scope body ch tag ps, IsBody body ∧
      ∀ s, effect x s = s.request code scope body ch tag ps := by
  cases x
  case accessSet ch tag ps => exact ⟨0x10, _, _, ch, tag, ps, .accessSet, fun _ => rfl⟩
  case release ch tag ps => exact ⟨0x11, _, _, ch, tag, ps, .release, fun _ => rfl⟩
  case linkSet ch tag ps => exact ⟨0x12, _, _, ch, tag, ps, .linkSet, fun _ => rfl⟩
  case linkRestart ch tag ps => exact ⟨0x13, _, _, ch, tag, ps, .linkRestart, fun _ => rfl⟩
  case timingSet ch tag ps => exact ⟨0x14, _, _, ch, tag, ps, .timingSet, fun _ => rfl⟩
  case windowSet ch tag ps => exact ⟨0x15, _, _, ch, tag, ps, .windowSet, fun _ => rfl⟩
  case quietSet ch tag ps => exact ⟨0x16, _, _, ch, tag, ps, .quietSet, fun _ => rfl⟩
  case modeSet ch tag ps => exact ⟨0x17, _, _, ch, tag, ps, .modeSet, fun _ => rfl⟩
  case isolate ch tag ps => exact ⟨0x18, _, _, ch, tag, ps, .isolate, fun _ => rfl⟩
  case restore ch tag ps => exact ⟨0x19, _, _, ch, tag, ps, .restore, fun _ => rfl⟩
  case alertSet ch tag ps => exact ⟨0x1A, _, _, ch, tag, ps, .alertSet, fun _ => rfl⟩
  case alarmAck ch tag ps => exact ⟨0x1B, _, _, ch, tag, ps, .alarmAck, fun _ => rfl⟩
  case warm ch tag ps => exact ⟨0x1E, _, _, ch, tag, ps, .warm, fun _ => rfl⟩
  case cold ch tag ps => exact ⟨0x1F, _, _, ch, tag, ps, .cold, fun _ => rfl⟩
  case carrierSet ch tag ps => exact ⟨0x30, _, _, ch, tag, ps, .carrierSet, fun _ => rfl⟩
  case carrierClear ch tag ps => exact ⟨0x31, _, _, ch, tag, ps, .carrierClear, fun _ => rfl⟩
  case planSector ch tag ps => exact ⟨0x32, _, _, ch, tag, ps, .planSector, fun _ => rfl⟩
  case planZone ch tag ps => exact ⟨0x33, _, _, ch, tag, ps, .planZone, fun _ => rfl⟩
  case planHome ch tag ps => exact ⟨0x34, _, _, ch, tag, ps, .planHome, fun _ => rfl⟩
  case planCommit ch tag ps => exact ⟨0x35, _, _, ch, tag, ps, .planCommit, fun _ => rfl⟩
  case planRevert ch tag ps => exact ⟨0x36, _, _, ch, tag, ps, .planRevert, fun _ => rfl⟩
  case balanceSet ch tag ps => exact ⟨0x37, _, _, ch, tag, ps, .balanceSet, fun _ => rfl⟩
  case balanceAccept ch tag ps => exact ⟨0x38, _, _, ch, tag, ps, .balanceAccept, fun _ => rfl⟩
  case status ch tag ps => exact ⟨0x50, anyScope, _, ch, tag, ps, .status, fun _ => rfl⟩
  case linkRead ch tag ps => exact ⟨0x51, _, _, ch, tag, ps, .linkRead, fun _ => rfl⟩
  case planRead ch tag ps => exact ⟨0x52, _, _, ch, tag, ps, .planRead, fun _ => rfl⟩
  case measureRead ch tag ps => exact ⟨0x53, _, _, ch, tag, ps, .measureRead, fun _ => rfl⟩
  case balanceRead ch tag ps => exact ⟨0x54, _, _, ch, tag, ps, .balanceRead, fun _ => rfl⟩
  case alarmList ch tag ps => exact ⟨0x55, _, _, ch, tag, ps, .alarmList, fun _ => rfl⟩
  case attach ch tag ps => exact ⟨0x70, _, _, ch, tag, ps, .attach, fun _ => rfl⟩
  case detach ch tag ps => exact ⟨0x71, _, _, ch, tag, ps, .detach, fun _ => rfl⟩
  case abort ch tag ps => exact ⟨0x7F, anyScope, _, ch, tag, ps, .abort, fun _ => rfl⟩
  case unknownCommand ch tag code ps => exact ⟨code, anyScope, _, ch, tag, ps, .unknown, fun _ => rfl⟩
  all_goals simp only [phase, requestPhase, reduceCtorEq, Nat.reduceEqDiff] at h

namespace State

theorem carryOut_frame (ch : Channel) (tag code : Byte) (a : Answer) :
    carryOut ch tag code a = { a.state with mgmt := (carryOut ch tag code a).mgmt } := by
  cases a with
  | now result clamped data s => exact respond_eq ..
  | later cmd s => exact setBusy_eq ..
  | cold s => dsimp only [carryOut]; rw [setBusy_eq, respond_eq]; rfl

/-- A request keeps what its command's own rule keeps, when the channels and the return queue do not matter to it. -/
theorem request_keeps {P : State → Prop} (channels : ∀ s m, P s → P { s with mgmt := m }) {s : State} {code : Byte}
    {scope : Channel → List Byte → State → ScopeVerdict} {body : Channel → List Byte → State → Answer} {ch tag : Byte}
    {ps : List Byte} (h : P s) (own : ∀ c, P (body c ps s).state) : P (s.request code scope body ch tag ps) := by
  rcases s.request_cases code scope body ch tag ps with ⟨_, e⟩ | ⟨_, x, e⟩ | ⟨_, c, _, _, _, e⟩ <;> rw [e]
  · exact channels s _ h
  · rw [respond_eq]; exact channels s _ h
  · rw [carryOut_frame]; exact channels _ _ (own c)

end State

/-! ## What the own rule of a request does -/

/-- Everything that the own rule of a request can make of the state, before its response or its place. Each constructor keeps
the guards of the rule that a later proof needs. -/
inductive Commanded (ch : Channel) (s : State) : State → Prop
  /-- A read, a refusal, a repeated clear, WARM and COLD. -/
  | same : Commanded ch s s
  /-- ACCESS SET, an accepted ATTACH and DETACH. -/
  | access (codes : Vector (BitVec 32) 4) (scope : Option OpId) :
    Commanded ch s { s with mgmt := { s.mgmt with codes := codes, scope := scope } }
  /-- RELEASE. -/
  | release : Commanded ch s ({ s with mgmt := { s.mgmt with barred := false } }.clear ⟨.accessBarred, .device⟩)
  /-- ATTACH with a wrong code. -/
  | bar : Commanded ch s ({ s with mgmt := { s.mgmt with scope := none, barred := true } }.raise ⟨.accessBarred, .device⟩)
  /-- LINK SET. -/
  | linkSet (x : LinkSettings) : Commanded ch s ((applyOffered (applyEnable s x) x).modRl x.remote fun l =>
      { l with m := clamp 0 4096 x.m, pmax := clamp 1 4000 x.pmax })
  /-- LINK RESTART. -/
  | restart (r : RemoteId) (listed : s.rl[r].state ≠ .isolated) (off : s.rl[r].state ≠ .off) : Commanded ch s (s.restart r)
  /-- TIMING SET. -/
  | timing (ref : Reference) (x : TimebaseState) :
    Commanded ch s ({ s with tb := { s.tb with reference := ref } }.setTimebase x)
  /-- WINDOW SET. -/
  | window (m : Measurement) : Commanded ch s { s with meas := m }
  /-- QUIET SET and MODE SET. -/
  | mode (u : ModeUnit) (mode : u.mode = s.mode.mode) (isolated : u.isolated = s.mode.isolated)
      (pending : u.pendingIso = s.mode.pendingIso) : Commanded ch s { s with mode := u }
  /-- ISOLATE of a listed remote. -/
  | renew (r : RemoteId) (delay : Nat) (force : Bool) : Commanded ch s (renew s r delay force)
  /-- ISOLATE. -/
  | isolate (p : PendingIso) (unlisted : ¬ s.Listed p.remote) (room : s.mode.isolated.length < isolationCapacity) :
    Commanded ch s { s with mode := { s.mode with pendingIso := some p } }
  /-- RESTORE. -/
  | restore (r : RemoteId) (listed : s.Listed r) : Commanded ch s ((s.unlist r).restart r)
  /-- ALERT SET. -/
  | alerts (enable pending : Bool) (masks : BitVec 16) (alert : Option Alert) : Commanded ch s { s with
      sup := { s.sup with enable := enable, masks := masks, pending := pending }, mgmt := { s.mgmt with alert := alert } }
  /-- ALARM ACK. -/
  | ack (keys : List Key) : Commanded ch s { s with sup := (s.sup.ack s.tb.count keys).1 }
  /-- CARRIER SET. -/
  | define (x : CarrierSettings) (place : CarrierPlace) (priority : Nat) (levels : Levels)
      (same : isListed s x.carrier = true → (s.carrier x.carrier).place = some place ∧
        (s.carrier x.carrier).priority = priority ∧ (s.carrier x.carrier).eventOnly = x.eventOnly) :
    Commanded ch s ((if (s.carrier x.carrier).place = some place then s else s.dropOutputs x.carrier).modCarrier x.carrier
      fun k => { k with place := some place, priority := priority, eventOnly := x.eventOnly, set := levels })
  /-- CARRIER CLEAR. -/
  | undefine (c : CarrierId) (unlisted : isListed s c = false) (defined : (s.carrier c).place.isSome = true) :
    Commanded ch s ((s.dropOutputs c).modCarrier c fun _ => CarrierRecord.unused)
  /-- PLAN SECTOR. -/
  | sector (x : SectorEdit) (h : Nat) (low : h ≤ 4) (few : x.carriers.length ≤ 8) (once : x.carriers.Nodup)
      (owned : ∀ c ∈ x.carriers, s.plan.owner c = some x.op) :
    Commanded ch s (s.modPlan x.op fun p => { p with staged := editSector x h p.staged, state := .editing ch })
  /-- PLAN ZONE. -/
  | zone (x : ZoneEdit) (few : x.alts.length ≤ 3) (fit : altsFit x.home x.alts = true) :
    Commanded ch s (s.modPlan x.op fun p => { p with staged := editZone x p.staged, state := .editing ch })
  /-- PLAN HOME. -/
  | home (o : OpId) : Commanded ch s (s.modPlan o fun p => { p with staged := editHome p.staged, state := .editing ch })
  /-- PLAN COMMIT. -/
  | commit (o : OpId) (origin : Origin) : Commanded ch s (s.modPlan o fun p => { p with state := .armed origin true })
  /-- PLAN REVERT. -/
  | revert (o : OpId) : Commanded ch s (revert s o)
  /-- BALANCE SET, and BALANCE ACCEPT of a stale advice. -/
  | balancer (bal : Vector BalancerOp 4) : Commanded ch s { s with bal := bal }
  /-- BALANCE ACCEPT. -/
  | accept (o : OpId) (bal : Vector BalancerOp 4) (a : Advice) (holds : adviceHolds s o a = true) :
    Commanded ch s ({ s with bal := bal }.stageMove o a.remote a.toSector ch.origin)
  /-- LINK READ. -/
  | latch (r : RemoteId) : Commanded ch s (s.modRl r fun l => { l with downLatch := false })
  /-- ABORT of a PLAN COMMIT or a BALANCE ACCEPT. -/
  | disarm (o : OpId) (data : List Byte) : Commanded ch s ((cancelArmed s o ch).complete ch .aborted false data)
  /-- ABORT of a MODE SET. -/
  | unrequest : Commanded ch s ({ s with mode := { s.mode with requested := none } }.complete ch .aborted false [])
  /-- ABORT of an ISOLATE. -/
  | unpend (flag : Bool) : Commanded ch s ({ s with mode := { s.mode with pendingIso := none } }.complete ch .aborted flag [])

section
variable {ch : Channel} {s : State}

/-- A refusal of the parameters leaves the state. -/
theorem withParams_commanded {α : Type} {p : Option α} {f : α → Answer}
    (each : ∀ a, p = some a → Commanded ch s (f a).state) : Commanded ch s (withParams p s f).state := by
  cases p with
  | none => exact .same
  | some a => exact each a rfl

theorem listed_iff (s : State) (r : RemoteId) : (s.mode.isolated.any fun e => e.remote = r) = true ↔ s.Listed r := by
  simp [State.Listed]

theorem edit_commanded {o : OpId} {flag : Bool} {f : Bank → Bank}
    (taken : Commanded ch s (s.modPlan o fun p => { p with staged := f p.staged, state := .editing ch })) :
    Commanded ch s (edit ch o flag f s).state := by
  unfold edit
  split
  · exact .same
  · exact taken

theorem allOf_length {α β : Type} {f : α → Option β} {l : List α} {ys : List β} (h : allOf f l = some ys) :
    ys.length = l.length := by
  induction l generalizing ys with
  | nil => cases h; rfl
  | cons x xs ih =>
    unfold allOf at h
    split at h
    · next rest => cases h; simp [ih rest]
    · contradiction

theorem sectorParams_few {ps : List Byte} {x : SectorEdit} (h : sectorParams ps = some x) :
    x.carriers.length ≤ 8 ∧ x.carriers.Nodup := by
  unfold sectorParams at h
  split at h
  · split at h
    · next read =>
      have length := allOf_length read
      split at h
      · next fits =>
        obtain ⟨few, all, once⟩ := fits
        cases h
        exact ⟨by dsimp only; omega, once⟩
      · contradiction
    · contradiction
  · contradiction

theorem zoneParams_few {ps : List Byte} {x : ZoneEdit} (h : zoneParams ps = some x) :
    x.alts.length ≤ 3 ∧ altsFit x.home x.alts = true := by
  unfold zoneParams at h
  split at h
  · split at h
    · next read =>
      have length := allOf_length read
      split at h
      · next fits =>
        obtain ⟨few, all, fit⟩ := fits
        cases h
        exact ⟨by dsimp only; omega, fit⟩
      · contradiction
    · contradiction
  · contradiction

theorem IsBody.commanded {body : Channel → List Byte → State → Answer} (h : IsBody body) (ps : List Byte) :
    Commanded ch s (body ch ps s).state := by
  cases h
  case accessSet =>
    refine withParams_commanded fun (o, code) _ => ?_
    dsimp only [answerDone, Answer.state]
    split
    · exact .access _ none
    · exact .access _ _
  case release =>
    refine withParams_commanded fun _ _ => ?_
    dsimp only
    split
    · exact .release
    · exact .same
  case linkSet => exact withParams_commanded fun x _ => .linkSet x
  case linkRestart =>
    refine withParams_commanded fun r _ => ?_
    split
    case h_1 => exact .same
    case h_2 => exact .same
    case h_3 listed off => exact .restart r listed off
  case timingSet => exact withParams_commanded fun ref _ => .timing ref _
  case windowSet => exact withParams_commanded fun _ _ => .window _
  case quietSet => exact withParams_commanded fun _ _ => .mode _ rfl rfl rfl
  case modeSet => exact withParams_commanded fun _ _ => .mode _ rfl rfl rfl
  case isolate =>
    refine withParams_commanded fun (r, d, force) _ => ?_
    dsimp only
    split
    · exact .renew ..
    · next unlisted =>
      split
      · exact .same
      · split
        · exact .same
        · next room =>
          split
          · exact .same
          · exact .isolate _ (fun l => unlisted ((listed_iff s r).mpr l)) (Nat.lt_of_not_le room)
  case restore =>
    refine withParams_commanded fun r _ => ?_
    split
    · next listed => exact .restore r ((listed_iff s r).mp listed)
    · exact .same
  case alertSet => exact withParams_commanded fun _ _ => .alerts ..
  case alarmAck => exact withParams_commanded fun keys _ => .ack keys
  case warm => exact withParams_commanded fun _ _ => .same
  case cold => exact withParams_commanded fun _ _ => .same
  case carrierSet =>
    refine withParams_commanded fun x _ => ?_
    dsimp only
    split
    · exact .same
    · split
      · exact .same
      · next h =>
        refine .define x _ _ _ fun listed => ?_
        simpa [listed, and_assoc] using h
  case carrierClear =>
    refine withParams_commanded fun c _ => ?_
    split
    · exact .same
    · next unlisted =>
      split
      · next defined => exact .undefine c (by simpa using unlisted) defined
      · exact .same
  case planSector =>
    refine withParams_commanded fun x hx => ?_
    obtain ⟨few, once⟩ := sectorParams_few hx
    split
    · next owned =>
      refine edit_commanded (.sector x _ ?_ few once (by simpa using owned))
      simp [clamp]
    · exact .same
  case planZone =>
    refine withParams_commanded fun x hx => ?_
    obtain ⟨few, fit⟩ := zoneParams_few hx
    exact edit_commanded (.zone x few fit)
  case planHome => exact withParams_commanded fun o _ => edit_commanded (.home o)
  case planCommit =>
    refine withParams_commanded fun o _ => ?_
    split
    · exact .same
    · exact .same
    · split
      · exact .same
      · split
        · exact .same
        · exact .commit o _
  case planRevert =>
    refine withParams_commanded fun o _ => ?_
    split
    · exact .same
    · exact .same
    · split
      · exact .same
      · exact .revert o
  case balanceSet => exact withParams_commanded fun x _ => .balancer _
  case balanceAccept =>
    refine withParams_commanded fun o _ => ?_
    dsimp only
    split
    · exact .same
    · split
      · exact .same
      · next a _ =>
        split
        · next holds => exact .accept o _ a holds
        · exact .balancer _
  case status => exact withParams_commanded fun _ _ => .same
  case linkRead => exact withParams_commanded fun r _ => .latch r
  case planRead => exact withParams_commanded fun _ _ => .same
  case measureRead => exact withParams_commanded fun _ _ => .same
  case balanceRead => exact withParams_commanded fun _ _ => .same
  case alarmList => exact withParams_commanded fun _ _ => .same
  case attach =>
    refine withParams_commanded fun (o, code) _ => ?_
    dsimp only
    split
    · exact .same
    · split
      · exact .access s.mgmt.codes _
      · exact .bar
  case detach => exact withParams_commanded fun _ _ => .access s.mgmt.codes none
  case abort =>
    refine withParams_commanded fun _ _ => ?_
    dsimp only
    split
    · exact .disarm ..
    · exact .disarm ..
    · exact .unrequest
    · exact .unpend _
    · exact .same
    · exact .same
    · exact .same
  case unknown => exact .same

end

end Sys2Proof.Machine
end

section
/-! SUPPORT. The frames of requests, and the preservation principles put together over every command. -/

namespace Sys2Proof.Machine.State

/-! ## What the parts of a LINK SET and an ABORT leave -/

theorem restart_frame (s : State) (r : RemoteId) : s.restart r = { s with
    rl := (s.restart r).rl, comb := (s.restart r).comb, place := (s.restart r).place, sup := (s.restart r).sup } :=
  frame_of_restOfLinks (restart_restOfLinks s r)

theorem disable_frame (s : State) (r : RemoteId) : s.disable r = { s with
    rl := (s.disable r).rl, comb := (s.disable r).comb, place := (s.disable r).place, sup := (s.disable r).sup } :=
  frame_of_restOfLinks (disable_restOfLinks s r)

theorem applyEnable_frame (s : State) (x : LinkSettings) : applyEnable s x = { s with
    rl := (applyEnable s x).rl, comb := (applyEnable s x).comb, place := (applyEnable s x).place
    sup := (applyEnable s x).sup, mode := (applyEnable s x).mode } := by
  unfold applyEnable
  dsimp only
  split
  · split
    · rw [restart_frame]; rfl
    · rfl
  · split
    · rfl
    · rw [disable_frame]; rfl

theorem applyOffered_frame (s : State) (x : LinkSettings) : applyOffered s x = { s with
    rl := (applyOffered s x).rl, comb := (applyOffered s x).comb, place := (applyOffered s x).place
    sup := (applyOffered s x).sup } := by
  unfold applyOffered
  dsimp only
  split
  · rw [restart_frame]; rfl
  · rfl

theorem cancelArmed_frame (s : State) (o : OpId) (ch : Channel) :
    cancelArmed s o ch = { s with plan := { s.plan with plans := (cancelArmed s o ch).plan.plans } } := by
  unfold cancelArmed
  split <;> rfl

/-! ## Boundaries -/

theorem endBoundary_boundary (s : State) : s.endBoundary.boundary = none := rfl

theorem ite_keeps {P : State → Prop} {c : Prop} [Decidable c] {s t : State} (hs : P s) (ht : P t) :
    P (if c then s else t) := by split <;> assumption

/-- No boundary is being taken, or its placement is settled. -/
def Settled (s : State) : Prop := ∀ b, s.boundary = some b → b.settled = true

/-- No own rule of a request makes or ends a boundary. -/
theorem boundary_of_commanded {ch : Channel} {s t : State} (h : Commanded ch s t) : t.boundary = s.boundary := by
  cases h
  case linkSet x => rw [modRl_boundary, applyOffered_frame, applyEnable_frame]
  case restart r _ _ => rw [restart_frame]
  case timing => rw [setTimebase_eq]
  case restore r _ => rw [restart_frame]; rfl
  case define => split <;> rfl
  case disarm => rw [complete_eq, cancelArmed_frame]
  case unrequest => rw [complete_eq]
  case unpend => rw [complete_eq]
  all_goals rfl

theorem request_boundary {x : Instr} (h : phase x = requestPhase) (s : State) : (effect x s).boundary = s.boundary := by
  obtain ⟨code, scope, body, ch, tag, ps, isBody, eff⟩ := effect_of_requestPhase h
  rw [eff]
  exact request_keeps (P := fun t => t.boundary = s.boundary) (fun _ _ h => h) rfl fun _ => boundary_of_commanded (isBody.commanded ps)

/-- A step of a phase after the placement phases makes and ends no boundary. -/
theorem effect_boundary_of_late {x : Instr} (late : placementPhase < phase x) (s : State) :
    (effect x s).boundary = s.boundary := by
  by_cases request : phase x = requestPhase
  · exact request_boundary request s
  · cases x
    case windowEnd => dsimp only [effect]; rw [windowEnd_frame]
    case warmResetApplied => dsimp only [effect]; rw [warmResetApplied_frame]; dsimp only [warmBlocks]
    case guardStepDown r => dsimp only [effect]; rw [guardStepDown_frame]
    case autoQuietEntry => dsimp only [effect]; rw [autoQuietEntry_frame]
    case alertPlacement => dsimp only [effect]; rw [alertPlacement_frame]
    all_goals first
      | exact absurd rfl request
      | exact absurd late (Nat.not_lt_of_ge (Nat.le_of_ble_eq_true rfl))
      | rfl

theorem takePhase_boundary {p : Nat} (late : placementPhase < p) (n : Nat) (s : State) :
    (s.takePhase p n).boundary = s.boundary := by
  induction n generalizing s with
  | zero => rfl
  | succ n ih =>
    unfold takePhase
    split
    · rfl
    · next x found =>
      have phased : phase x = p := by simpa using List.find?_some found
      rw [ih, effect_boundary_of_late (phased ▸ late)]
      rfl

theorem settleBoundary_settled (s : State) : s.settleBoundary.Settled := by
  intro b hb
  unfold settleBoundary at hb
  split at hb
  · next none => rw [none] at hb; contradiction
  · split at hb
    · next b' some settled => rw [some] at hb; cases hb; exact settled
    · cases hb; rfl

/-- Once the placement phases are drained, the placement of the boundary being taken is settled. -/
theorem drainTo_settled {n : Nat} (h : placementPhase < n) (s : State) : (s.drainTo n).Settled := by
  induction n with
  | zero => contradiction
  | succ n ih =>
    unfold drainTo finishPhase
    dsimp only
    split
    · exact settleBoundary_settled _
    · have later : placementPhase < n := by omega
      intro b hb
      rw [takePhase_boundary later] at hb
      exact ih later b hb

/-! ## Commands -/

/-- A step that the hub can owe is taken by its own command when it is owed, ALERT_PLACEMENT apart. -/
theorem exec_eq_owedStep {x : Instr} (early : phase x < requestPhase) (alert : x ≠ .alertPlacement) (s : State) :
    exec x s = awake s fun s => s.owedStep x := by
  cases x
  case alertPlacement => contradiction
  all_goals first
    | exact absurd early (Nat.not_lt_of_ge (Nat.le_of_ble_eq_true rfl))
    | rfl

theorem exec_alertPlacement (s : State) : exec .alertPlacement s = awake s fun s => s.owedFreely .alertPlacement := rfl

theorem exec_eq_requestStep {x : Instr} (request : phase x = requestPhase) (s : State) :
    exec x s = awake s fun s => s.requestStep x := by
  cases x
  all_goals first
    | exact absurd request (Nat.ne_of_beq_eq_false rfl)
    | rfl

theorem exec_superframeBoundary (s : State) :
    exec .superframeBoundary s = awake s fun s => s.drain.makeBoundary false := rfl

theorem exec_remoteFrameReceived (r : RemoteId) (f : RemoteFrame) (s : State) :
    exec (.remoteFrameReceived r f) s = awake s fun s => s.drain.remoteFrame r f := rfl

theorem exec_missingFramePeriod_remote (r : RemoteId) (s : State) :
    exec (.missingFramePeriod (.remote r)) s = awake s fun s => s.drain.remoteBad r := rfl

theorem exec_missingFramePeriod_term (l : TermLinkId) (s : State) :
    exec (.missingFramePeriod (.term l)) s = awake s fun s => s.drain.termBad l := rfl

theorem exec_operatorFrameReceived (o : OpId) (f : TermFrame) (s : State) :
    exec (.operatorFrameReceived o f) s = awake s fun s => (s.startAtBoundary (.op o) f).drain.operatorFrame o f := rfl

theorem exec_trunkFrameReceived (f : TermFrame) (s : State) :
    exec (.trunkFrameReceived f) s = awake s fun s => (s.startAtBoundary .trunk f).drain.trunkFrame f := rfl

theorem exec_blockDeadline (s : State) :
    exec .blockDeadline s = awake s fun s => s.drain.deadline (s.drain.tb.label - 1) := rfl

/-! ## The rule -/

/-- What every part of a step must keep for a step to keep a predicate: the bookkeeping of the queue and the owed steps, the
owed steps, the requests, and the events. -/
structure KeptByParts (P : State → Prop) : Prop where
  cold : ∀ s, P s → P s.coldReset
  queue : ∀ s q, P s → P { s with pending := q }
  due : ∀ s l, P s → P { s with due := l }
  assertPin : ∀ s, P s → P s.assertPin
  endBoundary : ∀ s, s.Settled → P s → P s.endBoundary
  settleBoundary : ∀ s, P s → P s.settleBoundary
  levelFieldTakesEffect : ∀ s c, P s → P (s.levelFieldTakesEffect c)
  linkSettingsTakeEffect : ∀ s r, P s → P (s.linkSettingsTakeEffect r)
  seekRunComplete : ∀ s r, P s → P (s.seekRunComplete r)
  farFlagChange : ∀ s r i, P s → P (s.farFlagChange r i)
  echoFailure : ∀ s r, P s → P (s.echoFailure r)
  negotiationTimeout : ∀ s r, P s → P (s.negotiationTimeout r)
  negotiateAlignmentLoss : ∀ s r, P s → P (s.negotiateAlignmentLoss r)
  linkEntersUp : ∀ s r, P s → P (s.linkEntersUp r)
  linkLostEntry : ∀ s r, P s → P (s.linkLostEntry r)
  lostHoldEnd : ∀ s r, P s → P (s.lostHoldEnd r)
  linkSeekToUp : ∀ s l, P s → P (s.linkSeekToUp l)
  linkUpToLost : ∀ s l, P s → P (s.linkUpToLost l)
  linkLostHoldEnd : ∀ s l, P s → P (s.linkLostHoldEnd l)
  lock : ∀ s, P s → P s.lock
  expireGate : ∀ s r c, P s → P (s.expireGate r c)
  windowEnd : ∀ s, P s → P s.windowEnd
  guardStepDown : ∀ s r, P s → P (s.guardStepDown r)
  autoQuietEntry : ∀ s, P s → P s.autoQuietEntry
  switchover : ∀ s o, P s → P (s.switchover o)
  hubModeDecision : ∀ s, P s → P s.hubModeDecision
  pendingIsolationApply : ∀ s, P s → P s.pendingIsolationApply
  isolationTimerExpiry : ∀ s r, P s → P (s.isolationTimerExpiry r)
  warmResetApplied : ∀ s, P s → P s.warmResetApplied
  alertPlacement : ∀ s, P s → P s.alertPlacement
  request : ∀ x s, phase x = requestPhase → s.boundary = none → P s → P (effect x s)
  makeBoundary : ∀ s cut, P s → P (s.makeBoundary cut)
  startFrame : ∀ s, P s → P s.startFrame
  remoteFrame : ∀ s r f, P s → P (s.remoteFrame r f)
  remoteBad : ∀ s r, P s → P (s.remoteBad r)
  operatorFrame : ∀ s o f, P s → P (s.operatorFrame o f)
  trunkFrame : ∀ s f, P s → P (s.trunkFrame f)
  termBad : ∀ s l, P s → P (s.termBad l)
  deadline : ∀ s n, P s → P (s.deadline n)

namespace KeptByParts

variable {P : State → Prop} (k : KeptByParts P)
include k

theorem timebaseRelock (s : State) (b : Bool) (h : P s) : P (s.timebaseRelock b) := by
  unfold State.timebaseRelock
  split
  · cases b with
    | true => exact k.lock _ h
    | false => exact k.lock _ (k.makeBoundary _ _ h)
  · exact h

theorem timedEffect {x : Instr} (early : phase x < requestPhase) {s : State} (h : P s) : P (effect x s) := by
  cases x
  case levelFieldTakesEffect c => exact k.levelFieldTakesEffect s c h
  case linkSettingsTakeEffect r => exact k.linkSettingsTakeEffect s r h
  case seekRunComplete r => exact k.seekRunComplete s r h
  case farFlagChange r i => exact k.farFlagChange s r i h
  case echoFailure r => exact k.echoFailure s r h
  case negotiationTimeout r => exact k.negotiationTimeout s r h
  case negotiateAlignmentLoss r => exact k.negotiateAlignmentLoss s r h
  case linkEntersUp r => exact k.linkEntersUp s r h
  case linkLostEntry r => exact k.linkLostEntry s r h
  case lostHoldEnd r => exact k.lostHoldEnd s r h
  case linkSeekToUp l => exact k.linkSeekToUp s l h
  case linkUpToLost l => exact k.linkUpToLost s l h
  case linkLostHoldEnd l => exact k.linkLostHoldEnd s l h
  case timebaseRelock b => exact k.timebaseRelock s b h
  case gateHoldExpiry r c => exact k.expireGate s r c h
  case windowEnd => exact k.windowEnd s h
  case guardStepDown r => exact k.guardStepDown s r h
  case autoQuietEntry => exact k.autoQuietEntry s h
  case switchover o => exact k.switchover s o h
  case hubModeDecision => exact k.hubModeDecision s h
  case pendingIsolationApply => exact k.pendingIsolationApply s h
  case isolationTimerExpiry r => exact k.isolationTimerExpiry s r h
  case warmResetApplied => exact k.warmResetApplied s h
  case coldResetApplied => exact k.cold s h
  case alertPlacement => exact k.alertPlacement s h
  all_goals simp only [phase, requestPhase, Nat.lt_irrefl, Nat.reduceLT] at early

theorem takeTimed {p : Nat} (early : p < requestPhase) (n : Nat) {s : State} (h : P s) : P (s.takePhase p n) := by
  induction n generalizing s with
  | zero => exact h
  | succ n ih =>
    unfold takePhase
    split
    · exact h
    · next x found =>
      have phased : phase x = p := by simpa using List.find?_some found
      exact ih (k.timedEffect (phased ▸ early) (k.due _ _ h))

theorem drainTo {n : Nat} (early : n ≤ requestPhase) {s : State} (h : P s) : P (s.drainTo n) := by
  induction n with
  | zero => exact h
  | succ n ih =>
    have taken := k.takeTimed (Nat.lt_of_succ_le early) (State.drainTo n s).due.length (ih (Nat.le_of_succ_le early))
    unfold State.drainTo finishPhase
    dsimp only
    split
    · exact k.settleBoundary _ taken
    · exact taken

/-- The requests are taken when the boundary is over, and none of them makes one. -/
theorem takeRequests (n : Nat) {s : State} (ended : s.boundary = none) (h : P s) : P (s.takePhase requestPhase n) := by
  induction n generalizing s with
  | zero => exact h
  | succ n ih =>
    unfold takePhase
    split
    · exact h
    · next x found =>
      have phased : phase x = requestPhase := by simpa using List.find?_some found
      exact ih ((request_boundary phased _).trans ended) (k.request x _ phased ended (k.due _ _ h))

theorem finishRequests {s : State} (ended : s.boundary = none) (h : P s) : P (s.finishPhase requestPhase) :=
  k.takeRequests s.due.length ended h

theorem afterBoundary {s : State} (h : P s) : P (s.drainTo requestPhase).endBoundary :=
  k.endBoundary _ (drainTo_settled (by decide) s) (k.drainTo le_rfl h)

theorem drain {s : State} (h : P s) : P s.drain := k.finishRequests rfl (k.afterBoundary h)

theorem owedStep {x : Instr} (early : phase x < requestPhase) {s : State} (h : P s) : P (s.owedStep x) := by
  unfold State.owedStep
  split
  · dsimp only
    split
    · exact k.timedEffect early (k.due _ _ (k.drainTo early.le h))
    · exact k.drainTo early.le h
  · exact h

theorem owedFreely {x : Instr} (early : phase x < requestPhase) {s : State} (h : P s) : P (s.owedFreely x) := by
  unfold State.owedFreely
  split
  · exact k.timedEffect early (k.due _ _ h)
  · exact h

theorem takeRequest {x : Instr} (request : phase x = requestPhase) {s : State} (ended : s.boundary = none) (h : P s) :
    P (if s.due.contains x = true then effect x (s.dropDue x) else effect x (s.finishPhase requestPhase)) :=
  ite_keeps (k.request x _ request ended (k.due _ _ h))
    (k.request x _ request ((takePhase_boundary (by decide) _ _).trans ended) (k.finishRequests ended h))

theorem requestStep {x : Instr} (request : phase x = requestPhase) {s : State} (h : P s) : P (s.requestStep x) := by
  have after := k.afterBoundary h
  have ended := endBoundary_boundary (s.drainTo requestPhase)
  unfold State.requestStep
  generalize (s.drainTo requestPhase).endBoundary = u at after ended ⊢
  exact k.takeRequest request ended after

theorem startAtBoundary (l : TermLinkId) (f : TermFrame) {s : State} (h : P s) : P (s.startAtBoundary l f) := by
  rcases s.startAtBoundary_cases l f with e | ⟨_, _, _, _, e⟩ <;> rw [e]
  · exact h
  · exact k.due _ _ h

theorem nextFrame {s : State} (h : P s) : P s.nextFrame := by
  unfold State.nextFrame
  exact k.startFrame _ (ite_keeps (k.drain (k.makeBoundary _ _ (k.drain h))) (k.drain h))

omit k in
theorem awake {f : State → State} {s t : State} (e : Machine.awake s f = .next t) (h : P s) (keeps : ∀ s, P s → P (f s)) :
    P t := by
  cases e
  split
  · exact h
  · exact keeps s h

theorem event {c : Instr} (late : requestPhase < phase c) {s t : State} (h : P s) (e : Machine.exec c s = .next t) :
    P t := by
  cases c
  case resetPinAssert => exact awake e h k.assertPin
  case resetPinRelease => cases e; exact k.cold s h
  case linkFrameStart => exact awake e h fun _ => k.nextFrame
  case superframeBoundary =>
    rw [exec_superframeBoundary] at e
    exact awake e h fun _ h => k.makeBoundary _ _ (k.drain h)
  case remoteFrameReceived r f =>
    rw [exec_remoteFrameReceived] at e
    exact awake e h fun _ h => k.remoteFrame _ r f (k.drain h)
  case missingFramePeriod l =>
    cases l with
    | remote r =>
      rw [exec_missingFramePeriod_remote] at e
      exact awake e h fun _ h => k.remoteBad _ r (k.drain h)
    | term l =>
      rw [exec_missingFramePeriod_term] at e
      exact awake e h fun _ h => k.termBad _ l (k.drain h)
  case operatorFrameReceived o f =>
    rw [exec_operatorFrameReceived] at e
    exact awake e h fun _ h => k.operatorFrame _ o f (k.drain (k.startAtBoundary _ f h))
  case trunkFrameReceived f =>
    rw [exec_trunkFrameReceived] at e
    exact awake e h fun _ h => k.trunkFrame _ f (k.drain (k.startAtBoundary _ f h))
  case blockDeadline =>
    rw [exec_blockDeadline] at e
    exact awake e h fun _ h => k.deadline _ _ (k.drain h)
  all_goals simp only [phase, requestPhase, Nat.lt_irrefl, Nat.reduceLT] at late

/-- A command keeps what its parts keep. -/
theorem exec {c : Instr} {s t : State} (h : P s) (e : Machine.exec c s = .next t) : P t := by
  rcases Nat.lt_trichotomy (phase c) requestPhase with early | request | event
  · by_cases alert : c = .alertPlacement
    · subst alert
      rw [exec_alertPlacement] at e
      exact awake e h fun _ h => k.owedFreely early h
    · rw [exec_eq_owedStep early alert] at e
      exact awake e h fun _ h => k.owedStep early h
  · rw [exec_eq_requestStep request] at e
    exact awake e h fun _ h => k.requestStep request h
  · exact k.event event h e

/-- A step keeps what its parts keep. -/
theorem step {s t : State} (h : P s) (e : Machine.step s = .next t) : P t := by
  unfold Machine.step at e
  split at e
  · cases e; exact h
  · exact k.exec (k.queue _ _ h) e

end KeptByParts

end Sys2Proof.Machine.State
end

section
/-! The statement on the return queue (R180). -/

namespace Sys2Proof.Machine

/-! ## The taken places -/

theorem reserves_le (p : Option InProgress) : reserves p ≤ 1 := by
  unfold reserves
  split
  · exact Nat.zero_le 1
  · split <;> decide

theorem reserves_of_ne_cold {p : InProgress} (h : p.cmd ≠ .cold) : reserves (some p) = 1 := by simp [reserves, h]

/-- The taken places of the return queue. -/
def Management.taken (g : Management) : Nat := g.due.length + g.reserved

theorem Management.taken_lt_of_free {g : Management} (h : 0 < g.free) : g.taken < returnPlaces := by
  unfold free at h
  unfold taken
  omega

namespace State

theorem placesBounded_iff (s : State) : s.PlacesBounded ↔ s.mgmt.taken ≤ returnPlaces := Iff.rfl

theorem respond_taken_le (s : State) (x : Response) : (s.respond x).mgmt.taken ≤ s.mgmt.taken + 1 := by
  unfold respond
  split
  · simp only [Management.taken, Management.reserved, List.length_append, List.length_singleton]
    omega
  · exact Nat.le_succ _

theorem setBusy_taken (s : State) (ch : Channel) (p : Option InProgress) :
    (s.setBusy ch p).mgmt.taken + reserves (s.mgmt.busy ch) = s.mgmt.taken + reserves p := by
  cases ch <;> simp only [setBusy, Management.busy, Management.taken, Management.reserved] <;> omega

/-- A completion takes the place that its command had reserved. -/
theorem complete_taken_le (s : State) (ch : Channel) (x : Result) (b : Bool) (d : List Byte) :
    (s.complete ch x b d).mgmt.taken ≤ s.mgmt.taken := by
  unfold complete
  split
  · exact le_rfl
  · next p busy =>
    split
    · exact le_rfl
    · next timed =>
      have freed := s.setBusy_taken ch none
      rw [busy, reserves_of_ne_cold timed] at freed
      have filled := (s.setBusy ch none).respond_taken_le ⟨ch.code, p.tag, p.cmd.code, x, b, d, false⟩
      simp only [reserves] at freed
      omega

theorem completeArming_taken_le (s : State) (o : OpId) (ch : Channel) :
    (s.completeArming o ch).mgmt.taken ≤ s.mgmt.taken := by
  unfold completeArming
  split
  · exact complete_taken_le ..
  · exact complete_taken_le ..
  · exact le_rfl

theorem cancelService_taken_le (s : State) : s.cancelService.mgmt.taken ≤ s.mgmt.taken := by
  unfold cancelService
  split
  · exact complete_taken_le ..
  · exact complete_taken_le ..
  · exact le_rfl

theorem warmCompletions_taken_le (s : State) : s.warmCompletions.mgmt.taken ≤ s.mgmt.taken := by
  unfold warmCompletions
  split
  · exact (cancelService_taken_le _).trans (complete_taken_le ..)
  · exact (complete_taken_le ..).trans (cancelService_taken_le s)

/-! ## Requests -/

/-- The own rule of a command takes no place: it leaves the return queue as it is, or completes a command. -/
theorem taken_le_of_commanded {ch : Channel} {s t : State} (h : Commanded ch s t) : t.mgmt.taken ≤ s.mgmt.taken := by
  cases h
  case linkSet x => rw [modRl_mgmt, applyOffered_frame, applyEnable_frame]
  case restart r _ _ => rw [restart_frame]
  case timing => rw [setTimebase_eq]
  case restore r _ => rw [restart_frame]; exact le_rfl
  case define => split <;> exact le_rfl
  case disarm o data => rw [cancelArmed_frame]; exact complete_taken_le ..
  case unrequest => exact complete_taken_le ..
  case unpend => exact complete_taken_le ..
  all_goals exact le_rfl

theorem carryOut_taken_le (ch : Channel) (tag code : Byte) (a : Answer) :
    (carryOut ch tag code a).mgmt.taken ≤ a.state.mgmt.taken + 1 := by
  cases a with
  | now result clamped data s => exact respond_taken_le ..
  | later cmd s =>
    have reserved := s.setBusy_taken ch (some ⟨tag, cmd⟩)
    have one := reserves_le (some ⟨tag, cmd⟩)
    dsimp only [carryOut, Answer.state]
    omega
  | cold s =>
    have filled := s.respond_taken_le ⟨ch.code, tag, code, .done, false, [], true⟩
    have reserved := (s.respond ⟨ch.code, tag, code, .done, false, [], true⟩).setBusy_taken ch (some ⟨tag, .cold⟩)
    have none : reserves (some ⟨tag, .cold⟩) = 0 := rfl
    dsimp only [carryOut, Answer.state]
    omega

theorem request_placesBounded {x : Instr} (request : phase x = requestPhase) {s : State} (h : s.PlacesBounded) :
    (effect x s).PlacesBounded := by
  obtain ⟨code, scope, body, ch, tag, ps, isBody, eff⟩ := effect_of_requestPhase request
  rw [eff]
  rcases s.request_cases code scope body ch tag ps with ⟨_, e⟩ | ⟨free, x, e⟩ | ⟨free, c, _, _, _, e⟩ <;> rw [e]
  · exact h
  · exact (respond_taken_le ..).trans (Management.taken_lt_of_free free)
  · have own := taken_le_of_commanded (isBody.commanded (ch := c) (s := s) ps)
    have room := Management.taken_lt_of_free free
    exact (carryOut_taken_le ..).trans (by omega)

/-! ## The other steps that write the channels -/

theorem trunkLoss_placesBounded {s : State} (h : s.PlacesBounded) : s.trunkLoss.PlacesBounded := by
  simp only [PlacesBounded, Management.reserved, trunkLoss, List.length_nil] at h ⊢
  omega

theorem linkUpToLost_placesBounded {s : State} (l : TermLinkId) (h : s.PlacesBounded) :
    (s.linkUpToLost l).PlacesBounded := by
  unfold linkUpToLost
  split
  · dsimp only
    have raised (f : TermLink → TermLink) : ((s.modTerm l f).raise (lossKey l)).PlacesBounded := by
      rw [modTerm_eq]; exact h
    have held {u : State} (hu : u.PlacesBounded) :
        (if u.isReference l = true then u.setTimebase .holdover else u).PlacesBounded := by
      split
      · rw [setTimebase_eq]; exact hu
      · exact hu
    cases l with
    | op o => exact held (raised _)
    | trunk => exact trunkLoss_placesBounded (held (raised _))
  · exact h

theorem cutOff_taken (s : State) : s.cutOff.mgmt.taken = s.mgmt.taken := by
  unfold cutOff
  split <;> rfl

theorem assemble_taken (s : State) (bytes : List Byte) : (s.assemble bytes).mgmt.taken = s.mgmt.taken := by
  unfold assemble
  split
  · rfl
  · dsimp only
    split
    · rfl
    · split
      · rfl
      · split <;> rfl

theorem deliver_taken (s : State) (w : Word) : (s.deliver w).mgmt.taken = s.mgmt.taken := by
  unfold deliver
  split
  · rw [assemble_taken, cutOff_taken]
  · split
    · split
      · exact assemble_taken ..
      · rfl
    · exact cutOff_taken s

theorem referenceStart_mgmt (s : State) (l : TermLinkId) (w : Word) (b : Bool) :
    (s.referenceStart l w b).mgmt = s.mgmt := by
  unfold referenceStart
  split
  · split
    · split
      · rfl
      · rw [setTimebase_eq]
    · rfl
    · rfl
  · rfl

theorem termGood_mgmt (s : State) (l : TermLinkId) (w : Word) : (s.termGood l w).mgmt = s.mgmt := by
  unfold termGood
  dsimp only
  split
  · dsimp only [owe]; rw [modTerm_eq]
  · rw [modTerm_eq]

theorem termBad_taken (s : State) (l : TermLinkId) : (s.termBad l).mgmt.taken = s.mgmt.taken := by
  unfold termBad
  split
  · rw [modTerm_eq]
  · rfl
  · dsimp only
    have owes (b : Prop) [Decidable b] (t : State) (x : List Instr) : (if b then t.owe x else t).mgmt = t.mgmt := by
      split <;> rfl
    rw [owes]
    cases l with
    | op o => rfl
    | trunk => exact cutOff_taken _

theorem trunkFrame_taken (s : State) (f : TermFrame) : (s.trunkFrame f).mgmt.taken = s.mgmt.taken := by
  unfold trunkFrame
  split
  · split
    · dsimp only
      split
      · rw [deliver_taken, termGood_mgmt, referenceStart_mgmt]
      · rw [termGood_mgmt, referenceStart_mgmt]
    · exact termBad_taken ..
  · exact termBad_taken ..

theorem operatorFrame_taken (s : State) (o : OpId) (f : TermFrame) : (s.operatorFrame o f).mgmt.taken = s.mgmt.taken := by
  have slots (t : State) (b : List Byte) : (t.takeSlots o b).mgmt = t.mgmt := rfl
  unfold operatorFrame
  split
  · split
    · dsimp only
      split
      · rw [slots, termGood_mgmt, referenceStart_mgmt]
      · rw [termGood_mgmt, referenceStart_mgmt]
    · exact termBad_taken ..
  · exact termBad_taken ..

/-- Sending frees places and takes none (R178). -/
theorem outbound_taken_le (g : Management) (up : Bool) : (g.outbound up).2.2.taken ≤ g.taken := by
  have advances (t : Transmission) : (g.advance t).taken ≤ g.taken := by
    unfold Management.advance
    split
    · exact le_rfl
    · cases t with
      | response n =>
        simp only [Management.taken, Management.reserved, List.length_tail]
        omega
      | alert n => exact le_rfl
  unfold Management.outbound
  split
  · split
    · exact le_rfl
    · exact advances _
  · exact le_rfl

theorem startFrame_mgmt (s : State) : s.startFrame.mgmt = (s.mgmt.outbound (decide (s.trunk.state = .up))).2.2 := by
  have settled := frame_of_restOfSettling (deadline_restOfSettling s (s.tb.label - 1))
  unfold startFrame
  dsimp only
  rw [settled]
  rfl

/-! ## The invariant -/

theorem warmResetApplied_placesBounded {s : State} (h : s.PlacesBounded) : s.warmResetApplied.PlacesBounded := by
  have blocks : s.warmBlocks.mgmt.taken = s.mgmt.taken := by
    dsimp only [warmBlocks, Management.taken, Management.reserved]
  have same : s.warmResetApplied.mgmt = s.warmBlocks.warmCompletions.mgmt := by unfold warmResetApplied; dsimp only
  rw [placesBounded_iff, same]
  exact (warmCompletions_taken_le s.warmBlocks).trans (blocks.trans_le h)

theorem switchover_placesBounded {s : State} (o : OpId) (h : s.PlacesBounded) : (s.switchover o).PlacesBounded := by
  have completes {t : State} (ht : t.PlacesBounded) (ch : Channel) : (t.completeArming o ch).PlacesBounded :=
    (completeArming_taken_le t o ch).trans ht
  have taken (f : OperatorPlan → OperatorPlan) : (s.modPlan o f).recomputeAll.placementChanged.PlacesBounded := by
    rw [placementChanged_frame, recomputeAll_frame]; exact h
  unfold switchover
  split
  · dsimp only
    split
    · exact completes (taken _) _
    · exact completes (taken _) _
    · exact taken _
  · exact h

theorem hubModeDecision_placesBounded {s : State} (h : s.PlacesBounded) : s.hubModeDecision.PlacesBounded := by
  have takes {t : State} (m : HubMode) (ht : t.PlacesBounded) : (t.takeMode m).PlacesBounded := by
    rw [takeMode_frame]; exact ht
  unfold hubModeDecision
  split
  · exact (complete_taken_le ..).trans (takes _ h)
  · exact takes _ h
  · exact h

theorem pendingIsolationApply_placesBounded {s : State} (h : s.PlacesBounded) :
    s.pendingIsolationApply.PlacesBounded := by
  have begins {t : State} (p : PendingIso) (ht : t.PlacesBounded) : (t.beginIsolation p).PlacesBounded := by
    unfold beginIsolation
    rw [restartInto_frame]
    exact ht
  unfold pendingIsolationApply
  split
  · exact h
  · dsimp only
    split
    · exact (complete_taken_le ..).trans h
    · exact (complete_taken_le ..).trans (begins _ h)

theorem alertPlacement_placesBounded {s : State} (h : s.PlacesBounded) : s.alertPlacement.PlacesBounded := by
  unfold alertPlacement
  split <;> exact h

theorem startFrame_placesBounded {s : State} (h : s.PlacesBounded) : s.startFrame.PlacesBounded := by
  rw [placesBounded_iff, startFrame_mgmt]
  exact (outbound_taken_le ..).trans h

theorem coldReset_placesBounded (s : State) : s.coldReset.PlacesBounded := by
  have empty : s.coldReset.mgmt = reset.mgmt := rfl
  rw [placesBounded_iff, empty]
  decide

theorem placesBounded_kept : KeptByParts PlacesBounded where
  cold s _ := coldReset_placesBounded s
  queue _ _ h := h
  due _ _ h := h
  assertPin _ h := h
  endBoundary _ _ h := h
  settleBoundary s h := by rw [settleBoundary_frame]; exact h
  levelFieldTakesEffect s c h := by rw [levelFieldTakesEffect_frame]; exact h
  linkSettingsTakeEffect s r h := by rw [linkSettingsTakeEffect_frame]; exact h
  seekRunComplete s r h := by rw [seekRunComplete_frame]; exact h
  farFlagChange s r i h := by rw [farFlagChange_frame]; exact h
  echoFailure s r h := by rw [frame_of_restOfLinks (echoFailure_restOfLinks s r)]; exact h
  negotiationTimeout s r h := by rw [frame_of_restOfLinks (negotiationTimeout_restOfLinks s r)]; exact h
  negotiateAlignmentLoss s r h := by rw [frame_of_restOfLinks (negotiateAlignmentLoss_restOfLinks s r)]; exact h
  linkEntersUp s r h := by rw [linkEntersUp_frame]; exact h
  linkLostEntry s r h := by rw [frame_of_restOfLinks (linkLostEntry_restOfLinks s r)]; exact h
  lostHoldEnd s r h := by rw [frame_of_restOfLinks (lostHoldEnd_restOfLinks s r)]; exact h
  linkSeekToUp s l h := by rw [linkSeekToUp_frame]; exact h
  linkUpToLost _ l h := linkUpToLost_placesBounded l h
  linkLostHoldEnd s l h := by rw [linkLostHoldEnd_frame]; exact h
  lock _ h := h
  expireGate _ _ _ h := h
  windowEnd s h := by rw [windowEnd_frame]; exact h
  guardStepDown s r h := by rw [guardStepDown_frame]; exact h
  autoQuietEntry s h := by rw [autoQuietEntry_frame]; exact h
  switchover _ o h := switchover_placesBounded o h
  hubModeDecision _ h := hubModeDecision_placesBounded h
  pendingIsolationApply _ h := pendingIsolationApply_placesBounded h
  isolationTimerExpiry s r h := by rw [isolationTimerExpiry_frame]; exact h
  warmResetApplied _ h := warmResetApplied_placesBounded h
  alertPlacement _ h := alertPlacement_placesBounded h
  request _ _ request _ h := request_placesBounded request h
  makeBoundary s cut h := by rw [makeBoundary_frame]; exact h
  startFrame _ h := startFrame_placesBounded h
  remoteFrame s r f h := by rw [frame_of_restOfHearing (remoteFrame_restOfHearing s r f)]; exact h
  remoteBad s r h := by rw [frame_of_restOfHearing (remoteBad_restOfHearing s r)]; exact h
  operatorFrame s o f h := (operatorFrame_taken s o f).trans_le h
  trunkFrame s f h := (trunkFrame_taken s f).trans_le h
  termBad s l h := (termBad_taken s l).trans_le h
  deadline s n h := by rw [deadline_frame]; exact h

end State

end Sys2Proof.Machine

namespace Sys2Proof.Proofs

open Sys2Proof.Machine Sys2Proof.Machine.State

/-- Settles O54: a completion takes the place its command reserved, and a request is taken only when a place is free. -/
theorem returnQueueInvariant : Obligations.ReturnQueueInvariant := fun _ _ h e => placesBounded_kept.step h e

end Sys2Proof.Proofs
end

section
/-! The statement on the alarm list (R157). -/

namespace Sys2Proof.Machine

/-! ## The list -/

namespace Supervision

/-- The list holds at most 64 entries and at most one per key (R157). -/
def Bounded (p : Supervision) : Prop := p.alarms.length ≤ alarmCapacity ∧ (p.alarms.map (·.key)).Nodup

variable {p q : Supervision} {now : Count} {key : Key}

theorem Bounded.of_alarms (h : p.Bounded) (same : q.alarms = p.alarms) : q.Bounded := by rwa [Bounded, same]

@[simp] theorem count_alarms (p : Supervision) : p.count.alarms = p.alarms := rfl

@[simp] theorem countKind_alarms (p : Supervision) (k : Kind) : (p.countKind k).alarms = p.alarms := by
  unfold countKind
  split <;> rfl

@[simp] theorem setOverflow_alarms (p : Supervision) : p.setOverflow.alarms = p.alarms := by
  unfold setOverflow
  split <;> rfl

@[simp] theorem clearOverflow_alarms (p : Supervision) : p.clearOverflow.alarms = p.alarms := by
  unfold clearOverflow
  split <;> rfl

@[simp] theorem endRace_alarms (p : Supervision) (now : Count) (key : Key) : (p.endRace now key).alarms = p.alarms := rfl

@[simp] theorem append_alarms (p : Supervision) (now : Count) (key : Key) :
    (p.append now key).alarms = p.alarms ++ [⟨key, true, now, now, 1⟩] := by simp [append]

theorem Bounded.countKind (h : p.Bounded) (k : Kind) : (p.countKind k).Bounded := h.of_alarms (countKind_alarms p k)

theorem entry_eq_none_iff : p.entry key = none ↔ key ∉ p.alarms.map (·.key) := by
  simp [entry, List.find?_eq_none]

theorem Bounded.mapEntry (h : p.Bounded) (key : Key) {f : AlarmEntry → AlarmEntry} (keeps : ∀ e, (f e).key = e.key) :
    (p.mapEntry key f).Bounded := by
  have keys : (p.mapEntry key f).alarms.map (·.key) = p.alarms.map (·.key) := by
    simp only [Supervision.mapEntry, List.map_map]
    refine List.map_congr_left fun e _ => ?_
    simp only [Function.comp_apply]
    split
    · exact keeps e
    · rfl
  obtain ⟨few, once⟩ := h
  exact ⟨by simpa [Supervision.mapEntry] using few, by rwa [keys]⟩

theorem Bounded.append (few : p.alarms.length < alarmCapacity) (once : (p.alarms.map (·.key)).Nodup)
    (new : key ∉ p.alarms.map (·.key)) : (p.append now key).Bounded := by
  refine ⟨?_, ?_⟩
  · simpa using few
  · rw [append_alarms, List.map_append]
    exact List.nodup_append_comm.mp (List.nodup_cons.mpr ⟨new, once⟩)

theorem Bounded.of_sublist {l : List AlarmEntry} (h : p.Bounded) (sub : l.Sublist p.alarms) : Bounded { p with alarms := l } :=
  ⟨sub.length_le.trans h.1, (sub.map _).nodup h.2⟩

/-- A raise without an entry appends where there is room, or after an eviction that makes it (R158, R159). -/
theorem Bounded.raiseNew (h : p.Bounded) (new : p.entry key = none) : (p.raiseNew now key).Bounded := by
  obtain ⟨few, once⟩ := h
  have absent := entry_eq_none_iff.mp new
  rcases p.raiseNew_cases now key with ⟨e, room⟩ | ⟨x, mem, cleared, e⟩ | ⟨e, _⟩ <;> rw [e]
  · exact .append room once absent
  · have sub : (p.alarms.eraseP fun e => !e.active).Sublist p.alarms := List.eraseP_sublist
    have shorter : (p.alarms.eraseP fun e => !e.active).length + 1 = p.alarms.length :=
      List.length_eraseP_add_one mem (by simp [cleared])
    refine .append ?_ ?_ ?_
    · rw [countKind_alarms]
      dsimp only
      omega
    · rw [countKind_alarms]
      exact (sub.map _).nodup once
    · rw [countKind_alarms]
      exact fun mem => absent ((sub.map _).subset mem)
  · exact .of_alarms ⟨few, once⟩ (by simp)

theorem Bounded.raise (h : p.Bounded) : (p.raise now key).Bounded := by
  unfold Supervision.raise
  split
  · next new => exact h.raiseNew new
  · split
    · exact h
    · exact .countKind (.mapEntry h key (by intro _; rfl)) _

theorem Bounded.clear (h : p.Bounded) : (p.clear now key).Bounded := by
  unfold Supervision.clear
  split
  · exact h
  · split
    · exact .countKind (.mapEntry h key (by intro _; rfl)) _
    · exact h

theorem Bounded.foldl {α : Type} {f : Supervision → α → Supervision} (keeps : ∀ p x, p.Bounded → (f p x).Bounded)
    (l : List α) (h : p.Bounded) : (l.foldl f p).Bounded := by
  induction l generalizing p with
  | nil => exact h
  | cons x xs ih => exact ih (keeps p x h)

theorem Bounded.resweep (h : p.Bounded) (holding : List Key) : (p.resweep now holding).Bounded := by
  refine h.foldl (fun p key h => ?_) holding
  split
  · next new => exact h.raiseNew new
  · exact h

theorem Bounded.empty (h : p.Bounded) : p.empty.Bounded := by
  unfold Supervision.empty
  dsimp only
  split
  · exact h
  · exact ⟨Nat.zero_le _, List.nodup_nil⟩

theorem Bounded.ackKey (h : p.Bounded) (key : Key) : (p.ackKey key).1.Bounded := by
  unfold Supervision.ackKey
  split
  · exact h
  · split
    · exact h
    · exact (h.of_sublist List.eraseP_sublist).countKind _

theorem Bounded.ackKeys (h : p.Bounded) (keys : List Key) : (p.ackKeys keys).1.Bounded := by
  induction keys generalizing p with
  | nil => exact h
  | cons key rest ih => exact ih (h.ackKey key)

theorem Bounded.ack (h : p.Bounded) (keys : List Key) : (p.ack now keys).1.Bounded := by
  have taken : ({ p with race := p.raceAfter now keys }.ackKeys keys).1.Bounded :=
    Bounded.ackKeys (p := { p with race := p.raceAfter now keys }) h keys
  unfold Supervision.ack
  dsimp only
  split
  · exact taken.of_alarms (clearOverflow_alarms _)
  · exact taken

theorem Bounded.warm (h : p.Bounded) (now : Count) (ending holding : List Key) :
    (State.warmSupervision p now ending holding).Bounded := by
  have clears {p : Supervision} (h : p.Bounded) (l : List Key) : (l.foldl (fun p k => p.clear now k) p).Bounded :=
    h.foldl (fun _ _ h => h.clear) l
  unfold State.warmSupervision
  exact ((clears (clears h _).empty _).of_alarms (clearOverflow_alarms _)).resweep holding

end Supervision

/-! ## The steps -/

namespace State

/-- A fold keeps a predicate that each of its steps keeps. -/
theorem foldl_invariant {α : Type} {P : State → Prop} {f : State → α → State} (keeps : ∀ s x, P s → P (f s x))
    (l : List α) {s : State} (h : P s) : P (l.foldl f s) := by
  induction l generalizing s with
  | nil => exact h
  | cons x xs ih => exact ih (keeps s x h)

namespace AlarmsBounded

variable {s : State}

theorem of_alarms {t : State} (h : s.AlarmsBounded) (same : t.sup.alarms = s.sup.alarms) : t.AlarmsBounded :=
  Supervision.Bounded.of_alarms h same

theorem raise (h : s.AlarmsBounded) (key : Key) : (s.raise key).AlarmsBounded := Supervision.Bounded.raise h

theorem clear (h : s.AlarmsBounded) (key : Key) : (s.clear key).AlarmsBounded := Supervision.Bounded.clear h

theorem hand (h : s.AlarmsBounded) (key : Key) (before now : Bool) : (s.hand key before now).AlarmsBounded := by
  unfold State.hand
  split
  · exact h
  · split
    · exact h.raise key
    · exact h.clear key

/-! ### Placement -/

theorem settleConditions (h : s.AlarmsBounded) : s.settleConditions.AlarmsBounded := by
  unfold State.settleConditions
  refine foldl_invariant (fun s r h => ?_) _ (foldl_invariant (fun s r h => ?_) _ (foldl_invariant (fun s x h => ?_) _ h))
  · exact hand (s := s) h _ _ _
  · exact hand (s := s) h _ _ _
  · exact hand (s := s) h _ _ _

theorem placementChanged (h : s.AlarmsBounded) : s.placementChanged.AlarmsBounded := by
  unfold State.placementChanged
  split
  · exact h
  · exact h.settleConditions

theorem recomputeAll (h : s.AlarmsBounded) : s.recomputeAll.AlarmsBounded :=
  h.of_alarms (by rw [recomputeAll_frame])

theorem settleBoundary (h : s.AlarmsBounded) : s.settleBoundary.AlarmsBounded := by
  unfold State.settleBoundary
  split
  · exact h
  · split
    · exact h
    · refine h.settleConditions.of_alarms ?_
      rw [foldl_setSleep_frame, foldl_startGates_frame]

theorem levelFieldTakesEffect (h : s.AlarmsBounded) (c : CarrierId) : (s.levelFieldTakesEffect c).AlarmsBounded := by
  have computed (t : State) (ht : t.AlarmsBounded) : (t.recomputeCarrier c).placementChanged.AlarmsBounded := by
    exact placementChanged (ht.of_alarms (by rw [recomputeCarrier_frame]))
  unfold State.levelFieldTakesEffect
  exact ite_keeps (computed _ h) h

theorem linkSettingsTakeEffect (h : s.AlarmsBounded) (r : RemoteId) : (s.linkSettingsTakeEffect r).AlarmsBounded := by
  unfold State.linkSettingsTakeEffect
  exact ite_keeps (placementChanged (s := State.recompute _ r) h) h

/-! ### Remote links -/

theorem moveLink (h : s.AlarmsBounded) (r : RemoteId) (x : RemoteState) : (s.moveLink r x).AlarmsBounded := by
  unfold State.moveLink
  split
  · have cleared : (s.clearFar r).AlarmsBounded := foldl_invariant (fun s k h => clear (s := s) h _) _ h
    exact placementChanged (s := State.recompute _ r) cleared
  · exact clear (s := s.modRl r _) h _
  · exact h

theorem restart (h : s.AlarmsBounded) (r : RemoteId) : (s.restart r).AlarmsBounded := h.moveLink r .seek

theorem disable (h : s.AlarmsBounded) (r : RemoteId) : (s.disable r).AlarmsBounded :=
  clear (s := State.closeGates _ r) (h.moveLink r .off) _

theorem failNegotiation (h : s.AlarmsBounded) (r : RemoteId) : (s.failNegotiation r).AlarmsBounded :=
  restart (s := s.modRl r _) h r

theorem farFlagChange (h : s.AlarmsBounded) (r : RemoteId) (i : Fin 4) : (s.farFlagChange r i).AlarmsBounded := by
  unfold State.farFlagChange
  exact ite_keeps (ite_keeps (raise (s := s.modRl r _) h _) (clear (s := s.modRl r _) h _)) h

theorem linkEntersUp (h : s.AlarmsBounded) (r : RemoteId) : (s.linkEntersUp r).AlarmsBounded := by
  have moved (f : RemoteLink → RemoteLink) : (((s.modRl r f).endLost r).recompute r).placementChanged.AlarmsBounded :=
    placementChanged (s := State.recompute _ r) (clear (s := s.modRl r f) h _)
  unfold State.linkEntersUp
  exact ite_keeps (moved _) h

theorem linkLostEntry (h : s.AlarmsBounded) (r : RemoteId) : (s.linkLostEntry r).AlarmsBounded := by
  unfold State.linkLostEntry
  split
  · next up => exact raise (s := State.modRl _ r _) (moveLink_of_up .lost up.1 ▸ h.moveLink r .lost) _
  · exact h

/-! ### Operator links, the trunk and the Timebase -/

theorem modTerm (h : s.AlarmsBounded) (l : TermLinkId) (f : TermLink → TermLink) : (s.modTerm l f).AlarmsBounded := by
  rw [modTerm_eq]; exact h

theorem setTimebase (h : s.AlarmsBounded) (x : TimebaseState) : (s.setTimebase x).AlarmsBounded :=
  hand (s := { s with tb := { s.tb with state := x } }) h _ _ _

theorem linkSeekToUp (h : s.AlarmsBounded) (l : TermLinkId) : (s.linkSeekToUp l).AlarmsBounded := by
  unfold State.linkSeekToUp
  split
  · have cleared (f : TermLink → TermLink) := (h.modTerm l f).clear (lossKey l)
    exact ite_keeps ((cleared _).setTimebase _) (cleared _)
  · exact h

theorem trunkLoss_alarms (s : State) : s.trunkLoss.sup.alarms = s.sup.alarms := by
  unfold trunkLoss
  dsimp only
  split <;> rfl

theorem linkUpToLost (h : s.AlarmsBounded) (l : TermLinkId) : (s.linkUpToLost l).AlarmsBounded := by
  unfold State.linkUpToLost
  split
  · dsimp only
    have raised (f : TermLink → TermLink) := (h.modTerm l f).raise (lossKey l)
    have held (f : TermLink → TermLink) :=
      ite_keeps (c := ((s.modTerm l f).raise (lossKey l)).isReference l = true) ((raised f).setTimebase .holdover) (raised f)
    cases l with
    | op o => exact held _
    | trunk => exact (held _).of_alarms (trunkLoss_alarms _)
  · exact h

theorem referenceStart (h : s.AlarmsBounded) (l : TermLinkId) (w : Word) (b : Bool) :
    (s.referenceStart l w b).AlarmsBounded := by
  unfold State.referenceStart
  split
  · split
    · exact ite_keeps h (h.setTimebase _)
    · exact h
    · exact h
  · exact h

theorem termGood (h : s.AlarmsBounded) (l : TermLinkId) (w : Word) : (s.termGood l w).AlarmsBounded := by
  unfold State.termGood
  exact ite_keeps (h.modTerm l _) (h.modTerm l _)

theorem termBad (h : s.AlarmsBounded) (l : TermLinkId) : (s.termBad l).AlarmsBounded := by
  unfold State.termBad
  split
  · exact h.modTerm l _
  · exact h
  · dsimp only
    cases l with
    | op o => exact ite_keeps h h
    | trunk => rw [cutOff_frame]; exact ite_keeps h h

theorem deliver (h : s.AlarmsBounded) (w : Word) : (s.deliver w).AlarmsBounded := by rw [deliver_frame]; exact h

theorem operatorFrame (h : s.AlarmsBounded) (o : OpId) (f : TermFrame) : (s.operatorFrame o f).AlarmsBounded := by
  unfold State.operatorFrame
  split
  · next w _ =>
    have good := (h.referenceStart (.op o) w f.atBoundary).termGood (.op o) w
    exact ite_keeps (ite_keeps good good) (h.termBad _)
  · exact h.termBad _

theorem trunkFrame (h : s.AlarmsBounded) (f : TermFrame) : (s.trunkFrame f).AlarmsBounded := by
  unfold State.trunkFrame
  split
  · next w _ =>
    have good := (h.referenceStart .trunk w f.atBoundary).termGood .trunk w
    exact ite_keeps (ite_keeps (good.deliver w) good) (h.termBad _)
  · exact h.termBad _

/-! ### Frames on remote links -/

theorem capabilityWord (h : s.AlarmsBounded) (r : RemoteId) (w : Word) : (s.capabilityWord r w).AlarmsBounded := by
  unfold State.capabilityWord
  dsimp only
  split
  · exact h
  · exact raise (s := s.modRl r _) h _

theorem negotiateWord (h : s.AlarmsBounded) (r : RemoteId) (w : Word) : (s.negotiateWord r w).AlarmsBounded := by
  unfold State.negotiateWord
  split
  · exact ite_keeps (h.capabilityWord r w) h
  · exact ite_keeps h h
  · exact h

theorem upAnswer (h : s.AlarmsBounded) (r : RemoteId) (w : Word) (f : HubFrame) (p : List Byte) :
    (s.upAnswer r w f p).AlarmsBounded := by
  have settled {t : State} (ht : t.AlarmsBounded) (n : Nat) : (t.settleUpTo r n).AlarmsBounded :=
    ht.of_alarms (by rw [frame_of_restOfSettling (settleUpTo_restOfSettling t r n)])
  have taken {t : State} (ht : t.AlarmsBounded) : (t.takeBlocks r f.label p).AlarmsBounded :=
    ht.of_alarms (by rw [frame_of_restOfSettling (takeBlocks_restOfSettling t r f.label p)])
  have status {t : State} (ht : t.AlarmsBounded) : (t.statusWord r w).AlarmsBounded := ht
  unfold State.upAnswer
  dsimp only
  have earlier := ite_keeps (c := f.label = 0) h (settled h (f.label - 1))
  exact taken (ite_keeps (status earlier) earlier)

theorem readWord (h : s.AlarmsBounded) (r : RemoteId) (st : RemoteState) (w : Word) (f : HubFrame) (p : List Byte) :
    (s.readWord r st w f p).AlarmsBounded := by
  unfold State.readWord
  split
  · exact ite_keeps (h.negotiateWord r w) h
  · exact h.upAnswer r w f p
  · exact h

theorem countAnswer (h : s.AlarmsBounded) (r : RemoteId) : (s.countAnswer r).AlarmsBounded := by
  unfold State.countAnswer
  exact ite_keeps h h

theorem remoteGood (h : s.AlarmsBounded) (r : RemoteId) (w : Word) (p : List Byte) : (s.remoteGood r w p).AlarmsBounded := by
  have heard : (s.hearGood r w).AlarmsBounded := h.of_alarms (by rw [hearGood_frame])
  rw [remoteGood_eq]
  split
  · exact heard.countAnswer r
  · exact (heard.readWord r _ w _ p).of_alarms rfl

theorem remoteBad (h : s.AlarmsBounded) (r : RemoteId) : (s.remoteBad r).AlarmsBounded := by
  have settled {t : State} (ht : t.AlarmsBounded) (n : Nat) : (t.settleUpTo r n).AlarmsBounded :=
    ht.of_alarms (by rw [frame_of_restOfSettling (settleUpTo_restOfSettling t r n)])
  have owed {t : State} (ht : t.AlarmsBounded) (c : Prop) [Decidable c] (l : List Instr) :
      (if c then t.owe l else t).AlarmsBounded := ite_keeps ht ht
  have edited (f : RemoteLink → RemoteLink) : (s.modRl r f).AlarmsBounded := h
  unfold State.remoteBad
  dsimp only
  split
  · exact h
  · exact countAnswer (edited _) r
  · exact h.countAnswer r
  · exact countAnswer (edited _) r
  · exact countAnswer (edited _) r
  · exact countAnswer (owed (edited _) _ _) r
  · exact countAnswer (owed (ite_keeps (settled (edited _) _) (edited _)) _ _) r

theorem remoteFrame (h : s.AlarmsBounded) (r : RemoteId) (f : RemoteFrame) : (s.remoteFrame r f).AlarmsBounded := by
  unfold State.remoteFrame
  split
  · exact h
  · split
    · exact ite_keeps (h.remoteGood r _ _) (h.remoteBad r)
    · exact h.remoteBad r

/-! ### The window -/

theorem guardWindow (h : s.AlarmsBounded) (banks : Vector Bank 4) (peak : Vector Nat 24) :
    (s.guardWindow banks peak).AlarmsBounded := by
  have marked (overl : List SectorId) (t : State) (x : SectorId) (ht : t.AlarmsBounded) :
      (t.setOverloadMark overl x).AlarmsBounded := (ht.hand _ _ _).of_alarms rfl
  have stepped (t : State) (r : RemoteId) (ht : t.AlarmsBounded) : (t.stepGuardUp r).AlarmsBounded := by
    have set (v : Vector Nat 24) : { t with comb := { t.comb with guard := v } }.AlarmsBounded := ht
    unfold stepGuardUp
    exact ite_keeps ((set _).raise _) (set _)
  have ran (overl : List SectorId) (t : State) (r : RemoteId) (ht : t.AlarmsBounded) :
      (t.updateRecover overl banks r).AlarmsBounded := ht.of_alarms (by rw [updateRecover_frame])
  have cleared {t : State} (ht : t.AlarmsBounded) (v : Vector Nat 32) :
      { t with comb := { t.comb with sat := v } }.AlarmsBounded := ht
  unfold State.guardWindow
  exact cleared (foldl_invariant (ran _) _ (foldl_invariant stepped _ (foldl_invariant (marked _) _ h))) _

theorem balance (h : s.AlarmsBounded) (banks : Vector Bank 4) (staged : Vector StagedState 4) (o : OpId) :
    (s.balance banks staged o).AlarmsBounded := by
  have advised (hot : SectorIx) (r : RemoteId) (t : SectorIx) : (s.advise o hot r t).AlarmsBounded :=
    h.of_alarms (by unfold advise; dsimp only; split <;> rfl)
  have moved (hot : SectorIx) (r : RemoteId) (t : SectorIx) : (s.autoMove o hot r t).AlarmsBounded := h.of_alarms rfl
  have outcome (x : BalancerOutcome) : (s.setOutcome o x).AlarmsBounded := h.of_alarms rfl
  have deferred (x : BalancerOutcome) : (s.defer o x).AlarmsBounded := h.of_alarms rfl
  have evaluated (b : Bank) : (s.evaluate o b).AlarmsBounded := by
    unfold evaluate
    split
    · exact outcome _
    · split
      · exact outcome _
      · split
        · exact outcome _
        · split
          · exact moved ..
          · exact advised ..
  unfold State.balance
  exact ite_keeps h (ite_keeps (deferred _) (ite_keeps (deferred _) (ite_keeps (deferred _) (evaluated _))))

theorem windowEnd (h : s.AlarmsBounded) : s.windowEnd.AlarmsBounded := by
  have closed (b : Boundary) : (s.closeWindow b).AlarmsBounded := h
  have counted {t : State} (ht : t.AlarmsBounded) (l : List (OpId × RemoteId)) : (t.countHoldOffs l).AlarmsBounded := ht
  have quiet {t : State} (ht : t.AlarmsBounded) (b : Boundary) : (t.autoQuiet b).AlarmsBounded :=
    ht.of_alarms (by rw [autoQuiet_frame])
  have swept {t : State} (ht : t.AlarmsBounded) : t.resweep.AlarmsBounded := Supervision.Bounded.resweep ht _
  unfold State.windowEnd
  split
  · exact h
  · exact swept (quiet (foldl_invariant (fun _ o ht => ht.balance _ _ o) _
      (counted (guardWindow (closed _) _ _) _)) _)

theorem guardStepDown (h : s.AlarmsBounded) (r : RemoteId) : (s.guardStepDown r).AlarmsBounded := by
  have set (k : Combiner) : { s with comb := k }.AlarmsBounded := h
  unfold State.guardStepDown
  exact ite_keeps (ite_keeps ((set _).clear _) (set _)) h

/-! ### Plans, mode, isolation and resets -/

theorem complete (h : s.AlarmsBounded) (ch : Channel) (x : Result) (b : Bool) (d : List Byte) :
    (s.complete ch x b d).AlarmsBounded := h.of_alarms (by rw [complete_eq])

theorem switchover (h : s.AlarmsBounded) (o : OpId) : (s.switchover o).AlarmsBounded := by
  have taken (f : OperatorPlan → OperatorPlan) : (s.modPlan o f).recomputeAll.placementChanged.AlarmsBounded :=
    placementChanged (recomputeAll (s := s.modPlan o f) h)
  have completed {t : State} (ht : t.AlarmsBounded) (ch : Channel) : (t.completeArming o ch).AlarmsBounded :=
    ht.of_alarms (by rw [completeArming_frame])
  unfold State.switchover
  split
  · dsimp only
    split
    · exact completed (taken _) _
    · exact completed (taken _) _
    · exact taken _
  · exact h

theorem takeMode (h : s.AlarmsBounded) (m : HubMode) : (s.takeMode m).AlarmsBounded := by
  have set (u : ModeUnit) : { s with mode := u }.AlarmsBounded := h
  unfold State.takeMode
  exact ite_keeps (set _) (set _).recomputeAll.placementChanged

theorem hubModeDecision (h : s.AlarmsBounded) : s.hubModeDecision.AlarmsBounded := by
  have set (u : ModeUnit) : { s with mode := u }.AlarmsBounded := h
  unfold State.hubModeDecision
  split
  · exact ((set _).takeMode _).complete ..
  · exact (set _).takeMode _
  · exact h

theorem restartInto (h : s.AlarmsBounded) (r : RemoteId) (x : RemoteState) : (s.restartInto r x).AlarmsBounded :=
  (h.moveLink r x).of_alarms rfl

theorem pendingIsolationApply (h : s.AlarmsBounded) : s.pendingIsolationApply.AlarmsBounded := by
  have set {t : State} (ht : t.AlarmsBounded) (u : ModeUnit) : { t with mode := u }.AlarmsBounded := ht
  have began {t : State} (ht : t.AlarmsBounded) (p : PendingIso) : (t.beginIsolation p).AlarmsBounded :=
    set (ht.restartInto ..) _
  unfold State.pendingIsolationApply
  split
  · exact h
  · dsimp only
    split
    · exact (set h _).complete ..
    · exact (began (set h _) _).complete ..

theorem isolationTimerExpiry (h : s.AlarmsBounded) (r : RemoteId) : (s.isolationTimerExpiry r).AlarmsBounded := by
  unfold State.isolationTimerExpiry
  exact ite_keeps (restart (s := s.unlist r) h r) h

theorem warmResetApplied (h : s.AlarmsBounded) : s.warmResetApplied.AlarmsBounded := by
  have warm (t : State) : { t with sup := warmSupervision s.sup s.tb.count s.endsAtWarm (catalogue.filter t.holds) }.AlarmsBounded :=
    Supervision.Bounded.warm h ..
  unfold State.warmResetApplied
  exact warm _

theorem alertPlacement (h : s.AlarmsBounded) : s.alertPlacement.AlarmsBounded := by
  unfold State.alertPlacement
  exact ite_keeps h h

theorem coldReset (s : State) : s.coldReset.AlarmsBounded := by
  have same : s.coldReset.sup = reset.sup := rfl
  unfold AlarmsBounded
  rw [same]
  decide

/-! ### Requests -/

theorem applyEnable (h : s.AlarmsBounded) (x : LinkSettings) : (Machine.applyEnable s x).AlarmsBounded := by
  have set (f : RemoteLink → RemoteLink) : (s.modRl x.remote f).AlarmsBounded := h
  have unlisted {t : State} (ht : t.AlarmsBounded) (r : RemoteId) : (t.unlist r).AlarmsBounded := ht
  unfold Machine.applyEnable
  dsimp only
  split
  · split
    · exact (set _).restart _
    · exact set _
  · split
    · exact set _
    · exact (unlisted (set _) _).disable _

theorem applyOffered (h : s.AlarmsBounded) (x : LinkSettings) : (Machine.applyOffered s x).AlarmsBounded := by
  have set (f : RemoteLink → RemoteLink) : (s.modRl x.remote f).AlarmsBounded := h
  unfold Machine.applyOffered
  dsimp only
  split
  · exact (set _).restart _
  · exact set _

theorem of_commanded {ch : Channel} {t : State} (h : s.AlarmsBounded) (c : Commanded ch s t) : t.AlarmsBounded := by
  have onChannels (m : Management) : { s with mgmt := m }.AlarmsBounded := h
  cases c
  case release => exact (onChannels _).clear _
  case bar => exact (onChannels _).raise _
  case linkSet x => exact ((h.applyEnable x).applyOffered x).of_alarms rfl
  case restart r _ _ => exact h.restart r
  case timing ref x => exact setTimebase (s := { s with tb := { s.tb with reference := ref } }) h x
  case restore r _ => exact restart (s := s.unlist r) h r
  case ack keys => exact Supervision.Bounded.ack h keys
  case define x place priority levels _ =>
    have dropped : (if (s.carrier x.carrier).place = some place then s else s.dropOutputs x.carrier).AlarmsBounded :=
      ite_keeps h h
    exact dropped.of_alarms rfl
  case disarm o data =>
    refine complete (h.of_alarms ?_) ..
    rw [cancelArmed_frame]
  case unrequest => exact complete (s := { s with mode := { s.mode with requested := none } }) h ..
  case unpend flag => exact complete (s := { s with mode := { s.mode with pendingIso := none } }) h ..
  all_goals exact h

theorem request (h : s.AlarmsBounded) {x : Instr} (request : phase x = requestPhase) : (effect x s).AlarmsBounded := by
  obtain ⟨code, scope, body, ch, tag, ps, own, e⟩ := effect_of_requestPhase request
  rw [e]
  exact request_keeps (fun _ _ h => h) h fun c => h.of_commanded (own.commanded ps)

end AlarmsBounded

theorem alarmsBounded_kept : KeptByParts AlarmsBounded where
  cold s _ := .coldReset s
  queue _ _ h := h
  due _ _ h := h
  assertPin _ h := h
  endBoundary _ _ h := h
  settleBoundary _ h := h.settleBoundary
  levelFieldTakesEffect _ c h := h.levelFieldTakesEffect c
  linkSettingsTakeEffect _ r h := h.linkSettingsTakeEffect r
  seekRunComplete s r h := h.of_alarms (by rw [seekRunComplete_frame])
  farFlagChange _ r i h := h.farFlagChange r i
  echoFailure _ r h := by
    unfold echoFailure
    exact ite_keeps (h.restart r) h
  negotiationTimeout _ r h := by
    unfold negotiationTimeout
    exact ite_keeps (h.failNegotiation r) h
  negotiateAlignmentLoss _ r h := by
    unfold negotiateAlignmentLoss
    exact ite_keeps (h.failNegotiation r) h
  linkEntersUp _ r h := h.linkEntersUp r
  linkLostEntry _ r h := h.linkLostEntry r
  lostHoldEnd _ r h := by
    unfold lostHoldEnd
    exact ite_keeps (h.restart r) h
  linkSeekToUp _ l h := h.linkSeekToUp l
  linkUpToLost _ l h := h.linkUpToLost l
  linkLostHoldEnd s l h := h.of_alarms (by rw [linkLostHoldEnd_frame])
  lock _ h := Supervision.Bounded.clear h
  expireGate _ _ _ h := h
  windowEnd _ h := h.windowEnd
  guardStepDown _ r h := h.guardStepDown r
  autoQuietEntry s h := h.of_alarms (by rw [autoQuietEntry_frame])
  switchover _ o h := h.switchover o
  hubModeDecision _ h := h.hubModeDecision
  pendingIsolationApply _ h := h.pendingIsolationApply
  isolationTimerExpiry _ r h := h.isolationTimerExpiry r
  warmResetApplied _ h := h.warmResetApplied
  alertPlacement _ h := h.alertPlacement
  request _ _ request _ h := h.request request
  makeBoundary s cut h := h.of_alarms (by rw [makeBoundary_frame])
  startFrame s h := h.of_alarms (by rw [startFrame_frame])
  remoteFrame _ r f h := h.remoteFrame r f
  remoteBad _ r h := h.remoteBad r
  operatorFrame _ o f h := h.operatorFrame o f
  trunkFrame _ f h := h.trunkFrame f
  termBad _ l h := h.termBad l
  deadline s n h := h.of_alarms (by rw [deadline_frame])

end State

end Sys2Proof.Machine

namespace Sys2Proof.Proofs

open Sys2Proof.Machine Sys2Proof.Machine.State

/-- Settles O53: a raise appends only where there is no entry of its key and room, and evicts a CLEARED entry to make it. -/
theorem alarmListInvariant : Obligations.AlarmListInvariant := fun _ _ h e => alarmsBounded_kept.step h e

end Sys2Proof.Proofs
end

section
/-! The statement on guard steps and the sums in progress (R16, R76, R84, R87). -/

namespace Sys2Proof.Machine.State

/-- What follows the uplink guard at a window end leaves the Combiner. -/
theorem windowEnd_comb {s : State} {b : Boundary} (found : s.boundary = some b) :
    s.windowEnd.comb = ((s.closeWindow b).guardWindow b.banks (s.closeWindow b).meas.snap.peak).comb := by
  have balanced (l : List OpId) (t : State) :
      (l.foldl (fun s o => s.balance b.banks b.staged o) t).comb = t.comb :=
    foldl_keeps (fun s => s.comb) _ (fun s o => by rw [balance_frame]) l t
  have swept (t : State) : (t.autoQuiet b).resweep.comb = t.comb := by
    unfold resweep
    dsimp only
    rw [autoQuiet_frame]
  unfold windowEnd
  rw [found]
  dsimp only
  have counted (t : State) : (t.countHoldOffs b.moved).comb = t.comb := rfl
  rw [swept, balanced, counted]

/-! ## Guard steps -/

theorem disable_guard (s : State) (r : RemoteId) : (s.disable r).comb.guard = s.comb.guard := moveLink_guard s r .off

namespace GuardBounded

variable {s : State}

theorem of_guard {t : State} (h : s.GuardBounded) (same : t.comb.guard = s.comb.guard) : t.GuardBounded := by
  unfold GuardBounded
  rwa [same]

theorem restart (h : s.GuardBounded) (r : RemoteId) : (s.restart r).GuardBounded := h.of_guard (restartInto_guard s r .seek)

theorem failNegotiation (h : s.GuardBounded) (r : RemoteId) : (s.failNegotiation r).GuardBounded :=
  restart (s := s.modRl r _) h r

/-- The named remotes, each below 8 and each once, keep the steps in range (R92). -/
theorem stepsUp {l : List RemoteId} (once : l.Nodup) (h : s.GuardBounded) (below : ∀ r ∈ l, s.comb.guard[r] < 8) :
    (l.foldl stepGuardUp s).GuardBounded := by
  induction l generalizing s with
  | nil => exact h
  | cons r rs ih =>
    obtain ⟨absent, once⟩ := List.nodup_cons.mp once
    have guard : (s.stepGuardUp r).comb.guard = s.comb.guard.set r (s.comb.guard[r] + 1) := by rw [stepGuardUp_frame]
    have other {q : RemoteId} (ne : q ≠ r) : (s.stepGuardUp r).comb.guard[q] = s.comb.guard[q] := by
      rw [guard]
      exact Vector.getElem_set_ne _ _ (fun e => ne (Fin.ext e.symm))
    have same : (s.stepGuardUp r).comb.guard[r] = s.comb.guard[r] + 1 := by
      rw [guard]
      exact Vector.getElem_set_self _
    refine ih once (fun q => ?_) fun q mem => ?_
    · by_cases e : q = r
      · subst e
        rw [same]
        exact below q List.mem_cons_self
      · rw [other e]
        exact h q
    · rw [other fun e => absent (e ▸ mem)]
      exact below q (List.mem_cons_of_mem _ mem)

theorem loudest_mem {peak : Vector Nat 24} {l : List RemoteId} {r : RemoteId} (h : loudest peak l = some r) : r ∈ l := by
  induction l generalizing r with
  | nil => contradiction
  | cons q qs ih =>
    unfold loudest at h
    split at h
    · cases h; exact List.mem_cons_self
    · next found =>
      split at h <;> cases h
      · exact List.mem_cons_self
      · exact List.mem_cons_of_mem _ (ih found)

/-- A named remote has a guard step below 8 (R92). -/
theorem named_below {banks : Vector Bank 4} {guard peak : Vector Nat 24} {x : SectorId} {r : RemoteId}
    (h : namedBy banks guard peak x = some r) : guard[r] < 8 := by
  have mem := loudest_mem h
  simpa using (List.mem_filter.mp mem).2

theorem guardWindow (h : s.GuardBounded) (banks : Vector Bank 4) (peak : Vector Nat 24) :
    (s.guardWindow banks peak).GuardBounded := by
  have marks (overl : List SectorId) (l : List SectorId) :
      (l.foldl (fun s x => s.setOverloadMark overl x) s).comb.guard = s.comb.guard :=
    foldl_keeps (fun s => s.comb.guard) _ (fun s x => by rw [setOverloadMark_frame]) l s
  have runs (overl : List SectorId) (l : List RemoteId) (t : State) :
      (l.foldl (fun s r => s.updateRecover overl banks r) t).comb.guard = t.comb.guard :=
    foldl_keeps (fun s => s.comb.guard) _ (fun s r => by rw [updateRecover_frame]) l t
  unfold State.guardWindow
  dsimp only
  refine of_guard ?_ (runs _ _ _)
  refine stepsUp ((List.nodup_finRange 24).filter _) (h.of_guard (marks ..)) fun r mem => ?_
  rw [marks]
  obtain ⟨_, named⟩ := List.mem_filter.mp mem
  obtain ⟨x, _, names⟩ := List.mem_filterMap.mp (List.contains_iff_mem.mp named)
  exact named_below names

theorem windowEnd (h : s.GuardBounded) : s.windowEnd.GuardBounded := by
  cases found : s.boundary with
  | none =>
    unfold State.windowEnd
    rw [found]
    exact h
  | some b => exact of_guard (guardWindow (s := s.closeWindow b) h _ _) (congrArg Combiner.guard (windowEnd_comb found))

theorem guardStepDown (h : s.GuardBounded) (r : RemoteId) : (s.guardStepDown r).GuardBounded := by
  have set : GuardBounded { s with comb :=
      { s.comb with guard := s.comb.guard.set r (s.comb.guard[r] - 1), recover := s.comb.recover.set r 0 } } := by
    intro q
    by_cases e : q = r
    · subst e
      have low := h q
      simp only [Fin.getElem_fin, Vector.getElem_set_self] at low ⊢
      omega
    · have other : (s.comb.guard.set r (s.comb.guard[r] - 1))[q] = s.comb.guard[q] :=
        Vector.getElem_set_ne _ _ (fun e' => e (Fin.ext e'.symm))
      dsimp only
      rw [other]
      exact h q
  unfold State.guardStepDown
  exact ite_keeps (ite_keeps (set.of_guard rfl) set) h

theorem warmResetApplied (s : State) : s.warmResetApplied.GuardBounded := by
  have zero : s.warmResetApplied.comb.guard = Vector.replicate 24 0 := by rw [warmResetApplied_frame]; dsimp only [warmBlocks]
  intro r
  rw [zero]
  simp

theorem of_commanded {ch : Channel} {t : State} (h : s.GuardBounded) (c : Commanded ch s t) : t.GuardBounded := by
  cases c
  case linkSet x =>
    have enabled : (Machine.applyEnable s x).comb.guard = s.comb.guard := by
      unfold Machine.applyEnable
      dsimp only
      split
      · split
        · exact restartInto_guard ..
        · rfl
      · split
        · rfl
        · exact disable_guard ..
    have offered (t : State) : (Machine.applyOffered t x).comb.guard = t.comb.guard := by
      unfold Machine.applyOffered
      dsimp only
      split
      · exact restartInto_guard ..
      · rfl
    exact h.of_guard ((offered _).trans enabled)
  case restart r _ _ => exact h.restart r
  case timing => exact h.of_guard (by rw [setTimebase_eq])
  case restore r _ => exact restart (s := s.unlist r) h r
  case define => exact h.of_guard (by split <;> rfl)
  case disarm => exact h.of_guard (by rw [complete_eq, cancelArmed_frame])
  case unrequest => exact h.of_guard (by rw [complete_eq])
  case unpend => exact h.of_guard (by rw [complete_eq])
  all_goals exact h

end GuardBounded

theorem guardBounded_kept : KeptByParts GuardBounded where
  cold s _ := by
    have same : s.coldReset.comb = reset.comb := rfl
    unfold GuardBounded
    rw [same]
    decide
  queue _ _ h := h
  due _ _ h := h
  assertPin _ h := h
  endBoundary _ _ h := h
  settleBoundary s h := h.of_guard (by rw [settleBoundary_frame])
  levelFieldTakesEffect s c h := h.of_guard (by rw [levelFieldTakesEffect_frame])
  linkSettingsTakeEffect s r h := h.of_guard (by rw [linkSettingsTakeEffect_frame])
  seekRunComplete s r h := h.of_guard (by rw [seekRunComplete_frame])
  farFlagChange s r i h := h.of_guard (by rw [farFlagChange_frame])
  echoFailure _ r h := by
    unfold echoFailure
    exact ite_keeps (h.restart r) h
  negotiationTimeout _ r h := by
    unfold negotiationTimeout
    exact ite_keeps (h.failNegotiation r) h
  negotiateAlignmentLoss _ r h := by
    unfold negotiateAlignmentLoss
    exact ite_keeps (h.failNegotiation r) h
  linkEntersUp s r h := h.of_guard (by rw [linkEntersUp_frame])
  linkLostEntry s r h := by
    unfold linkLostEntry
    split
    · next up => exact h.of_guard (moveLink_of_up .lost up.1 ▸ moveLink_guard s r .lost)
    · exact h
  lostHoldEnd _ r h := by
    unfold lostHoldEnd
    exact ite_keeps (h.restart r) h
  linkSeekToUp s l h := h.of_guard (by rw [linkSeekToUp_frame])
  linkUpToLost s l h := h.of_guard (by rw [linkUpToLost_frame])
  linkLostHoldEnd s l h := h.of_guard (by rw [linkLostHoldEnd_frame])
  lock _ h := h
  expireGate _ _ _ h := h
  windowEnd _ h := h.windowEnd
  guardStepDown _ r h := h.guardStepDown r
  autoQuietEntry s h := h.of_guard (by rw [autoQuietEntry_frame])
  switchover s o h := h.of_guard (by rw [switchover_frame])
  hubModeDecision s h := h.of_guard (by rw [hubModeDecision_frame])
  pendingIsolationApply s h := by
    have ended (t : State) (x : Result) (b : Bool) (d : List Byte) : (t.complete .control x b d).comb.guard = t.comb.guard := by
      rw [complete_eq]
    unfold pendingIsolationApply
    split
    · exact h
    · dsimp only
      split
      · exact h.of_guard (ended ..)
      · exact h.of_guard ((ended ..).trans (restartInto_guard ..))
  isolationTimerExpiry s r h := by
    unfold isolationTimerExpiry
    exact ite_keeps (GuardBounded.restart (s := s.unlist r) h r) h
  warmResetApplied s _ := .warmResetApplied s
  alertPlacement s h := h.of_guard (by rw [alertPlacement_frame])
  request s x request _ h := by
    obtain ⟨code, scope, body, ch, tag, ps, own, e⟩ := effect_of_requestPhase request
    rw [e]
    exact request_keeps (fun _ _ h => h) h fun c => h.of_commanded (own.commanded ps)
  makeBoundary s cut h := h.of_guard (by rw [makeBoundary_frame])
  startFrame s h := h.of_guard (by rw [startFrame_frame])
  remoteFrame s r f h := h.of_guard (by rw [frame_of_restOfHearing (remoteFrame_restOfHearing s r f)])
  remoteBad s r h := h.of_guard (by rw [frame_of_restOfHearing (remoteBad_restOfHearing s r)])
  operatorFrame s o f h := h.of_guard (by rw [frame_of_restOfTerms (operatorFrame_restOfTerms s o f)])
  trunkFrame s f h := h.of_guard (by rw [frame_of_restOfTerms (trunkFrame_restOfTerms s f)])
  termBad s l h := h.of_guard (by rw [frame_of_restOfTerms (termBad_restOfTerms s l)])
  deadline s n h := h.of_guard (by rw [frame_of_restOfSettling (deadline_restOfSettling s n)])

end Sys2Proof.Machine.State
end

section
/-! The sums in progress, kept well formed (R76, R78, R87, R91). -/

namespace Sys2Proof.Machine

theorem UplinkSum.is_iff (q : UplinkSum) (n : Nat) (c : CarrierId) : q.is n c = true ↔ q.label = n ∧ q.carrier = c := by
  simp [UplinkSum.is]

namespace State

/-- The sum after a settled block is of the same carrier and link frame. -/
theorem settledSum_key (q : UplinkSum) (e : Expected) (passes : Bool) (block : Option (List IQ)) :
    (settledSum q e passes block).label = q.label ∧ (settledSum q e passes block).carrier = q.carrier := by
  unfold settledSum
  dsimp only
  split
  · split <;> exact ⟨rfl, rfl⟩
  · exact ⟨rfl, rfl⟩

theorem settledSum_waiting (q : UplinkSum) (e : Expected) (passes : Bool) (block : Option (List IQ)) :
    (settledSum q e passes block).waiting = q.waiting.filter fun x => x.remote ≠ e.remote := by
  unfold settledSum
  dsimp only
  split
  · split <;> rfl
  · rfl

/-- Sums of which some may wait for no block any more, and be due to be formed. -/
def SumsForming (s : State) : Prop :=
  (s.comb.sums.map fun q => (q.label, q.carrier)).Nodup ∧
    (∀ q ∈ s.comb.sums, (q.waiting.map (·.remote)).Nodup ∧ q.label ≤ s.tb.label) ∧
    (∀ r : RemoteId, s.rl[r].missing ≤ max32) ∧ ∀ x : SectorId, s.comb.sat[x] ≤ max16

theorem modRl_missing (s : State) (r : RemoteId) {f : RemoteLink → RemoteLink} (same : ∀ l, (f l).missing = l.missing)
    (q : RemoteId) : (s.modRl r f).rl[q].missing = s.rl[q].missing := by
  by_cases e : q = r
  · subst e
    rw [modRl_same]
    exact same _
  · rw [modRl_other _ _ e]

namespace SumsForming

variable {s t : State}

/-- The saturation counts stay in range (R88). -/
theorem counts {l : List UplinkSum} {v : Vector Nat 32} (h : ∀ x : SectorId, v[x] ≤ max16) (x : SectorId) :
    (l.foldl (fun v q => v.set q.sector (min (v[q.sector] + q.saturations) max16)) v)[x] ≤ max16 := by
  induction l generalizing v with
  | nil => exact h x
  | cons q qs ih =>
    refine ih fun y => ?_
    by_cases e : y = q.sector
    · subst e
      simp only [Fin.getElem_fin, Vector.getElem_set_self]
      exact Nat.min_le_right ..
    · have other : (v.set q.sector (min (v[q.sector] + q.saturations) max16))[y] = v[y] :=
        Vector.getElem_set_ne _ _ (fun e' => e (Fin.ext e'.symm))
      rw [other]
      exact h y

theorem formReady (h : s.SumsForming) : s.formReady.SumsFormed := by
  obtain ⟨once, each, missing, sat⟩ := h
  refine ⟨(List.filter_sublist.map _).nodup once, fun q mem => ?_, missing, counts sat⟩
  obtain ⟨mem, waits⟩ := List.mem_filter.mp mem
  exact ⟨by simpa using waits, (each q mem).1, (each q mem).2⟩

/-- Sums edited one by one, each keeping its carrier and link frame. -/
theorem of_map (h : s.SumsForming) {f : UplinkSum → UplinkSum} (sums : t.comb.sums = s.comb.sums.map f)
    (key : ∀ q ∈ s.comb.sums, (f q).label = q.label ∧ (f q).carrier = q.carrier)
    (waiting : ∀ q ∈ s.comb.sums, ((f q).waiting.map (·.remote)).Nodup)
    (sat : t.comb.sat = s.comb.sat) (label : t.tb.label = s.tb.label)
    (missing : ∀ r : RemoteId, t.rl[r].missing ≤ max32) : t.SumsForming := by
  obtain ⟨once, each, _, counts⟩ := h
  refine ⟨?_, ?_, missing, by rwa [sat]⟩
  · rw [sums, List.map_map]
    rwa [List.map_congr_left fun q mem => (by simp [key q mem] : _ = (q.label, q.carrier))]
  · rw [sums, label]
    intro q mem
    obtain ⟨p, old, rfl⟩ := List.mem_map.mp mem
    exact ⟨waiting p old, (key p old).1.trans_le (each p old).2⟩

end SumsForming

namespace SumsFormed

variable {s t : State}

theorem forming (h : s.SumsFormed) : s.SumsForming := by
  obtain ⟨once, each, missing, sat⟩ := h
  exact ⟨once, fun q mem => (each q mem).2, missing, sat⟩

theorem of_parts (h : s.SumsFormed) (sums : t.comb.sums = s.comb.sums) (sat : t.comb.sat = s.comb.sat)
    (label : t.tb.label = s.tb.label) (missing : ∀ r : RemoteId, t.rl[r].missing = s.rl[r].missing) : t.SumsFormed := by
  obtain ⟨once, each, counted, counts⟩ := h
  exact ⟨by rwa [sums], by rwa [sums, label], fun r => (missing r).trans_le (counted r), by rwa [sat]⟩

theorem of_sublist (h : s.SumsFormed) (sums : t.comb.sums.Sublist s.comb.sums) (sat : t.comb.sat = s.comb.sat)
    (label : t.tb.label = s.tb.label) (missing : ∀ r : RemoteId, t.rl[r].missing = s.rl[r].missing) : t.SumsFormed := by
  obtain ⟨once, each, counted, counts⟩ := h
  exact ⟨(sums.map _).nodup once, fun q mem => label ▸ each q (sums.subset mem), fun r => (missing r).trans_le (counted r),
    by rwa [sat]⟩

theorem modRl (h : s.SumsFormed) (r : RemoteId) {f : RemoteLink → RemoteLink} (same : ∀ l, (f l).missing = l.missing) :
    (s.modRl r f).SumsFormed := h.of_parts rfl rfl rfl (modRl_missing s r same)

/-! ### Settling -/

theorem measureBlock (h : s.SumsFormed) (q : UplinkSum) (r : RemoteId) (n : Nat) : (s.measureBlock q r n).SumsFormed := by
  unfold State.measureBlock
  dsimp only
  exact ite_keeps h h

theorem takeExpiry (h : s.SumsFormed) (r : RemoteId) (c : CarrierId) : (s.takeExpiry r c).SumsFormed := by
  unfold State.takeExpiry
  exact ite_keeps h h

theorem takeExpiry_sums (s : State) (r : RemoteId) (c : CarrierId) : (s.takeExpiry r c).comb.sums = s.comb.sums := by
  unfold State.takeExpiry
  split <;> rfl

theorem measureBlock_sums (s : State) (q : UplinkSum) (r : RemoteId) (n : Nat) :
    (s.measureBlock q r n).comb.sums = s.comb.sums := by
  unfold State.measureBlock
  dsimp only
  split <;> rfl

/-- A missing block is counted, and the counter saturates (R16, R77). -/
theorem countMissing (h : s.SumsFormed) (r : RemoteId) :
    (s.modRl r fun l => { l with missing := satInc max32 l.missing }).SumsFormed := by
  obtain ⟨once, each, missing, sat⟩ := h
  refine ⟨once, each, fun q => ?_, sat⟩
  by_cases e : q = r
  · subst e
    rw [modRl_same]
    exact Nat.min_le_right ..
  · rw [modRl_other _ _ e]
    exact missing q

/-- The sum of a settled block is replaced, and the sums that wait no more are formed (R78). -/
theorem replace (h : t.SumsFormed) {q q' : UplinkSum} {n : Nat} {c : CarrierId} (found : q.is n c = true)
    (key : q'.label = q.label ∧ q'.carrier = q.carrier) (waiting : (q'.waiting.map (·.remote)).Nodup) :
    (State.formReady { t with comb :=
      { t.comb with sums := t.comb.sums.map fun p => if p.is n c then q' else p } }).SumsFormed := by
  refine SumsForming.formReady (h.forming.of_map rfl (fun p _ => ?_) (fun p mem => ?_) rfl rfl h.2.2.1)
  · split
    · next same =>
      obtain ⟨l, k⟩ := (q.is_iff n c).mp found
      obtain ⟨l', k'⟩ := (p.is_iff n c).mp same
      exact ⟨key.1.trans (l.trans l'.symm), key.2.trans (k.trans k'.symm)⟩
    · exact ⟨rfl, rfl⟩
  · split
    · exact waiting
    · exact (h.forming.2.1 p mem).1

theorem settleBlock (h : s.SumsFormed) (n : Nat) (c : CarrierId) (r : RemoteId) (b : Option (List IQ)) :
    (s.settleBlock n c r b).SumsFormed := by
  unfold State.settleBlock
  split
  · exact h
  · next q found =>
    split
    · exact h
    · next e _ =>
      have mem := List.mem_of_find?_eq_some found
      have is : q.is n c = true := by
        have := List.find?_some found
        simp only [Bool.and_eq_true] at this
        exact this.1
      have waiting (passes : Bool) : ((settledSum q e passes b).waiting.map (·.remote)).Nodup := by
        rw [settledSum_waiting]
        exact (List.filter_sublist.map _).nodup (h.forming.2.1 q mem).1
      have owed {u : State} (hu : u.SumsFormed) (g : GateStep) :
          (if g.expires then u.owe [.gateHoldExpiry r c] else u).SumsFormed := ite_keeps hu hu
      have gated {u : State} (hu : u.SumsFormed) (g : Gate) : (u.setGate r c g).SumsFormed := hu
      have counted := h.takeExpiry r c
      cases b with
      | none => exact replace (owed (gated (counted.countMissing r) _) _) is (settledSum_key ..) (waiting _)
      | some xs => exact replace (owed (gated (counted.measureBlock q r _) _) _) is (settledSum_key ..) (waiting _)

theorem settleMissing (h : s.SumsFormed) (l : List (Nat × CarrierId × RemoteId)) : (s.settleMissing l).SumsFormed := by
  unfold State.settleMissing
  exact foldl_invariant (fun _ (n, c, r) h => h.settleBlock n c r none) l h

theorem deadline (h : s.SumsFormed) (n : Nat) : (s.deadline n).SumsFormed := h.settleMissing _

theorem settleUpTo (h : s.SumsFormed) (r : RemoteId) (n : Nat) : (s.settleUpTo r n).SumsFormed := h.settleMissing _

theorem takeBlocks (h : s.SumsFormed) (r : RemoteId) (n : Nat) (p : List Byte) : (s.takeBlocks r n p).SumsFormed := by
  unfold State.takeBlocks
  refine foldl_invariant (fun t q h => ?_) _ h
  split
  · exact settleBlock h _ _ _ _
  · exact h

/-- A remote that leaves UP waits for no sum any more (R91). -/
theorem withdraw (h : s.SumsFormed) (r : RemoteId) : (s.withdraw r).SumsFormed := by
  unfold State.withdraw
  exact SumsForming.formReady (h.forming.of_map rfl (fun _ _ => ⟨rfl, rfl⟩)
    (fun q mem => (List.filter_sublist.map _).nodup (h.forming.2.1 q mem).1) rfl rfl h.2.2.1)

/-- The outputs of a changed carrier are discarded with its sums marked (R89). -/
theorem dropOutputs (h : s.SumsFormed) (c : CarrierId) : (s.dropOutputs c).SumsFormed := by
  obtain ⟨once, each, missing, sat⟩ := h
  have marks (q : UplinkSum) : (if q.carrier = c then { q with discard := true } else q).label = q.label ∧
      (if q.carrier = c then { q with discard := true } else q).carrier = q.carrier ∧
      (if q.carrier = c then { q with discard := true } else q).waiting = q.waiting := by split <;> exact ⟨rfl, rfl, rfl⟩
  refine ⟨?_, fun q mem => ?_, missing, sat⟩
  · unfold State.dropOutputs
    rw [List.map_map]
    rwa [List.map_congr_left fun q _ => (by simp [marks q] : _ = (q.label, q.carrier))]
  · obtain ⟨p, old, rfl⟩ := List.mem_map.mp mem
    obtain ⟨label, _, waiting⟩ := marks p
    rw [waiting, label]
    exact each p old

/-! ### Starting sums -/

theorem expectedFor_once (s : State) (b : Bank) (i : SectorIx) (c : CarrierId) :
    ((s.expectedFor b i c).map (·.remote)).Nodup := by
  have sub (l : List RemoteId) : ((l.filterMap fun r =>
      if (s.record r).placed.contains c then
        (s.upFormat r).map fun f => (⟨r, f, s.rl[r].mEff, s.comb.guard[r]⟩ : Expected)
      else none).map (·.remote)).Sublist l := by
    induction l with
    | nil => exact List.Sublist.slnil
    | cons r rs ih =>
      rw [List.filterMap_cons]
      split
      · exact ih.cons r
      · next e he =>
        have same : e.remote = r := by
          split at he
          · obtain ⟨f, _, rfl⟩ := Option.map_eq_some_iff.mp he
            rfl
          · contradiction
        rw [List.map_cons, same]
        exact ih.cons_cons r
  exact (sub _).nodup ((List.nodup_finRange 24).filter _)

theorem sumFor_eq_some {s : State} {lf : Nat} {c : CarrierId} {q : UplinkSum} (h : s.sumFor lf c = some q) :
    q.label = s.tb.label ∧ q.carrier = c ∧ ∃ b i, q.waiting = s.expectedFor b i c := by
  unfold sumFor at h
  split at h
  · contradiction
  · obtain ⟨i, _, rfl⟩ := Option.map_eq_some_iff.mp h
    exact ⟨rfl, rfl, _, i, rfl⟩

/-- One sum more for each carrier, of a link frame that no sum in progress is of (R76). -/
theorem startSums (h : s.SumsFormed) (earlier : ∀ q ∈ s.comb.sums, q.label < s.tb.label) (lf : Nat) :
    (s.startSums lf).SumsFormed := by
  obtain ⟨once, each, missing, sat⟩ := h
  have starts {q : UplinkSum} (mem : q ∈ allCarriers.filterMap (s.sumFor lf)) : ∃ c, s.sumFor lf c = some q := by
    obtain ⟨c, _, e⟩ := List.mem_filterMap.mp mem
    exact ⟨c, e⟩
  have news : ((allCarriers.filterMap (s.sumFor lf)).map (·.carrier)).Sublist allCarriers := by
    generalize allCarriers = l
    induction l with
    | nil => exact List.Sublist.slnil
    | cons c cs ih =>
      rw [List.filterMap_cons]
      split
      · exact ih.cons c
      · next q found =>
        rw [List.map_cons, (sumFor_eq_some found).2.1]
        exact ih.cons_cons c
  refine SumsForming.formReady ⟨?_, fun q mem => ?_, missing, sat⟩
  · rw [List.map_append, List.nodup_append]
    refine ⟨once, ?_, ?_⟩
    · have carriers := news.nodup (List.nodup_finRange 24)
      exact List.Nodup.of_map Prod.snd (by simpa only [List.map_map, Function.comp_def] using carriers)
    · intro k old k' new e
      subst e
      obtain ⟨q, mem, rfl⟩ := List.mem_map.mp old
      obtain ⟨p, mem', same⟩ := List.mem_map.mp new
      obtain ⟨c, found⟩ := starts mem'
      have label : p.label = q.label := congrArg Prod.fst same
      exact absurd (label.symm.trans (sumFor_eq_some found).1) (earlier q mem).ne
  · rcases List.mem_append.mp mem with old | new
    · exact (each q old).2
    · obtain ⟨c, found⟩ := starts new
      obtain ⟨label, _, b, i, waiting⟩ := sumFor_eq_some found
      rw [waiting]
      exact ⟨expectedFor_once .., label.le⟩

end SumsFormed

end State

end Sys2Proof.Machine
end

section
/-! The statement on guard steps and the sums in progress, put together (R16, R76, R84, R87). -/

namespace Sys2Proof.Machine.State

theorem linkSeekToUp_restOfTerms (s : State) (l : TermLinkId) : (s.linkSeekToUp l).restOfTerms = s.restOfTerms := by
  have clears (t : State) (k : Key) : (t.clear k).restOfTerms = t.restOfTerms := rfl
  unfold linkSeekToUp
  split
  · dsimp only
    split
    · rw [setTimebase_restOfTerms, clears, modTerm_restOfTerms]
    · rw [clears, modTerm_restOfTerms]
  · rfl

theorem linkUpToLost_restOfTerms (s : State) (l : TermLinkId) : (s.linkUpToLost l).restOfTerms = s.restOfTerms := by
  have raises (t : State) (k : Key) : (t.raise k).restOfTerms = t.restOfTerms := rfl
  have trunk (t : State) : t.trunkLoss.restOfTerms = t.restOfTerms := rfl
  have holds (c : Prop) [Decidable c] (t : State) (x : TimebaseState) :
      (if c then t.setTimebase x else t).restOfTerms = t.restOfTerms := by
    split
    · exact setTimebase_restOfTerms t x
    · rfl
  unfold linkUpToLost
  split
  · cases l with
    | op o => exact (holds ..).trans ((raises ..).trans (modTerm_restOfTerms ..))
    | trunk => exact (trunk _).trans ((holds ..).trans ((raises ..).trans (modTerm_restOfTerms ..)))
  · rfl

namespace SumsFormed

variable {s : State}

theorem raise (h : s.SumsFormed) (key : Key) : (s.raise key).SumsFormed := h

theorem clear (h : s.SumsFormed) (key : Key) : (s.clear key).SumsFormed := h

theorem complete (h : s.SumsFormed) (ch : Channel) (x : Result) (b : Bool) (d : List Byte) :
    (s.complete ch x b d).SumsFormed := by rw [complete_eq]; exact h

/-! ### Remote links -/

theorem moveLink (h : s.SumsFormed) (r : RemoteId) (x : RemoteState) : (s.moveLink r x).SumsFormed := by
  have left : (s.leaveUp r x).SumsFormed := by
    have marked : ((s.clearFar r).modRl r fun l => { leftUp l with state := x }).SumsFormed :=
      SumsFormed.modRl (s := s.clearFar r) h r (by intro _; rfl)
    have emptied {t : State} (ht : t.SumsFormed) : (t.recompute r).placementChanged.SumsFormed := by
      refine of_parts (s := t) ht ?_ ?_ ?_ ?_ <;> rw [placementChanged_frame]
      · rfl
      · rfl
      · rfl
      · intro _; rfl
    exact emptied (marked.withdraw r)
  unfold State.moveLink
  split
  · exact left
  · exact (h.modRl r (by intro _; rfl)).clear _
  · exact h.modRl r (by intro _; rfl)

theorem restartInto (h : s.SumsFormed) (r : RemoteId) (x : RemoteState) : (s.restartInto r x).SumsFormed :=
  SumsFormed.modRl (h.moveLink r x) r (f := restarted) (by intro _; rfl)

theorem restart (h : s.SumsFormed) (r : RemoteId) : (s.restart r).SumsFormed := h.restartInto r .seek

theorem disable (h : s.SumsFormed) (r : RemoteId) : (s.disable r).SumsFormed :=
  SumsFormed.modRl (h.moveLink r .off) r
    (f := fun l => { l with phase := .none, chosen := none, format := none, capability := none, lostCond := false })
    (by intro _; rfl)

theorem failNegotiation (h : s.SumsFormed) (r : RemoteId) : (s.failNegotiation r).SumsFormed :=
  restart (h.modRl r (f := fun l => { l with negFail := satInc max32 l.negFail }) (by intro _; rfl)) r

theorem linkLostEntry (h : s.SumsFormed) (r : RemoteId) : (s.linkLostEntry r).SumsFormed := by
  unfold State.linkLostEntry
  split
  · next up =>
    have left : (s.leaveUp r .lost).SumsFormed := moveLink_of_up .lost up.1 ▸ h.moveLink r .lost
    have counted := left.modRl r (f := fun l => { l with lostEntries := satInc max32 l.lostEntries, holdTimer := 0 })
      (by intro _; rfl)
    exact counted.modRl r (f := fun l => { l with lostCond := true }) (by intro _; rfl)
  · exact h

theorem linkEntersUp (h : s.SumsFormed) (r : RemoteId) : (s.linkEntersUp r).SumsFormed := by
  have derived {t : State} (ht : t.SumsFormed) : ((t.endLost r).recompute r).placementChanged.SumsFormed := by
    have ended : (t.endLost r).SumsFormed := ht.modRl r (f := fun l => { l with lostCond := false }) (by intro _; rfl)
    refine ended.of_parts ?_ ?_ ?_ ?_ <;> rw [placementChanged_frame]
    · rfl
    · rfl
    · rfl
    · intro _; rfl
  unfold State.linkEntersUp
  exact ite_keeps (derived (h.modRl r (by intro _; rfl))) h

/-! ### Frames on remote links -/

theorem countAnswer (h : s.SumsFormed) (r : RemoteId) : (s.countAnswer r).SumsFormed := by
  unfold State.countAnswer
  exact ite_keeps (h.modRl r (by intro _; rfl)) h

theorem negotiateWord (h : s.SumsFormed) (r : RemoteId) (w : Word) : (s.negotiateWord r w).SumsFormed := by
  have capability : (s.capabilityWord r w).SumsFormed := by
    unfold State.capabilityWord
    dsimp only
    split
    · exact h.modRl r (by intro _; rfl)
    · exact (h.modRl r (by intro _; rfl)).raise _
  unfold State.negotiateWord
  split
  · exact ite_keeps capability h
  · exact ite_keeps (h.modRl r (by intro _; rfl)) h
  · exact h

theorem statusWord (h : s.SumsFormed) (r : RemoteId) (w : Word) : (s.statusWord r w).SumsFormed := by
  refine h.of_parts rfl rfl rfl fun q => ?_
  by_cases e : q = r
  · subst e
    unfold State.statusWord
    rw [owe_rl, modRl_same]
    rfl
  · unfold State.statusWord
    rw [owe_rl, modRl_other _ _ e]

theorem upAnswer (h : s.SumsFormed) (r : RemoteId) (w : Word) (f : HubFrame) (p : List Byte) :
    (s.upAnswer r w f p).SumsFormed := by
  unfold State.upAnswer
  dsimp only
  have earlier := ite_keeps (c := f.label = 0) h (h.settleUpTo r (f.label - 1))
  exact takeBlocks (ite_keeps (earlier.statusWord r w) earlier) ..

theorem remoteGood (h : s.SumsFormed) (r : RemoteId) (w : Word) (p : List Byte) : (s.remoteGood r w p).SumsFormed := by
  have heard : (s.hearGood r w).SumsFormed := by
    have counted := h.modRl r (f := countGood s.tb w) (by intro _; rfl)
    unfold hearGood
    exact ite_keeps counted counted
  have read (f : HubFrame) : ((s.hearGood r w).readWord r s.rl[r].state w f p).SumsFormed := by
    unfold readWord
    split
    · exact ite_keeps (heard.negotiateWord r w) heard
    · exact heard.upAnswer r w f p
    · exact heard
  rw [remoteGood_eq]
  split
  · exact heard.countAnswer r
  · next f _ => exact (read f).modRl r (by intro _; rfl)

theorem remoteBad (h : s.SumsFormed) (r : RemoteId) : (s.remoteBad r).SumsFormed := by
  have owed {t : State} (ht : t.SumsFormed) (c : Prop) [Decidable c] (l : List Instr) :
      (if c then t.owe l else t).SumsFormed := ite_keeps ht ht
  have worse (n : Nat) := h.modRl r (f := fun l => { l with alignErr := satInc max32 l.alignErr, badRun := n })
    (by intro _; rfl)
  have counted := h.modRl r (f := fun l => { l with alignErr := satInc max32 l.alignErr }) (by intro _; rfl)
  have again := h.modRl r (f := fun l => { l with seekRun := 0 }) (by intro _; rfl)
  unfold State.remoteBad
  dsimp only
  split
  · exact h
  · exact again.countAnswer r
  · exact h.countAnswer r
  · exact counted.countAnswer r
  · exact counted.countAnswer r
  · exact countAnswer (owed (worse _) _ _) r
  · exact countAnswer (owed (ite_keeps ((worse _).settleUpTo r _) (worse _)) _ _) r

theorem remoteFrame (h : s.SumsFormed) (r : RemoteId) (f : RemoteFrame) : (s.remoteFrame r f).SumsFormed := by
  unfold State.remoteFrame
  split
  · exact h
  · split
    · exact ite_keeps (h.remoteGood r _ _) (h.remoteBad r)
    · exact h.remoteBad r

/-! ### Boundaries and link frames -/

theorem tick_missing (l : RemoteLink) : l.tick.missing = l.missing := by
  unfold RemoteLink.tick
  split
  · split <;> rfl
  · rfl
  · rfl

theorem tickBoundary (h : s.SumsFormed) : s.tickBoundary.SumsFormed := by
  refine h.of_parts rfl rfl rfl fun r => ?_
  have record : s.tickBoundary.rl[r] = s.rl[r].tick.superframeEnds s.tb.label := getElem_tab _ r
  rw [record]
  exact tick_missing _

theorem makeBoundary (h : s.SumsFormed) (cut : Bool) : (s.makeBoundary cut).SumsFormed := by
  have cutShort {t : State} (ht : t.SumsFormed) : t.cutFrame.SumsFormed :=
    ht.of_sublist List.filter_sublist rfl rfl fun _ => rfl
  have taken {t : State} (ht : t.SumsFormed) (b : Option Boundary) (l : List Instr) :
      SumsFormed (State.owe { t with boundary := b } l) := ht
  have released {t : State} (ht : t.SumsFormed) (c : Prop) [Decidable c] (m : Measurement) :
      (if c then t else { t with meas := m }).SumsFormed := ite_keeps ht ht
  have ended := ite_keeps (c := cut = true) (cutShort (h.deadline (s.tb.label - 1))) (h.deadline (s.tb.label - 1))
  unfold State.makeBoundary
  dsimp only
  generalize (if cut = true then (s.deadline (s.tb.label - 1)).cutFrame else s.deadline (s.tb.label - 1)) = u at ended ⊢
  exact released (taken ended.tickBoundary _ _) _ _

/-- The sums in progress are all of earlier link frames than the one that starts. -/
theorem tickFrame (h : s.SumsFormed) :
    s.tickFrame.SumsFormed ∧ ∀ q ∈ s.tickFrame.comb.sums, q.label < s.tickFrame.tb.label := by
  obtain ⟨once, each, missing, sat⟩ := h
  refine ⟨⟨once, fun q mem => ?_, missing, sat⟩, fun q mem => ?_⟩
  · obtain ⟨waits, waiting, le⟩ := each q mem
    exact ⟨waits, waiting, le.trans (Nat.le_succ _)⟩
  · exact Nat.lt_succ_of_le (each q mem).2.2

theorem startFrame (h : s.SumsFormed) : s.startFrame.SumsFormed := by
  have sent {t : State} (ht : t.SumsFormed ∧ ∀ q ∈ t.comb.sums, q.label < t.tb.label) (lf : Nat) :
      (t.transmit lf).SumsFormed ∧ ∀ q ∈ (t.transmit lf).comb.sums, q.label < (t.transmit lf).tb.label := ht
  have laid {t : State} (ht : t.SumsFormed ∧ ∀ q ∈ t.comb.sums, q.label < t.tb.label) (m : Measurement) (d : Distributor)
      (o : List SumOutput) (p : Placement) (lf : Nat) : (State.startSums { t with
        meas := m, dist := d, comb := { t.comb with outputs := o }, place := p } lf).SumsFormed :=
    startSums (s := { t with meas := m, dist := d, comb := { t.comb with outputs := o }, place := p }) ht.1 ht.2 lf
  unfold State.startFrame
  exact laid (sent (h.deadline _).tickFrame _) ..

/-! ### The window, plans, mode, isolation and resets -/

theorem windowEnd (h : s.SumsFormed) : s.windowEnd.SumsFormed := by
  obtain ⟨once, each, missing, sat⟩ := h
  have counts (x : SectorId) : s.windowEnd.comb.sat[x] ≤ max16 := by
    cases found : s.boundary with
    | none =>
      unfold State.windowEnd
      rw [found]
      exact sat x
    | some b =>
      rw [windowEnd_comb found]
      unfold guardWindow
      simp
  rw [windowEnd_frame]
  exact ⟨once, each, missing, counts⟩

theorem warmResetApplied (h : s.SumsFormed) : s.warmResetApplied.SumsFormed := by
  obtain ⟨once, each, missing, sat⟩ := h
  have record (r : RemoteId) : s.warmBlocks.rl[r] = warmRemote s.rl[r] := getElem_tab _ r
  have sums : s.warmBlocks.comb.sums = s.comb.sums := by dsimp only [warmBlocks]
  have counts : s.warmBlocks.comb.sat = Vector.replicate 32 0 := by dsimp only [warmBlocks]
  have label : s.warmBlocks.tb.label = s.tb.label := by dsimp only [warmBlocks]
  rw [warmResetApplied_frame]
  generalize s.warmBlocks = t at record sums counts label ⊢
  refine ⟨?_, ?_, fun r => ?_, fun x => ?_⟩
  · rwa [sums]
  · rwa [sums, label]
  · rw [record]
    exact Nat.zero_le _
  · rw [counts]
    simp

theorem of_commanded {ch : Channel} {t : State} (h : s.SumsFormed) (c : Commanded ch s t) : t.SumsFormed := by
  cases c
  case linkSet x =>
    have enabled : (Machine.applyEnable s x).SumsFormed := by
      have set := h.modRl x.remote (f := fun l => { l with enable := x.enable }) (by intro _; rfl)
      have unlisted {t : State} (ht : t.SumsFormed) (r : RemoteId) : (t.unlist r).SumsFormed := ht
      unfold Machine.applyEnable
      dsimp only
      split
      · exact ite_keeps (set.restart _) set
      · exact ite_keeps set ((unlisted set _).disable _)
    have offered : (Machine.applyOffered (Machine.applyEnable s x) x).SumsFormed := by
      have set := enabled.modRl x.remote (f := fun l => { l with offered := x.offered }) (by intro _; rfl)
      unfold Machine.applyOffered
      exact ite_keeps (set.restart _) set
    exact offered.modRl x.remote (by intro _; rfl)
  case restart r _ _ => exact h.restart r
  case timing ref x => rw [setTimebase_eq]; exact h
  case restore r _ => exact restart (s := s.unlist r) h r
  case define x place priority levels _ => exact ite_keeps (P := SumsFormed) h (h.dropOutputs x.carrier)
  case undefine c _ _ => exact h.dropOutputs c
  case latch r => exact h.modRl r (by intro _; rfl)
  case disarm o data =>
    refine complete ?_ ..
    rw [cancelArmed_frame]
    exact h
  case unrequest => exact complete (s := { s with mode := { s.mode with requested := none } }) h ..
  case unpend flag => exact complete (s := { s with mode := { s.mode with pendingIso := none } }) h ..
  all_goals exact h

end SumsFormed

theorem sumsFormed_kept : KeptByParts SumsFormed where
  cold s _ := by
    have comb : s.coldReset.comb = reset.comb := rfl
    have rl : s.coldReset.rl = reset.rl := rfl
    refine ⟨?_, ?_, ?_, ?_⟩
    · rw [comb]; exact List.nodup_nil
    · rw [comb]; nofun
    · rw [rl]; decide
    · rw [comb]; decide
  queue _ _ h := h
  due _ _ h := h
  assertPin _ h := h
  endBoundary _ _ h := h
  settleBoundary s h := by rw [settleBoundary_frame]; exact h
  levelFieldTakesEffect s c h := by rw [levelFieldTakesEffect_frame]; exact h
  linkSettingsTakeEffect s r h := by
    rw [linkSettingsTakeEffect_frame]
    exact h.modRl r (f := fun l => { l with mEff := l.m, pmaxEff := l.pmax }) (by intro _; rfl)
  seekRunComplete s r h := by
    unfold seekRunComplete
    exact ite_keeps (h.modRl r (by intro _; rfl)) h
  farFlagChange s r i h := by
    have changed := h.modRl r (f := fun l => { l with flags := l.flags.set i s.rl[r].flags[i].change }) (by intro _; rfl)
    unfold farFlagChange
    exact ite_keeps (ite_keeps changed changed) h
  echoFailure _ r h := by
    unfold echoFailure
    exact ite_keeps (h.restart r) h
  negotiationTimeout _ r h := by
    unfold negotiationTimeout
    exact ite_keeps (h.failNegotiation r) h
  negotiateAlignmentLoss _ r h := by
    unfold negotiateAlignmentLoss
    exact ite_keeps (h.failNegotiation r) h
  linkEntersUp _ r h := h.linkEntersUp r
  linkLostEntry _ r h := h.linkLostEntry r
  lostHoldEnd _ r h := by
    unfold lostHoldEnd
    exact ite_keeps (h.restart r) h
  linkSeekToUp s l h := by rw [frame_of_restOfTerms (linkSeekToUp_restOfTerms s l)]; exact h
  linkUpToLost s l h := by rw [frame_of_restOfTerms (linkUpToLost_restOfTerms s l)]; exact h
  linkLostHoldEnd s l h := by rw [linkLostHoldEnd_frame]; exact h
  lock _ h := h
  expireGate _ _ _ h := h
  windowEnd _ h := h.windowEnd
  guardStepDown s r h := by
    have set (g v : Vector Nat 24) : SumsFormed { s with comb := { s.comb with guard := g, recover := v } } := h
    unfold guardStepDown
    exact ite_keeps (ite_keeps ((set _ _).clear _) (set _ _)) h
  autoQuietEntry s h := by rw [autoQuietEntry_frame]; exact h
  switchover s o h := by rw [switchover_frame]; exact h
  hubModeDecision s h := by rw [hubModeDecision_frame]; exact h
  pendingIsolationApply s h := by
    have set (u : ModeUnit) : SumsFormed { s with mode := u } := h
    unfold pendingIsolationApply
    split
    · exact h
    · dsimp only
      split
      · exact (set _).complete ..
      · have began {t : State} (ht : t.SumsFormed) (p : PendingIso) : (t.beginIsolation p).SumsFormed :=
          ht.restartInto p.remote .isolated
        exact (began (set _) _).complete ..
  isolationTimerExpiry s r h := by
    unfold isolationTimerExpiry
    exact ite_keeps (SumsFormed.restart (s := s.unlist r) h r) h
  warmResetApplied _ h := h.warmResetApplied
  alertPlacement s h := by rw [alertPlacement_frame]; exact h
  request s x request _ h := by
    obtain ⟨code, scope, body, ch, tag, ps, own, e⟩ := effect_of_requestPhase request
    rw [e]
    exact request_keeps (fun _ _ h => h) h fun c => h.of_commanded (own.commanded ps)
  makeBoundary _ cut h := h.makeBoundary cut
  startFrame _ h := h.startFrame
  remoteFrame _ r f h := h.remoteFrame r f
  remoteBad _ r h := h.remoteBad r
  operatorFrame s o f h := by rw [frame_of_restOfTerms (operatorFrame_restOfTerms s o f)]; exact h
  trunkFrame s f h := by rw [frame_of_restOfTerms (trunkFrame_restOfTerms s f)]; exact h
  termBad s l h := by rw [frame_of_restOfTerms (termBad_restOfTerms s l)]; exact h
  deadline _ n h := h.deadline n

end Sys2Proof.Machine.State

namespace Sys2Proof.Proofs

open Sys2Proof.Machine Sys2Proof.Machine.State

/-- Settles O55: a guard step rises for a named remote below 8 alone, and a settled block replaces its sum, which is formed
when it waits for no other. -/
theorem combinerInvariant : Obligations.CombinerInvariant :=
  ⟨fun _ _ h e => guardBounded_kept.step h e, fun _ _ h e => sumsFormed_kept.step h e⟩

end Sys2Proof.Proofs
end

section
/-! SUPPORT. What a frame on a remote link can make of a link record (R6 to R10, R13, R14, R16). -/

namespace Sys2Proof.Machine

/-- What a received frame, and the settling of blocks, can make of a remote link's record: the format and the limits in effect
stay, NEGOTIATE alone can be left, for MISMATCH, and a chosen format comes with the phase that needs one (R7 to R9). -/
structure Heard (l m : RemoteLink) : Prop where
  format : m.format = l.format
  limit : m.pmaxEff = l.pmaxEff
  state : m.state = l.state ∨ l.state = .negotiate ∧ m.state = .mismatch
  chosen : m.phase = .ordered ∨ m.phase = .confirmed →
    m.chosen.isSome ∨ ((l.phase = .ordered ∨ l.phase = .confirmed) ∧ m.chosen = l.chosen)

namespace Heard

variable {l m n : RemoteLink}

theorem of_same (state : m.state = l.state) (format : m.format = l.format) (limit : m.pmaxEff = l.pmaxEff)
    (phase : m.phase = l.phase) (chosen : m.chosen = l.chosen) : Heard l m :=
  ⟨format, limit, .inl state, fun h => .inr ⟨by rwa [phase] at h, chosen⟩⟩

theorem refl (l : RemoteLink) : Heard l l := of_same rfl rfl rfl rfl rfl

theorem trans (h : Heard l m) (k : Heard m n) : Heard l n where
  format := k.format.trans h.format
  limit := k.limit.trans h.limit
  state := by
    rcases k.state with same | ⟨was, is⟩
    · rcases h.state with same' | ⟨was, is⟩
      · exact .inl (same.trans same')
      · exact .inr ⟨was, same.trans is⟩
    · rcases h.state with same' | ⟨_, is'⟩
      · exact .inr ⟨same'.symm.trans was, is⟩
      · exact absurd (is'.symm.trans was) (by decide)
  chosen needs := by
    rcases k.chosen needs with some | ⟨needed, same⟩
    · exact .inl some
    · rw [same]
      exact h.chosen needed

end Heard

namespace State

/-- Every link record of a state is what a frame can make of the other's. -/
def AllHeard (s t : State) : Prop := ∀ q : RemoteId, Heard s.rl[q] t.rl[q]

namespace AllHeard

variable {s t u : State} {r : RemoteId}

theorem refl (s : State) : s.AllHeard s := fun _ => .refl _

theorem trans (h : s.AllHeard t) (k : t.AllHeard u) : s.AllHeard u := fun q => (h q).trans (k q)

theorem of_rl (same : t.rl = s.rl) : s.AllHeard t := fun q => by rw [same]; exact .refl _

theorem modRl {f : RemoteLink → RemoteLink} (h : Heard s.rl[r] (f s.rl[r])) : s.AllHeard (s.modRl r f) := fun q => by
  by_cases e : q = r
  · subst e
    rwa [modRl_same]
  · rw [modRl_other _ _ e]
    exact .refl _

theorem settling (h : t.restOfSettling = s.restOfSettling) : s.AllHeard t := fun q => by
  rw [link_of_restOfSettling h q]
  exact .of_same rfl rfl rfl rfl rfl

theorem ite {c : Prop} [Decidable c] (h : s.AllHeard t) (k : s.AllHeard u) : s.AllHeard (if c then t else u) := by
  split <;> assumption

theorem set_same (v : Vector RemoteLink 24) (r : RemoteId) (l : RemoteLink) : (v.set r l)[r] = l := by simp

theorem countAnswer (s : State) (r : RemoteId) : s.AllHeard (s.countAnswer r) := by
  unfold State.countAnswer
  exact ite (modRl (.of_same rfl rfl rfl rfl rfl)) (refl s)

theorem negotiateWord (negotiating : s.rl[r].state = .negotiate) (w : Word) : s.AllHeard (s.negotiateWord r w) := by
  have capability : s.AllHeard (s.capabilityWord r w) := by
    unfold capabilityWord
    dsimp only
    split
    · exact modRl ⟨rfl, rfl, .inl rfl, fun _ => .inl rfl⟩
    · have mismatched : s.AllHeard (s.modRl r fun l => { l with
          capability := some ⟨formatSetOf (w.payload.getD 0 0), BitVec.ofNat 32 (unsigned ((w.payload.drop 1).take 4)),
            clamp 1 4000 (unsigned ((w.payload.drop 5).take 2))⟩
          state := .mismatch, phase := .none, chosen := none }) :=
        modRl ⟨rfl, rfl, .inr ⟨negotiating, rfl⟩, by rintro (h | h) <;> cases h⟩
      exact mismatched.trans (of_rl rfl)
  unfold State.negotiateWord
  split
  · exact ite capability (refl s)
  · next ordered => exact ite (modRl ⟨rfl, rfl, .inl rfl, fun _ => .inr ⟨.inl ordered, rfl⟩⟩) (refl s)
  · exact refl s

theorem upAnswer (s : State) (r : RemoteId) (w : Word) (f : HubFrame) (p : List Byte) :
    s.AllHeard (s.upAnswer r w f p) := by
  have status (t : State) : t.AllHeard (t.statusWord r w) := by
    have applied : t.AllHeard (t.modRl r fun _ => statusRecord t.rl[r] w) := modRl (.of_same rfl rfl rfl rfl rfl)
    exact applied.trans (of_rl rfl)
  have earlier : s.AllHeard (if f.label = 0 then s else s.settleUpTo r (f.label - 1)) :=
    ite (refl s) (settling (settleUpTo_restOfSettling ..))
  unfold State.upAnswer
  exact (earlier.trans (ite (status _) (refl _))).trans (settling (takeBlocks_restOfSettling ..))

theorem hearGood (s : State) (r : RemoteId) (w : Word) : s.AllHeard (s.hearGood r w) := by
  have counted : s.AllHeard (s.modRl r (countGood s.tb w)) := modRl (.of_same rfl rfl rfl rfl rfl)
  unfold State.hearGood
  exact ite (counted.trans (of_rl rfl)) counted

theorem remoteGood (s : State) (r : RemoteId) (w : Word) (p : List Byte) : s.AllHeard (s.remoteGood r w p) := by
  have heard := hearGood s r w
  have state : (s.hearGood r w).rl[r].state = s.rl[r].state := by
    rw [hearGood_frame]
    dsimp only
    rw [set_same]
    rfl
  have read (f : HubFrame) : (s.hearGood r w).AllHeard ((s.hearGood r w).readWord r s.rl[r].state w f p) := by
    unfold readWord
    split
    · next negotiating => exact ite (negotiateWord (state.trans negotiating) w) (refl _)
    · exact upAnswer _ _ _ _ _
    · exact refl _
  rw [remoteGood_eq]
  split
  · exact heard.trans (countAnswer _ _)
  · next f _ => exact (heard.trans (read f)).trans (modRl (.of_same rfl rfl rfl rfl rfl))

theorem remoteBad (s : State) (r : RemoteId) : s.AllHeard (s.remoteBad r) := by
  have edited {f : RemoteLink → RemoteLink} (h : ∀ l, Heard l (f l)) : s.AllHeard (s.modRl r f) := modRl (h _)
  have owed {t : State} (h : s.AllHeard t) (c : Prop) [Decidable c] (l : List Instr) :
      s.AllHeard (if c then t.owe l else t) := ite (h.trans (of_rl rfl)) h
  unfold State.remoteBad
  dsimp only
  split
  · exact refl s
  · exact (edited (by intro _; exact .of_same rfl rfl rfl rfl rfl)).trans (countAnswer _ _)
  · exact countAnswer _ _
  · exact (edited (by intro _; exact .of_same rfl rfl rfl rfl rfl)).trans (countAnswer _ _)
  · exact (edited (by intro _; exact .of_same rfl rfl rfl rfl rfl)).trans (countAnswer _ _)
  · exact (owed (edited (by intro _; exact .of_same rfl rfl rfl rfl rfl)) _ _).trans (countAnswer _ _)
  · have worse := edited (f := fun l => { l with
        alignErr := satInc max32 l.alignErr, badRun := min (s.rl[r].badRun + 1) badRunLimit })
      fun _ => .of_same rfl rfl rfl rfl rfl
    exact (owed (ite (worse.trans (settling (settleUpTo_restOfSettling ..))) worse) _ _).trans (countAnswer _ _)

theorem remoteFrame (s : State) (r : RemoteId) (f : RemoteFrame) : s.AllHeard (s.remoteFrame r f) := by
  unfold State.remoteFrame
  split
  · exact refl s
  · split
    · exact ite (remoteGood _ _ _ _) (remoteBad _ _)
    · exact remoteBad _ _

end AllHeard

end State

end Sys2Proof.Machine
end

section
/-! The statement on the isolation list (R143, R144). -/

namespace Sys2Proof.Machine.State

/-- The isolation list is bounded, and is the list of the ISOLATED links (R143, R144). -/
def IsolationFormed (s : State) : Prop := s.IsolationBounded ∧ s.IsolatedExactly

theorem listed_iff_mem (s : State) (r : RemoteId) : s.Listed r ↔ r ∈ s.mode.isolated.map (·.remote) := by
  simp [Listed]

/-- A move of a link sets its state. -/
theorem moveLink_state (s : State) (r : RemoteId) (x : RemoteState) : (s.moveLink r x).rl[r].state = x := by
  rw [moveLink_rl_same]
  unfold moved
  split <;> rfl

theorem restartInto_state (s : State) (r : RemoteId) (x : RemoteState) : (s.restartInto r x).rl[r].state = x := by
  rw [restartInto_rl_same]
  unfold moved
  split <;> rfl

theorem restartInto_rl_other (s : State) {r q : RemoteId} (x : RemoteState) (h : q ≠ r) :
    (s.restartInto r x).rl[q] = s.rl[q] := by
  rw [restartInto, closeGates_rl, modRl_other _ _ h, moveLink_rl_other s x h]

theorem restart_mode (s : State) (r : RemoteId) : (s.restart r).mode = s.mode := by
  rw [restart, restartInto_frame]

theorem tick_state (l : RemoteLink) : l.tick.state = l.state := by
  unfold RemoteLink.tick
  split
  · split <;> rfl
  · rfl
  · rfl

theorem tickBoundary_rl (s : State) (r : RemoteId) : s.tickBoundary.rl[r] = s.rl[r].tick.superframeEnds s.tb.label :=
  getElem_tab _ r

/-- A link record after a boundary: the missing blocks counted, then the timers. -/
theorem makeBoundary_rl (s : State) (cut : Bool) (r : RemoteId) : (s.makeBoundary cut).rl[r] =
    RemoteLink.superframeEnds (RemoteLink.tick
      { s.rl[r] with missing := (s.deadline (s.tb.label - 1)).rl[r].missing }) s.tb.label := by
  have settled := deadline_restOfSettling s (s.tb.label - 1)
  have label : (s.deadline (s.tb.label - 1)).tb.label = s.tb.label := by rw [frame_of_restOfSettling settled]
  have ended (u : State) (b : Boundary) (l : List Instr) (c : Prop) [Decidable c] (m : Measurement) :
      (if c then State.owe { u.tickBoundary with boundary := some b } l
        else { State.owe { u.tickBoundary with boundary := some b } l with meas := m }).rl[r] =
      u.rl[r].tick.superframeEnds u.tb.label := by
    split <;> exact tickBoundary_rl u r
  have cutShort (u : State) : (if cut = true then u.cutFrame else u).rl = u.rl ∧
      (if cut = true then u.cutFrame else u).tb = u.tb := by split <;> exact ⟨rfl, rfl⟩
  unfold makeBoundary
  dsimp only
  rw [ended, (cutShort _).1, (cutShort _).2, label, ← link_of_restOfSettling settled]

/-- A link record after a link frame starts: the missing blocks counted. -/
theorem startFrame_rl (s : State) (r : RemoteId) :
    s.startFrame.rl[r] = { s.rl[r] with missing := (s.deadline (s.tb.label - 1)).rl[r].missing } := by
  have started : s.startFrame.rl = (s.deadline (s.tb.label - 1)).rl := by
    have laid (t : State) (m : Measurement) (d : Distributor) (k : Combiner) (p : Placement) (lf : Nat) :
        (State.startSums { t with meas := m, dist := d, comb := k, place := p } lf).rl = t.rl := rfl
    have sent (t : State) (lf : Nat) : (t.tickFrame.transmit lf).rl = t.rl := rfl
    unfold startFrame
    exact (laid ..).trans (sent ..)
  rw [started, ← link_of_restOfSettling (deadline_restOfSettling s _)]

/-- A window end leaves the isolation list and a pending isolation. -/
theorem windowEnd_isolation (s : State) :
    s.windowEnd.mode.isolated = s.mode.isolated ∧ s.windowEnd.mode.pendingIso = s.mode.pendingIso := by
  have quiet (t : State) (b : Boundary) : (t.autoQuiet b).mode.isolated = t.mode.isolated ∧
      (t.autoQuiet b).mode.pendingIso = t.mode.pendingIso := by
    unfold autoQuiet
    split
    · exact ⟨rfl, rfl⟩
    · split
      · dsimp only
        generalize (if t.quietWindow b = true then min (t.mode.quietRun + 1) 255 else 0) = run
        split <;> exact ⟨rfl, rfl⟩
      · split <;> exact ⟨rfl, rfl⟩
  have balanced (banks : Vector Bank 4) (staged : Vector StagedState 4) (l : List OpId) (t : State) :
      (l.foldl (fun s o => s.balance banks staged o) t).mode = t.mode :=
    foldl_keeps (fun s => s.mode) _ (fun s o => by rw [balance_frame]) l t
  have guarded (t : State) (banks : Vector Bank 4) (peak : Vector Nat 24) : (t.guardWindow banks peak).mode = t.mode := by
    rw [guardWindow_frame]
  have swept (t : State) : t.resweep.mode = t.mode := rfl
  have counted (t : State) (l : List (OpId × RemoteId)) : (t.countHoldOffs l).mode = t.mode := rfl
  unfold windowEnd
  split
  · exact ⟨rfl, rfl⟩
  · dsimp only
    rw [swept, (quiet _ _).1, (quiet _ _).2, balanced, counted, guarded]
    exact ⟨rfl, rfl⟩

namespace IsolationFormed

variable {s t : State} {r : RemoteId}

/-- What the statement reads stays. -/
theorem of_same (h : s.IsolationFormed) (isolated : t.mode.isolated.map (·.remote) = s.mode.isolated.map (·.remote))
    (pending : t.mode.pendingIso = s.mode.pendingIso)
    (states : ∀ q : RemoteId, t.rl[q].state = .isolated ↔ s.rl[q].state = .isolated) : t.IsolationFormed := by
  obtain ⟨⟨few, once, apart⟩, exactly⟩ := h
  have listed (q : RemoteId) : t.Listed q ↔ s.Listed q := by rw [listed_iff_mem, listed_iff_mem, isolated]
  have length := congrArg List.length isolated
  rw [List.length_map, List.length_map] at length
  refine ⟨⟨by rwa [length, pending], by rwa [isolated], fun p hp l => ?_⟩, fun q => ?_⟩
  · exact apart p (pending ▸ hp) ((listed _).mp l)
  · rw [listed, states]
    exact exactly q

/-- One link leaves a state other than ISOLATED for another such state. -/
theorem of_link (h : s.IsolationFormed) (r : RemoteId) (mode : t.mode = s.mode) (was : s.rl[r].state ≠ .isolated)
    (now : t.rl[r].state ≠ .isolated) (other : ∀ q : RemoteId, q ≠ r → t.rl[q] = s.rl[q]) : t.IsolationFormed := by
  refine h.of_same (by rw [mode]) (by rw [mode]) fun q => ?_
  by_cases e : q = r
  · subst e
    exact ⟨fun x => absurd x now, fun x => absurd x was⟩
  · rw [other q e]

/-- A remote leaves the list as its link leaves ISOLATED. -/
theorem of_unlist (h : s.IsolationFormed) (r : RemoteId) (mode : t.mode = (s.unlist r).mode)
    (now : t.rl[r].state ≠ .isolated) (other : ∀ q : RemoteId, q ≠ r → t.rl[q] = s.rl[q]) : t.IsolationFormed := by
  obtain ⟨⟨few, once, apart⟩, exactly⟩ := h
  have sub : t.mode.isolated.Sublist s.mode.isolated := by
    rw [mode]
    exact List.filter_sublist
  have pending : t.mode.pendingIso = s.mode.pendingIso := by rw [mode]; rfl
  have listed (q : RemoteId) : t.Listed q ↔ s.Listed q ∧ q ≠ r := by
    unfold Listed
    rw [mode]
    constructor
    · rintro ⟨e, mem, rfl⟩
      obtain ⟨mem, ne⟩ := List.mem_filter.mp mem
      exact ⟨⟨e, mem, rfl⟩, by simpa using ne⟩
    · rintro ⟨⟨e, mem, rfl⟩, ne⟩
      exact ⟨e, List.mem_filter.mpr ⟨mem, by simpa using ne⟩, rfl⟩
  refine ⟨⟨?_, (sub.map _).nodup once, fun p hp l => apart p (pending ▸ hp) ((listed _).mp l).1⟩, fun q => ?_⟩
  · rw [pending]
    exact (Nat.add_le_add_right sub.length_le _).trans few
  · rw [listed]
    by_cases e : q = r
    · subst e
      exact ⟨fun x => absurd rfl x.2, fun x => absurd x now⟩
    · rw [other q e, ← exactly q]
      exact ⟨And.left, fun x => ⟨x, e⟩⟩

/-- A remote joins the list as its link becomes ISOLATED; the pending isolation is over (R146). -/
theorem of_begin {u : State} {p : PendingIso} (h : s.IsolationFormed) (pending : s.mode.pendingIso = some p)
    (e : IsoEntry) (remote : e.remote = p.remote) (isolated : u.mode.isolated = s.mode.isolated ++ [e])
    (over' : u.mode.pendingIso = none) (now : u.rl[p.remote].state = .isolated)
    (other : ∀ q : RemoteId, q ≠ p.remote → u.rl[q] = s.rl[q]) : u.IsolationFormed := by
  obtain ⟨⟨few, once, apart⟩, exactly⟩ := h
  have absent := (not_congr (s.listed_iff_mem p.remote)).mp (apart p pending)
  have listed (q : RemoteId) : u.Listed q ↔ s.Listed q ∨ q = p.remote := by
    rw [listed_iff_mem, listed_iff_mem, isolated, List.map_append, List.mem_append]
    simp [remote]
  refine ⟨⟨?_, ?_, by rw [over']; nofun⟩, fun q => ?_⟩
  · rw [pending] at few
    rw [isolated, over']
    simpa using few
  · rw [isolated, List.map_append, List.nodup_append]
    refine ⟨once, List.nodup_singleton _, fun a mem b mem' eq => absent ?_⟩
    rw [List.map_singleton, List.mem_singleton, remote] at mem'
    exact mem' ▸ eq ▸ mem
  · rw [listed]
    by_cases eq : q = p.remote
    · subst eq
      exact ⟨fun _ => now, fun _ => .inr rfl⟩
    · rw [other q eq, ← exactly q]
      exact ⟨fun x => x.resolve_right eq, .inl⟩

theorem restart (h : s.IsolationFormed) (was : s.rl[r].state ≠ .isolated) : (s.restart r).IsolationFormed :=
  h.of_link r (restart_mode s r) was (by rw [State.restart, restartInto_state]; decide) fun _ ne =>
    restartInto_rl_other s .seek ne

theorem unlistRestart (h : s.IsolationFormed) (r : RemoteId) : ((s.unlist r).restart r).IsolationFormed :=
  h.of_unlist r (restart_mode (s.unlist r) r) (by rw [State.restart, restartInto_state]; decide) fun _ ne =>
    restartInto_rl_other (s.unlist r) .seek ne

/-- Edits of a link record that keep the state. -/
theorem modRl (h : s.IsolationFormed) (r : RemoteId) {f : RemoteLink → RemoteLink} (same : ∀ l, (f l).state = l.state) :
    (s.modRl r f).IsolationFormed := by
  refine h.of_same rfl rfl fun q => ?_
  by_cases e : q = r
  · subst e
    rw [modRl_same, same]
  · rw [modRl_other _ _ e]

theorem failNegotiation (h : s.IsolationFormed) (was : s.rl[r].state ≠ .isolated) :
    (s.failNegotiation r).IsolationFormed := by
  unfold State.failNegotiation
  refine restart (h.modRl r (by intro _; rfl)) ?_
  rw [modRl_same]
  exact was

theorem unlistDisable (h : s.IsolationFormed) (r : RemoteId) : ((s.unlist r).disable r).IsolationFormed := by
  have record : ((s.unlist r).disable r).rl[r].state = .off := by
    have moved := moveLink_state (s.unlist r) r .off
    unfold disable
    rw [clear_rl, closeGates_rl, modRl_same]
    exact moved
  refine h.of_unlist r (by rw [disable_frame]) (by rw [record]; decide) fun q ne => ?_
  unfold disable
  rw [clear_rl, closeGates_rl, modRl_other _ _ ne, moveLink_rl_other _ _ ne]
  rfl

theorem linkLostEntry (h : s.IsolationFormed) (r : RemoteId) : (s.linkLostEntry r).IsolationFormed := by
  have mode : (s.linkLostEntry r).mode = s.mode := by rw [frame_of_restOfLinks (linkLostEntry_restOfLinks s r)]
  by_cases lost : s.rl[r].state = .up ∧ badRunLimit ≤ s.rl[r].badRun
  · refine h.of_link r mode (by rw [lost.1]; decide) ?_ fun q ne => ?_ <;> unfold State.linkLostEntry <;> rw [if_pos lost]
    · rw [beginLost, raise_rl, modRl_same, modRl_same, leaveUp_rl, modRl_same]
      nofun
    · rw [beginLost, raise_rl, modRl_other _ _ ne, modRl_other _ _ ne, leaveUp_rl, modRl_other _ _ ne]
  · unfold State.linkLostEntry
    rwa [if_neg lost]

theorem linkEntersUp (h : s.IsolationFormed) (r : RemoteId) : (s.linkEntersUp r).IsolationFormed := by
  have mode : (s.linkEntersUp r).mode = s.mode := by rw [linkEntersUp_frame]
  by_cases enters : s.rl[r].state = .negotiate ∧ s.rl[r].phase = .confirmed
  · refine h.of_link r mode (by rw [enters.1]; decide) ?_ fun q ne => ?_ <;> unfold State.linkEntersUp <;>
      rw [if_pos enters]
    · dsimp only
      rw [placementChanged_rl, recompute_rl, endLost, clear_rl, modRl_same, modRl_same]
      nofun
    · dsimp only
      rw [placementChanged_rl, recompute_rl, endLost, clear_rl, modRl_other _ _ ne, modRl_other _ _ ne]
  · unfold State.linkEntersUp
    rwa [if_neg enters]

theorem seekRunComplete (h : s.IsolationFormed) (r : RemoteId) : (s.seekRunComplete r).IsolationFormed := by
  unfold State.seekRunComplete
  split
  · next seeking =>
    refine h.of_link r rfl (by rw [seeking.1]; decide) ?_ fun q ne => modRl_other _ _ ne
    rw [modRl_same]
    nofun
  · exact h

theorem of_heard (h : s.IsolationFormed) (heard : s.AllHeard t) (mode : t.mode = s.mode) : t.IsolationFormed := by
  refine h.of_same (by rw [mode]) (by rw [mode]) fun q => ?_
  rcases (heard q).state with same | ⟨was, is⟩
  · rw [same]
  · rw [was, is]
    decide

theorem pendingIsolationApply (h : s.IsolationFormed) : s.pendingIsolationApply.IsolationFormed := by
  unfold State.pendingIsolationApply
  split
  · exact h
  · next p pending =>
    dsimp only
    split
    · rw [complete_eq]
      obtain ⟨⟨few, once, apart⟩, exactly⟩ := h
      refine ⟨⟨?_, once, nofun⟩, exactly⟩
      exact (Nat.le_add_right ..).trans few
    · rw [complete_eq]
      refine of_begin (s := s) h pending ⟨p.remote, s.tb.count, p.delay, returnTimer p.delay, p.force⟩ rfl ?_ ?_ ?_ ?_
      · unfold beginIsolation
        dsimp only
        rw [restartInto_frame]
      · unfold beginIsolation
        dsimp only
        rw [restartInto_frame]
      · exact restartInto_state ..
      · exact fun q ne => restartInto_rl_other _ _ ne

theorem isolationTimerExpiry (h : s.IsolationFormed) (r : RemoteId) : (s.isolationTimerExpiry r).IsolationFormed := by
  unfold State.isolationTimerExpiry
  exact ite_keeps (h.unlistRestart r) h

theorem offeredRestarts_state {l : RemoteLink} {f : FormatSet} (h : offeredRestarts l f = true) : l.state ≠ .isolated := by
  intro isolated
  unfold offeredRestarts at h
  rw [isolated] at h
  contradiction

theorem renew_remotes (s : State) (r : RemoteId) (d : Nat) (f : Bool) :
    (Machine.renew s r d f).mode.isolated.map (·.remote) = s.mode.isolated.map (·.remote) := by
  unfold Machine.renew
  dsimp only
  rw [List.map_map]
  refine List.map_congr_left fun e _ => ?_
  simp only [Function.comp_apply]
  split <;> rfl

theorem makeBoundary (h : s.IsolationFormed) (cut : Bool) : (s.makeBoundary cut).IsolationFormed := by
  have isolated : (s.makeBoundary cut).mode.isolated = s.mode.isolated.map IsoEntry.tick := by rw [makeBoundary_frame]
  have pending : (s.makeBoundary cut).mode.pendingIso = s.mode.pendingIso := by rw [makeBoundary_frame]
  refine h.of_same ?_ pending fun q => ?_
  · rw [isolated, List.map_map]
    rfl
  · rw [makeBoundary_rl]
    exact iff_of_eq (congrArg (· = RemoteState.isolated) (tick_state _))

/-- What the own rule of a request does to the list and the links. -/
theorem of_commanded {ch : Channel} (h : s.IsolationFormed) (c : Commanded ch s t) : t.IsolationFormed := by
  have completed {u : State} (hu : u.IsolationFormed) (x : Result) (b : Bool) (d : List Byte) :
      (u.complete ch x b d).IsolationFormed := by rw [complete_eq]; exact hu
  cases c
  case linkSet x =>
    have enabled : (Machine.applyEnable s x).IsolationFormed := by
      have set := h.modRl x.remote (f := fun l => { l with enable := x.enable }) (by intro _; rfl)
      unfold Machine.applyEnable
      dsimp only
      split
      · split
        · next off =>
          refine set.restart ?_
          rw [modRl_same]
          dsimp only
          rw [off]
          decide
        · exact set
      · exact ite_keeps set (set.unlistDisable _)
    have offered {u : State} (hu : u.IsolationFormed) : (Machine.applyOffered u x).IsolationFormed := by
      have set := hu.modRl x.remote (f := fun l => { l with offered := x.offered }) (by intro _; rfl)
      unfold Machine.applyOffered
      dsimp only
      split
      · next again =>
        refine set.restart ?_
        rw [modRl_same]
        exact offeredRestarts_state (l := u.rl[x.remote]) again
      · exact set
    exact (offered enabled).modRl x.remote (by intro _; rfl)
  case restart r listed _ => exact h.restart listed
  case timing ref x => rw [setTimebase_eq]; exact h
  case mode u _ isolated pending => exact h.of_same (by rw [isolated]) pending fun _ => Iff.rfl
  case renew r d f => exact h.of_same (renew_remotes s r d f) rfl fun _ => Iff.rfl
  case isolate p unlisted room =>
    obtain ⟨⟨few, once, apart⟩, exactly⟩ := h
    exact ⟨⟨room, once, fun q same => (Option.some.inj same) ▸ unlisted⟩, exactly⟩
  case restore r _ => exact h.unlistRestart r
  case define x place priority levels _ => exact ite_keeps (P := IsolationFormed) h h
  case latch r => exact h.modRl r (by intro _; rfl)
  case disarm o data =>
    refine completed ?_ ..
    rw [cancelArmed_frame]
    exact h
  case unrequest => exact completed (u := { s with mode := { s.mode with requested := none } }) h ..
  case unpend flag =>
    refine completed (u := { s with mode := { s.mode with pendingIso := none } }) ?_ ..
    obtain ⟨⟨few, once, apart⟩, exactly⟩ := h
    exact ⟨⟨(Nat.le_add_right ..).trans few, once, nofun⟩, exactly⟩
  all_goals exact h

end IsolationFormed

theorem isolationFormed_kept : KeptByParts IsolationFormed where
  cold s _ := by
    have mode : s.coldReset.mode = reset.mode := rfl
    have rl : s.coldReset.rl = reset.rl := rfl
    unfold IsolationFormed IsolationBounded IsolatedExactly Listed
    rw [mode, rl]
    refine ⟨⟨by decide, by decide, nofun⟩, fun r => ?_⟩
    revert r
    decide
  queue _ _ h := h
  due _ _ h := h
  assertPin _ h := h
  endBoundary _ _ h := h
  settleBoundary s h := by rw [settleBoundary_frame]; exact h
  levelFieldTakesEffect s c h := by rw [levelFieldTakesEffect_frame]; exact h
  linkSettingsTakeEffect s r h := by
    rw [linkSettingsTakeEffect_frame]
    exact h.modRl r (f := fun l => { l with mEff := l.m, pmaxEff := l.pmax }) (by intro _; rfl)
  seekRunComplete _ r h := h.seekRunComplete r
  farFlagChange s r i h := by
    have changed := h.modRl r (f := fun l => { l with flags := l.flags.set i s.rl[r].flags[i].change }) (by intro _; rfl)
    unfold farFlagChange
    exact ite_keeps (ite_keeps changed changed) h
  echoFailure _ r h := by
    unfold echoFailure
    split
    · next up => exact h.restart (by rw [up.1]; decide)
    · exact h
  negotiationTimeout _ r h := by
    unfold negotiationTimeout
    split
    · next negotiating => exact h.failNegotiation (by rw [negotiating.1]; decide)
    · exact h
  negotiateAlignmentLoss _ r h := by
    unfold negotiateAlignmentLoss
    split
    · next negotiating => exact h.failNegotiation (by rw [negotiating.1]; decide)
    · exact h
  linkEntersUp _ r h := h.linkEntersUp r
  linkLostEntry _ r h := h.linkLostEntry r
  lostHoldEnd _ r h := by
    unfold lostHoldEnd
    split
    · next lost => exact h.restart (by rw [lost.1]; decide)
    · exact h
  linkSeekToUp s l h := by rw [linkSeekToUp_frame]; exact h
  linkUpToLost s l h := by rw [linkUpToLost_frame]; exact h
  linkLostHoldEnd s l h := by rw [linkLostHoldEnd_frame]; exact h
  lock _ h := h
  expireGate _ _ _ h := h
  windowEnd s h := by
    have mode : s.windowEnd.mode.isolated = s.mode.isolated ∧ s.windowEnd.mode.pendingIso = s.mode.pendingIso :=
      windowEnd_isolation s
    refine h.of_same (by rw [mode.1]) mode.2 fun q => ?_
    rw [windowEnd_frame]
  guardStepDown s r h := by rw [guardStepDown_frame]; exact h
  autoQuietEntry s h := by
    unfold autoQuietEntry
    exact ite_keeps h h
  switchover s o h := by rw [switchover_frame]; exact h
  hubModeDecision s h := by
    have taken {t : State} (ht : t.IsolationFormed) (m : HubMode) : (t.takeMode m).IsolationFormed := by
      rw [takeMode_frame]; exact ht
    unfold hubModeDecision
    split
    · rw [complete_eq]
      exact taken (t := { s with mode := { s.mode with requested := none, auto := none, quietRun := 0 } }) h _
    · exact taken (t := { s with mode := { s.mode with auto := none } }) h _
    · exact h
  pendingIsolationApply _ h := h.pendingIsolationApply
  isolationTimerExpiry _ r h := h.isolationTimerExpiry r
  warmResetApplied s h := by
    have record (r : RemoteId) : s.warmBlocks.rl[r] = warmRemote s.rl[r] := getElem_tab _ r
    have mode : s.warmBlocks.mode = { s.mode with auto := none, quietRun := 0 } := by dsimp only [warmBlocks]
    rw [warmResetApplied_frame]
    generalize s.warmBlocks = t at record mode ⊢
    refine h.of_same (by dsimp only; rw [mode]) (by dsimp only; rw [mode]) fun q => ?_
    dsimp only
    rw [record]
    exact Iff.rfl
  alertPlacement s h := by rw [alertPlacement_frame]; exact h
  request s x request _ h := by
    obtain ⟨code, scope, body, ch, tag, ps, own, e⟩ := effect_of_requestPhase request
    rw [e]
    exact request_keeps (fun _ _ h => h) h fun c => h.of_commanded (own.commanded ps)
  makeBoundary _ cut h := h.makeBoundary cut
  startFrame s h := by
    refine h.of_same ?_ ?_ fun q => ?_
    · rw [startFrame_frame]
    · rw [startFrame_frame]
    · rw [startFrame_rl]
  remoteFrame s r f h := h.of_heard (.remoteFrame s r f) (by rw [frame_of_restOfHearing (remoteFrame_restOfHearing s r f)])
  remoteBad s r h := h.of_heard (.remoteBad s r) (by rw [frame_of_restOfHearing (remoteBad_restOfHearing s r)])
  operatorFrame s o f h := by rw [frame_of_restOfTerms (operatorFrame_restOfTerms s o f)]; exact h
  trunkFrame s f h := by rw [frame_of_restOfTerms (trunkFrame_restOfTerms s f)]; exact h
  termBad s l h := by rw [frame_of_restOfTerms (termBad_restOfTerms s l)]; exact h
  deadline s n h := h.of_heard (.settling (deadline_restOfSettling s n)) (by rw [frame_of_restOfSettling (deadline_restOfSettling s n)])

end Sys2Proof.Machine.State

namespace Sys2Proof.Proofs

open Sys2Proof.Machine Sys2Proof.Machine.State

/-- Settles O58: a remote joins the list where its link becomes ISOLATED, and leaves it where its link leaves ISOLATED. -/
theorem isolationListInvariant : Obligations.IsolationListInvariant := fun _ _ h k e => isolationFormed_kept.step ⟨h, k⟩ e

end Sys2Proof.Proofs
end

section
/-! The statement on the staged and active banks (R33, R34, R38 to R47). -/

namespace Sys2Proof.Machine

/-! ## The edits of a bank -/

/-- What a well-formed zone entry is (R34). -/
def ZoneFormed (z : Zone) : Prop :=
  z.alts.length ≤ 3 ∧ z.alts.Nodup ∧ (∀ i, z.home = some i → i ∉ z.alts) ∧ (z.home = none → z.alts = []) ∧
    (z.cur = none ↔ z.home = none) ∧ ∀ i, z.cur = some i → z.home = some i ∨ (z.pinned = false ∧ i ∈ z.alts)

theorem bankFormed_iff (b : Bank) : State.BankFormed b ↔
    (∀ i : SectorIx, b.sectors[i].carriers.length ≤ 8 ∧ b.sectors[i].carriers.Pairwise (· < ·) ∧ b.sectors[i].h ≤ 4 ∧
      ∀ j : SectorIx, j ≠ i → ∀ c ∈ b.sectors[i].carriers, c ∉ b.sectors[j].carriers) ∧
    ∀ r : RemoteId, ZoneFormed b.zones[r] := Iff.rfl

theorem mem_sector_editSector {x : SectorEdit} {h : Nat} {b : Bank} {i : SectorIx} {c : CarrierId} :
    c ∈ (editSector x h b).sectors[i].carriers ↔
      if i = x.sector then c ∈ x.carriers else c ∈ b.sectors[i].carriers ∧ c ∉ x.carriers := by
  have record : (editSector x h b).sectors[i] = if i = x.sector then
      ⟨allCarriers.filter fun c => x.carriers.contains c, h⟩
    else { b.sectors[i] with carriers := b.sectors[i].carriers.filter fun c => !x.carriers.contains c } := State.getElem_tab _ i
  rw [record]
  split
  · simp [allCarriers]
  · simp

/-- PLAN SECTOR takes the carriers it lists from every other sector (R38). -/
theorem editSector_formed {x : SectorEdit} {h : Nat} {b : Bank} (formed : State.BankFormed b) (low : h ≤ 4)
    (few : x.carriers.length ≤ 8) : State.BankFormed (editSector x h b) := by
  obtain ⟨sectors, zones⟩ := (bankFormed_iff b).mp formed
  refine (bankFormed_iff _).mpr ⟨fun i => ?_, zones⟩
  have record : (editSector x h b).sectors[i] = if i = x.sector then
      ⟨allCarriers.filter fun c => x.carriers.contains c, h⟩
    else { b.sectors[i] with carriers := b.sectors[i].carriers.filter fun c => !x.carriers.contains c } := State.getElem_tab _ i
  have apart : ∀ j : SectorIx, j ≠ i → ∀ c ∈ (editSector x h b).sectors[i].carriers,
      c ∉ (editSector x h b).sectors[j].carriers := by
    intro j ne c mem mem'
    rw [mem_sector_editSector] at mem mem'
    split at mem
    · next is =>
      rw [if_neg (fun e => ne (e.trans is.symm))] at mem'
      exact mem'.2 mem
    · split at mem'
      · exact mem.2 mem'
      · exact (sectors i).2.2.2 j ne c mem.1 mem'.1
  refine ⟨?_, ?_, ?_, apart⟩ <;> rw [record] <;> split
  · have sub : (allCarriers.filter fun c => x.carriers.contains c) ⊆ x.carriers := fun c mem => by
      simpa using (List.mem_filter.mp mem).2
    exact ((((List.nodup_finRange 24).filter _).subperm sub).length_le).trans few
  · exact (List.length_filter_le ..).trans (sectors i).1
  · exact (List.pairwise_lt_finRange 24).sublist List.filter_sublist
  · exact (sectors i).2.1.sublist List.filter_sublist
  · exact low
  · exact (sectors i).2.2.1

theorem setZone_formed {b : Bank} {r : RemoteId} {z : Zone} (formed : State.BankFormed b) (zone : ZoneFormed z) :
    State.BankFormed { b with zones := b.zones.set r z } := by
  obtain ⟨sectors, zones⟩ := (bankFormed_iff b).mp formed
  refine (bankFormed_iff _).mpr ⟨sectors, fun q => ?_⟩
  by_cases e : q = r
  · subst e
    have same : (b.zones.set q z)[q] = z := by simp
    dsimp only
    rwa [same]
  · have other : (b.zones.set r z)[q] = b.zones[q] := Vector.getElem_set_ne _ _ (fun e' => e (Fin.ext e'.symm))
    dsimp only
    rw [other]
    exact zones q

/-- PLAN ZONE writes an entry whose current sector is its home (R39). -/
theorem editZone_formed {x : ZoneEdit} {b : Bank} (formed : State.BankFormed b) (few : x.alts.length ≤ 3)
    (fit : altsFit x.home x.alts = true) : State.BankFormed (editZone x b) := by
  refine setZone_formed formed ⟨few, ?_, ?_, ?_, Iff.rfl, fun i h => .inl h⟩
  · unfold altsFit at fit
    split at fit
    · simp_all
    · simp_all
  · intro i home
    dsimp only at home
    rw [home] at fit
    simp [altsFit] at fit
    exact fit.2
  · intro home
    dsimp only at home
    rw [home] at fit
    simpa [altsFit] using fit

theorem ZoneFormed.atHome {z : Zone} (h : ZoneFormed z) : ZoneFormed { z with cur := z.home } := by
  obtain ⟨few, once, apart, homeless, _, _⟩ := h
  exact ⟨few, once, apart, homeless, Iff.rfl, fun i h => .inl h⟩

/-- PLAN HOME sets every current sector to the home (R40). -/
theorem editHome_formed {b : Bank} (formed : State.BankFormed b) : State.BankFormed (editHome b) := by
  obtain ⟨sectors, zones⟩ := (bankFormed_iff b).mp formed
  have same : (editHome b).sectors = b.sectors := by dsimp only [editHome]
  rw [bankFormed_iff, same]
  refine ⟨sectors, fun r => ?_⟩
  have record : (editHome b).zones[r] = { b.zones[r] with cur := b.zones[r].home } := State.getElem_tab _ r
  rw [record]
  exact (zones r).atHome

/-- A move writes the home or, of an entry that is not pinned, an alternate (R46). -/
theorem move_formed {b : Bank} {r : RemoteId} {t : SectorIx} (formed : State.BankFormed b)
    (target : b.zones[r].home = some t ∨ (b.zones[r].pinned = false ∧ t ∈ b.zones[r].alts)) :
    State.BankFormed { b with zones := b.zones.set r { b.zones[r] with cur := some t } } := by
  obtain ⟨sectors, zones⟩ := (bankFormed_iff b).mp formed
  obtain ⟨few, once, apart, homeless, _, _⟩ := zones r
  have home : b.zones[r].home ≠ none := fun none => by
    rcases target with h | ⟨_, h⟩
    · exact absurd (none.symm.trans h) (by simp)
    · rw [homeless none] at h
      contradiction
  refine setZone_formed formed ⟨few, once, apart, homeless, ?_, fun i h => ?_⟩
  · exact ⟨nofun, fun h => absurd h home⟩
  · cases h
    exact target

/-! ## Plans -/

namespace State

theorem opPlan_modPlan_same (s : State) (o : OpId) (f : OperatorPlan → OperatorPlan) :
    (s.modPlan o f).opPlan o = f (s.opPlan o) := by simp [opPlan, modPlan]

theorem opPlan_modPlan_other (s : State) {o q : OpId} (f : OperatorPlan → OperatorPlan) (h : q ≠ o) :
    (s.modPlan o f).opPlan q = s.opPlan q := by
  have ne : o.val ≠ q.val := fun e => h (Fin.ext e.symm)
  simp [opPlan, modPlan, Vector.getElem_set_ne _ _ ne]

/-- The banks and staged-bank states that a boundary was made with stay. -/
def SameView (s t : State) : Prop :=
  ∀ b, t.boundary = some b → ∃ a, s.boundary = some a ∧ a.banks = b.banks ∧ a.staged = b.staged

theorem SameView.of_eq {s t : State} (h : t.boundary = s.boundary) : s.SameView t := fun b e => ⟨b, h ▸ e, rfl, rfl⟩

/-- What a switchover does to the plans. -/
def takeStaged (p : OperatorPlan) : OperatorPlan := { p with active := p.staged, state := .clean }

theorem switchover_of_not_armed {s : State} {o : OpId} (h : s.isArmed o = false) : s.switchover o = s := by
  unfold isArmed at h
  unfold switchover
  split at h
  · contradiction
  · rfl

theorem switchover_plans {s : State} {o : OpId} (h : s.isArmed o = true) :
    (s.switchover o).plan = (s.modPlan o takeStaged).plan := by
  have completes (t : State) (ch : Channel) : (t.completeArming o ch).plan = t.plan := by rw [completeArming_frame]
  have derived (t : State) : t.recomputeAll.placementChanged.plan = t.plan := by
    rw [placementChanged_frame, recomputeAll_frame]
  unfold isArmed at h
  split at h
  · next origin f armed =>
    unfold switchover
    rw [armed]
    cases origin
    · exact (completes _ _).trans (derived _)
    · exact (completes _ _).trans (derived _)
    · exact derived _
  · contradiction

theorem switchover_view (s : State) (o : OpId) : s.SameView (s.switchover o) := by
  have completes (t : State) (ch : Channel) : t.SameView (t.completeArming o ch) := by
    unfold completeArming
    split
    · rw [complete_eq]
      exact .of_eq rfl
    · rw [complete_eq]
      intro b found
      obtain ⟨a, e, rfl⟩ := Option.map_eq_some_iff.mp found
      exact ⟨a, e, rfl, rfl⟩
    · exact .of_eq rfl
  have derived (f : OperatorPlan → OperatorPlan) : (s.modPlan o f).recomputeAll.placementChanged.boundary = s.boundary := by
    rw [placementChanged_frame, recomputeAll_frame]
    rfl
  have through (t : State) (h : t.boundary = s.boundary) (ch : Channel) : s.SameView (t.completeArming o ch) := by
    intro b e
    obtain ⟨a, found, same⟩ := completes t ch b e
    exact ⟨a, h ▸ found, same⟩
  unfold switchover
  split
  · dsimp only
    split
    · exact through _ (derived _) _
    · exact through _ (derived _) _
    · exact .of_eq (derived _)
  · exact .of_eq rfl

/-! ## The steps that a predicate on the plans meets -/

/-- A predicate on the operators' plans, and on what a boundary was made with, that the steps which change them keep. -/
structure KeptByPlans (P : State → Prop) : Prop where
  same : ∀ {s t : State}, t.plan.plans = s.plan.plans →
    (∀ c : CarrierId, t.plan.carriers[c].place = s.plan.carriers[c].place) → s.SameView t → P s → P t
  cold : ∀ s : State, P s.coldReset
  switched : ∀ (s : State) (o : OpId), P s → P { s with plan := (s.modPlan o takeStaged).plan }
  windowEnd : ∀ s : State, P s → P s.windowEnd
  copied : ∀ (s : State) (v : Vector OperatorPlan 4), (∀ o, v[o] = { s.opPlan o with
    staged := (s.opPlan o).active, state := .clean }) → P s → P { s with plan := { s.plan with plans := v } }
  viewed : ∀ s : State, P s → P { s with boundary := some s.closingView }
  commanded : ∀ {ch : Channel} {s t : State}, s.boundary = none → Commanded ch s t → P s → P t

theorem KeptByPlans.parts {P : State → Prop} (k : KeptByPlans P) : KeptByParts P where
  cold s _ := k.cold s
  queue _ _ h := k.same (by rfl) (by intro _; rfl) (.of_eq (by rfl)) h
  due _ _ h := k.same (by rfl) (by intro _; rfl) (.of_eq (by rfl)) h
  assertPin _ h := k.same (by rfl) (by intro _; rfl) (.of_eq (by rfl)) h
  endBoundary _ _ h := k.same (by rfl) (by intro _; rfl) (by nofun) h
  settleBoundary s h := by
    refine k.same ?_ (fun _ => ?_) ?_ h
    · rw [settleBoundary_frame]
    · rw [settleBoundary_frame]
    · intro b found
      unfold settleBoundary at found
      split at found
      · next none => exact absurd (none.symm.trans found) nofun
      · next a e =>
        split at found
        · exact ⟨b, found, rfl, rfl⟩
        · cases found
          exact ⟨a, e, rfl, rfl⟩
  levelFieldTakesEffect s c h := by
    refine k.same ?_ (fun q => ?_) (.of_eq ?_) h <;> rw [levelFieldTakesEffect_frame]
    by_cases e : c.val = q.val
    · have eq : c = q := Fin.ext e
      subst eq
      simp [State.carrier]
    · simp [Vector.getElem_set_ne _ _ e]
  linkSettingsTakeEffect s r h := by
    refine k.same ?_ (fun _ => ?_) (.of_eq ?_) h <;> rw [linkSettingsTakeEffect_frame]
  seekRunComplete s r h := by
    refine k.same ?_ (fun _ => ?_) (.of_eq ?_) h <;> rw [seekRunComplete_frame]
  farFlagChange s r i h := by
    refine k.same ?_ (fun _ => ?_) (.of_eq ?_) h <;> rw [farFlagChange_frame]
  echoFailure s r h := by
    refine k.same ?_ (fun _ => ?_) (.of_eq ?_) h <;> rw [frame_of_restOfLinks (echoFailure_restOfLinks s r)]
  negotiationTimeout s r h := by
    refine k.same ?_ (fun _ => ?_) (.of_eq ?_) h <;> rw [frame_of_restOfLinks (negotiationTimeout_restOfLinks s r)]
  negotiateAlignmentLoss s r h := by
    refine k.same ?_ (fun _ => ?_) (.of_eq ?_) h <;> rw [frame_of_restOfLinks (negotiateAlignmentLoss_restOfLinks s r)]
  linkEntersUp s r h := by
    refine k.same ?_ (fun _ => ?_) (.of_eq ?_) h <;> rw [linkEntersUp_frame]
  linkLostEntry s r h := by
    refine k.same ?_ (fun _ => ?_) (.of_eq ?_) h <;> rw [frame_of_restOfLinks (linkLostEntry_restOfLinks s r)]
  lostHoldEnd s r h := by
    refine k.same ?_ (fun _ => ?_) (.of_eq ?_) h <;> rw [frame_of_restOfLinks (lostHoldEnd_restOfLinks s r)]
  linkSeekToUp s l h := by
    refine k.same ?_ (fun _ => ?_) (.of_eq ?_) h <;> rw [linkSeekToUp_frame]
  linkUpToLost s l h := by
    refine k.same ?_ (fun _ => ?_) (.of_eq ?_) h <;> rw [linkUpToLost_frame]
  linkLostHoldEnd s l h := by
    refine k.same ?_ (fun _ => ?_) (.of_eq ?_) h <;> rw [linkLostHoldEnd_frame]
  lock _ h := k.same (by rfl) (by intro _; rfl) (.of_eq (by rfl)) h
  expireGate _ _ _ h := k.same (by rfl) (by intro _; rfl) (.of_eq (by rfl)) h
  windowEnd s h := k.windowEnd s h
  guardStepDown s r h := by
    refine k.same ?_ (fun _ => ?_) (.of_eq ?_) h <;> rw [guardStepDown_frame]
  autoQuietEntry s h := by
    refine k.same ?_ (fun _ => ?_) (.of_eq ?_) h <;> rw [autoQuietEntry_frame]
  switchover s o h := by
    cases armed : s.isArmed o with
    | false => rwa [switchover_of_not_armed armed]
    | true =>
      have plan := switchover_plans armed
      exact k.same (congrArg PlanStore.plans plan) (fun c => by rw [plan]) (switchover_view s o) (k.switched s o h)
  hubModeDecision s h := by
    refine k.same ?_ (fun _ => ?_) (.of_eq ?_) h <;> rw [hubModeDecision_frame]
  pendingIsolationApply s h := by
    refine k.same ?_ (fun _ => ?_) (.of_eq ?_) h <;> rw [pendingIsolationApply_frame]
  isolationTimerExpiry s r h := by
    refine k.same ?_ (fun _ => ?_) (.of_eq ?_) h <;> rw [isolationTimerExpiry_frame]
  warmResetApplied s h := by
    have copies := k.copied s (tab fun o => { s.opPlan o with staged := (s.opPlan o).active, state := .clean })
      (fun o => getElem_tab _ o) h
    refine k.same ?_ (fun _ => ?_) (.of_eq ?_) copies <;> rw [warmResetApplied_frame] <;> dsimp only [warmBlocks]
  alertPlacement s h := by
    refine k.same ?_ (fun _ => ?_) (.of_eq ?_) h <;> rw [alertPlacement_frame]
  request s x request ended h := by
    obtain ⟨code, scope, body, ch, tag, ps, own, e⟩ := effect_of_requestPhase request
    rw [e]
    exact request_keeps (fun _ _ h => k.same (by rfl) (by intro _; rfl) (.of_eq (by rfl)) h) h fun c => k.commanded ended (own.commanded ps) h
  makeBoundary s cut h := by
    refine k.same ?_ (fun _ => ?_) (.of_eq ?_) (k.viewed s h) <;> rw [makeBoundary_frame]
  startFrame s h := by
    refine k.same ?_ (fun _ => ?_) (.of_eq ?_) h <;> rw [startFrame_frame]
  remoteFrame s r f h := by
    refine k.same ?_ (fun _ => ?_) (.of_eq ?_) h <;> rw [frame_of_restOfHearing (remoteFrame_restOfHearing s r f)]
  remoteBad s r h := by
    refine k.same ?_ (fun _ => ?_) (.of_eq ?_) h <;> rw [frame_of_restOfHearing (remoteBad_restOfHearing s r)]
  operatorFrame s o f h := by
    refine k.same ?_ (fun _ => ?_) (.of_eq ?_) h <;> rw [frame_of_restOfTerms (operatorFrame_restOfTerms s o f)]
  trunkFrame s f h := by
    refine k.same ?_ (fun _ => ?_) (.of_eq ?_) h <;> rw [frame_of_restOfTerms (trunkFrame_restOfTerms s f)]
  termBad s l h := by
    refine k.same ?_ (fun _ => ?_) (.of_eq ?_) h <;> rw [frame_of_restOfTerms (termBad_restOfTerms s l)]
  deadline s n h := by
    refine k.same ?_ (fun _ => ?_) (.of_eq ?_) h <;> rw [frame_of_restOfSettling (deadline_restOfSettling s n)]

end State

end Sys2Proof.Machine
end

section
/-! The statement on the staged and active banks, put together (section 2.3, R33, R34, R46). -/

namespace Sys2Proof.Machine.State

/-! ## A CLEAN staged bank equals the active one -/

namespace CleanMatches

variable {s t : State}

theorem of_plans (h : s.CleanMatches) (same : t.plan.plans = s.plan.plans) : t.CleanMatches := by
  intro o clean
  unfold opPlan at clean ⊢
  rw [same] at clean ⊢
  exact h o clean

theorem modPlan (h : s.CleanMatches) (o : OpId) {f : OperatorPlan → OperatorPlan}
    (plan : (f (s.opPlan o)).state = .clean → (f (s.opPlan o)).staged = (f (s.opPlan o)).active) :
    (s.modPlan o f).CleanMatches := by
  intro q
  by_cases e : q = o
  · subst e
    rwa [opPlan_modPlan_same]
  · rw [opPlan_modPlan_other _ _ e]
    exact h q

theorem stageMove (h : s.CleanMatches) (o : OpId) (r : RemoteId) (t : SectorIx) (x : Origin) :
    (s.stageMove o r t x).CleanMatches := h.modPlan o nofun

theorem balance (h : s.CleanMatches) (banks : Vector Bank 4) (staged : Vector StagedState 4) (o : OpId) :
    (s.balance banks staged o).CleanMatches := by
  have evaluated (b : Bank) : (s.evaluate o b).CleanMatches := by
    unfold evaluate
    split
    · exact h.of_plans rfl
    · split
      · exact h.of_plans rfl
      · split
        · exact h.of_plans rfl
        · split
          · exact (h.stageMove o _ _ _).of_plans rfl
          · exact h.of_plans (by rw [advise_frame])
  have deferred (x : BalancerOutcome) : (s.defer o x).CleanMatches := h.of_plans rfl
  unfold State.balance
  exact ite_keeps h (ite_keeps (deferred _) (ite_keeps (deferred _) (ite_keeps (deferred _) (evaluated _))))

end CleanMatches

/-- A window end changes the plans by the Balancer's decisions alone. -/
theorem windowEnd_plan {s : State} {b : Boundary} (found : s.boundary = some b) : s.windowEnd.plan =
    (allOps.foldl (fun s o => s.balance b.banks b.staged o)
      (((s.closeWindow b).guardWindow b.banks (s.closeWindow b).meas.snap.peak).countHoldOffs b.moved)).plan := by
  have swept (t : State) : (t.autoQuiet b).resweep.plan = t.plan := by
    unfold resweep
    dsimp only
    rw [autoQuiet_frame]
  unfold windowEnd
  rw [found]
  exact swept _

theorem windowEnd_of_none {s : State} (h : s.boundary = none) : s.windowEnd = s := by
  unfold windowEnd
  rw [h]

/-- The state that the Balancer's decisions start from has the plans and the boundary of the one at the window end. -/
theorem beforeBalance (s : State) (b : Boundary) :
    (((s.closeWindow b).guardWindow b.banks (s.closeWindow b).meas.snap.peak).countHoldOffs b.moved).plan = s.plan ∧
    (((s.closeWindow b).guardWindow b.banks (s.closeWindow b).meas.snap.peak).countHoldOffs b.moved).boundary =
      s.boundary := by
  have counted (t : State) : (t.countHoldOffs b.moved).plan = t.plan ∧ (t.countHoldOffs b.moved).boundary = t.boundary :=
    ⟨rfl, rfl⟩
  rw [(counted _).1, (counted _).2, guardWindow_frame]
  exact ⟨rfl, rfl⟩

/-- What the Balancer's decisions keep is kept by a window end. -/
theorem windowEnd_keeps {P : State → Prop}
    (same : ∀ {s t : State}, t.plan.plans = s.plan.plans → t.boundary = s.boundary → P s → P t)
    (balance : ∀ {s : State} {b : Boundary} (o : OpId), s.boundary = some b → P s → P (s.balance b.banks b.staged o))
    {s : State} (h : P s) : P s.windowEnd := by
  cases found : s.boundary with
  | none => rwa [windowEnd_of_none found]
  | some b =>
    have folded : ∀ (l : List OpId) (u : State), u.boundary = some b → P u →
        P (l.foldl (fun s o => s.balance b.banks b.staged o) u) ∧
          (l.foldl (fun s o => s.balance b.banks b.staged o) u).boundary = some b := by
      intro l
      induction l with
      | nil => exact fun u e hu => ⟨hu, e⟩
      | cons o os ih =>
        intro u e hu
        exact ih _ (by dsimp only; rw [balance_frame]; exact e) (balance o e hu)
    obtain ⟨plan, boundary⟩ := beforeBalance s b
    have closed := windowEnd_plan found
    have ended : s.windowEnd.boundary = s.boundary := by rw [windowEnd_frame]
    generalize ((s.closeWindow b).guardWindow b.banks (s.closeWindow b).meas.snap.peak).countHoldOffs b.moved = u
      at plan boundary closed
    obtain ⟨kept, still⟩ := folded allOps u (boundary.trans found) (same (congrArg PlanStore.plans plan) boundary h)
    exact same (congrArg PlanStore.plans closed) (ended.trans (found.trans still.symm)) kept

theorem cleanMatches_byPlans : KeptByPlans CleanMatches where
  same plans _ _ h := h.of_plans plans
  cold s := by
    have same : s.coldReset.plan = reset.plan := rfl
    have cold (o : OpId) : (reset.opPlan o).staged = (reset.opPlan o).active := by revert o; decide
    intro o _
    unfold opPlan
    rw [same]
    exact cold o
  switched s o h := (h.modPlan o (f := takeStaged) fun _ => rfl).of_plans rfl
  windowEnd _ h := windowEnd_keeps (P := CleanMatches) (fun plans _ h => h.of_plans plans) (fun o _ h => h.balance _ _ o) h
  copied s v copies _ := by
    intro o _
    unfold opPlan
    dsimp only
    rw [copies]
  viewed s h := h.of_plans rfl
  commanded {ch s t} _ c h := by
    cases c
    case linkSet x => exact h.of_plans (by rw [modRl_plan, applyOffered_frame, applyEnable_frame])
    case restart r _ _ => exact h.of_plans (by rw [restart_frame])
    case timing => exact h.of_plans (by rw [setTimebase_eq])
    case restore r _ => exact h.of_plans (by rw [restart_frame]; rfl)
    case define => exact h.of_plans (by split <;> rfl)
    case undefine => exact h.of_plans rfl
    case sector => exact h.modPlan _ nofun
    case zone => exact h.modPlan _ nofun
    case home => exact h.modPlan _ nofun
    case commit => exact h.modPlan _ nofun
    case revert => exact h.modPlan _ fun _ => rfl
    case accept o bal a _ => exact CleanMatches.stageMove (s := { s with bal := bal }) (h.of_plans rfl) o _ _ _
    case disarm o data =>
      have cancelled : (cancelArmed s o ch).CleanMatches := by
        unfold cancelArmed
        split
        · exact h.modPlan _ nofun
        · exact h.modPlan _ fun _ => rfl
        · exact h
      exact cancelled.of_plans (by rw [complete_eq])
    case unrequest => exact h.of_plans (by rw [complete_eq])
    case unpend => exact h.of_plans (by rw [complete_eq])
    all_goals exact h.of_plans rfl

/-! ## Well-formed banks -/

/-- Both banks of a plan are well formed, and their zone entries are those of a third bank, moves apart, where there is one. -/
def PlanFormed (p : OperatorPlan) (governed : Option Bank) : Prop :=
  (BankFormed p.active ∧ BankFormed p.staged) ∧ ∀ b, governed = some b → ∀ r : RemoteId,
    SameZone b.zones[r] p.active.zones[r] ∧ SameZone b.zones[r] p.staged.zones[r]

/-- The bank that governed the closing window, where the staged bank was CLEAN when the boundary was made. -/
def governed (s : State) (o : OpId) : Option Bank :=
  s.boundary.bind fun b => if b.staged[o] = .clean then some b.banks[o] else none

theorem banksFormed_iff (s : State) : s.BanksFormed ↔ ∀ o : OpId, PlanFormed (s.opPlan o) (s.governed o) := by
  have governs (o : OpId) (k : Bank) : s.governed o = some k ↔
      ∃ b, s.boundary = some b ∧ b.staged[o] = .clean ∧ b.banks[o] = k := by
    unfold governed
    rw [Option.bind_eq_some_iff]
    refine exists_congr fun b => and_congr_right fun _ => ?_
    split
    · next clean => exact ⟨fun e => ⟨clean, Option.some.inj e⟩, fun e => congrArg some e.2⟩
    · next dirty => exact ⟨nofun, fun e => absurd e.1 dirty⟩
  constructor
  · rintro ⟨formed, zones⟩ o
    refine ⟨formed o, fun k e r => ?_⟩
    obtain ⟨b, found, clean, rfl⟩ := (governs o k).mp e
    exact zones b found o clean r
  · intro h
    exact ⟨fun o => (h o).1, fun b found o clean r => (h o).2 _ ((governs o _).mpr ⟨b, found, clean, rfl⟩) r⟩

theorem governed_of_view {s t : State} (v : s.SameView t) {o : OpId} {k : Bank} (h : t.governed o = some k) :
    s.governed o = some k := by
  obtain ⟨b, found, rest⟩ := Option.bind_eq_some_iff.mp h
  obtain ⟨a, found', banks, staged⟩ := v b found
  refine Option.bind_eq_some_iff.mpr ⟨a, found', ?_⟩
  rwa [banks, staged]

theorem cold_isFormed : BankFormed Bank.cold := ⟨fun i => by simp [Bank.cold], fun r => by simp [Bank.cold]⟩

/-- An advice that holds moves a remote that is not pinned to its home or an alternate, in a CLEAN plan (R129). -/
theorem move_of_adviceHolds {s : State} {o : OpId} {a : Advice} (h : adviceHolds s o a = true) :
    (s.opPlan o).active.zones[a.remote].pinned = false ∧
      ((s.opPlan o).active.zones[a.remote].home = some a.toSector ∨
        a.toSector ∈ (s.opPlan o).active.zones[a.remote].alts) ∧ (s.opPlan o).state = .clean := by
  simp only [adviceHolds, Bool.and_eq_true, Bool.or_eq_true, decide_eq_true_eq, Bool.not_eq_true', List.contains_iff_mem] at h
  obtain ⟨⟨⟨⟨⟨⟨_, loose⟩, target⟩, _⟩, _⟩, clean⟩, _⟩ := h
  exact ⟨loose, target, clean⟩

namespace BanksFormed

variable {s t : State}

theorem of_same (h : s.BanksFormed) (plans : t.plan.plans = s.plan.plans) (view : s.SameView t) : t.BanksFormed := by
  rw [banksFormed_iff] at h ⊢
  intro o
  have same : t.opPlan o = s.opPlan o := by unfold opPlan; rw [plans]
  rw [same]
  exact ⟨(h o).1, fun k e => (h o).2 k (governed_of_view view e)⟩

theorem modPlan (h : s.BanksFormed) (o : OpId) {f : OperatorPlan → OperatorPlan}
    (plan : PlanFormed (s.opPlan o) (s.governed o) → PlanFormed (f (s.opPlan o)) (s.governed o)) :
    (s.modPlan o f).BanksFormed := by
  rw [banksFormed_iff] at h ⊢
  intro q
  have view : (s.modPlan o f).governed q = s.governed q := rfl
  rw [view]
  by_cases e : q = o
  · subst e
    rw [opPlan_modPlan_same]
    exact plan (h q)
  · rw [opPlan_modPlan_other _ _ e]
    exact h q

/-- Between boundaries, an edit that leaves the active bank and a well-formed staged bank. -/
theorem edit (h : s.BanksFormed) (ended : s.boundary = none) (o : OpId) {f : OperatorPlan → OperatorPlan}
    (active : (f (s.opPlan o)).active = (s.opPlan o).active)
    (staged : BankFormed (s.opPlan o).active → BankFormed (s.opPlan o).staged → BankFormed (f (s.opPlan o)).staged) :
    (s.modPlan o f).BanksFormed := by
  refine h.modPlan o fun ⟨⟨formed, formed'⟩, _⟩ => ⟨⟨active ▸ formed, staged formed formed'⟩, fun k e => ?_⟩
  unfold governed at e
  rw [ended] at e
  contradiction

/-- A target of a candidate is its home or, as it is not pinned, one of its alternates (R119, R120). -/
theorem target_of_findMove {b : Bank} {o : OpId} {hot t : SectorIx} {r : RemoteId}
    (found : s.findMove o b hot = some (r, t)) : b.zones[r].pinned = false ∧ (b.zones[r].home = some t ∨ t ∈ b.zones[r].alts) := by
  have byShare_mem (share : Vector Nat 24) (l : List RemoteId) : ∀ q, q ∈ byShare share l → q ∈ l := by
    have insert_mem (r : RemoteId) (l : List RemoteId) : ∀ q, q ∈ insertByShare share r l → q = r ∨ q ∈ l := by
      induction l with
      | nil => intro q h; simpa [insertByShare] using h
      | cons x xs ih =>
        intro q h
        unfold insertByShare at h
        split at h
        · simpa using h
        · rcases List.mem_cons.mp h with rfl | h
          · exact .inr List.mem_cons_self
          · exact (ih q h).imp_right (List.mem_cons_of_mem _)
    induction l with
    | nil => exact fun q h => h
    | cons x xs ih =>
      intro q h
      rcases insert_mem x _ q h with rfl | h
      · exact List.mem_cons_self
      · exact List.mem_cons_of_mem _ (ih q h)
  obtain ⟨q, mem, moves⟩ := List.exists_of_findSome?_eq_some found
  obtain ⟨target, finds, same⟩ := Option.map_eq_some_iff.mp moves
  cases same
  obtain ⟨_, candidate⟩ := List.mem_filter.mp (byShare_mem _ _ _ mem)
  have target := List.mem_of_find?_eq_some finds
  refine ⟨?_, ?_⟩
  · unfold isCandidate at candidate
    simp only [Bool.and_eq_true] at candidate
    simpa using candidate.1.1.1.1.1
  · obtain ⟨mem, _⟩ := List.mem_filter.mp target
    simpa using mem

theorem stageMove {origin : Origin} (h : s.BanksFormed) (o : OpId) (r : RemoteId) (t : SectorIx)
    (target : PlanFormed (s.opPlan o) (s.governed o) → (s.opPlan o).staged.zones[r].home = some t ∨
      ((s.opPlan o).staged.zones[r].pinned = false ∧ t ∈ (s.opPlan o).staged.zones[r].alts)) :
    (s.stageMove o r t origin).BanksFormed := by
  refine h.modPlan o fun formed => ⟨⟨formed.1.1, move_formed formed.1.2 (target formed)⟩, fun k e q => ?_⟩
  obtain ⟨active, staged⟩ := formed.2 k e q
  refine ⟨active, ?_⟩
  by_cases eq : q = r
  · subst eq
    have same : ((s.opPlan o).staged.zones.set q { (s.opPlan o).staged.zones[q] with cur := some t })[q] =
        { (s.opPlan o).staged.zones[q] with cur := some t } := by simp
    dsimp only
    rw [same]
    exact staged
  · have ne : r.val ≠ q.val := fun e => eq (Fin.ext e.symm)
    have other : ((s.opPlan o).staged.zones.set r { (s.opPlan o).staged.zones[r] with cur := some t })[q] =
        (s.opPlan o).staged.zones[q] := by simp [Vector.getElem_set_ne _ _ ne]
    dsimp only
    rw [other]
    exact staged

/-- The Balancer stages a move to a target of the bank that governed the closing window, whose zone entries the staged bank
still has, moves apart (R116, R119, R120). -/
theorem balance (h : s.BanksFormed) {b : Boundary} (found : s.boundary = some b) (o : OpId) :
    (s.balance b.banks b.staged o).BanksFormed := by
  have same {t : State} (plan : t.plan = s.plan) (boundary : t.boundary = s.boundary) : t.BanksFormed :=
    h.of_same (congrArg PlanStore.plans plan) (.of_eq boundary)
  have evaluated (clean : b.staged[o] = .clean) : (s.evaluate o b.banks[o]).BanksFormed := by
    have governs : s.governed o = some b.banks[o] := by
      unfold governed
      rw [found]
      exact if_pos clean
    unfold evaluate
    split
    · exact same rfl rfl
    · split
      · exact same rfl rfl
      · split
        · exact same rfl rfl
        · next r t moves =>
          split
          · obtain ⟨loose, target⟩ := target_of_findMove moves
            have staged : (s.stageMove o r t .balancer).BanksFormed := h.stageMove o r t fun formed => by
              obtain ⟨home, pinned, alts⟩ := (formed.2 _ governs r).2
              rw [← home, ← pinned, ← alts]
              exact target.imp_right fun mem => ⟨loose, mem⟩
            exact staged.of_same rfl (.of_eq rfl)
          · exact same (by rw [advise_frame]) (by rw [advise_frame])
  have deferred (x : BalancerOutcome) : (s.defer o x).BanksFormed := same rfl rfl
  unfold State.balance
  split
  · exact h
  · split
    · exact deferred _
    · split
      · exact deferred _
      · split
        · exact deferred _
        · next clean => exact evaluated (not_not.mp clean)

end BanksFormed

theorem sameZone_refl (z : Zone) : SameZone z z := ⟨rfl, rfl, rfl⟩

theorem banksFormed_byPlans : KeptByPlans fun s => s.CleanMatches ∧ s.BanksFormed where
  same plans _ view h := ⟨h.1.of_plans plans, h.2.of_same plans view⟩
  cold s := by
    refine ⟨cleanMatches_byPlans.cold s, ?_⟩
    have same : s.coldReset.plan = reset.plan := rfl
    have boundary : s.coldReset.boundary = none := rfl
    have cold (o : OpId) : (reset.opPlan o).active = .cold ∧ (reset.opPlan o).staged = .cold := by revert o; decide
    refine ⟨fun o => ?_, fun b found => absurd (boundary.symm.trans found) nofun⟩
    unfold opPlan
    rw [same]
    exact ⟨(cold o).1 ▸ cold_isFormed, (cold o).2 ▸ cold_isFormed⟩
  switched s o h := by
    refine ⟨cleanMatches_byPlans.switched s o h.1, ?_⟩
    refine (h.2.modPlan o (f := takeStaged) fun formed => ⟨⟨formed.1.2, formed.1.2⟩, fun k e r => ?_⟩).of_same rfl (.of_eq rfl)
    exact ⟨(formed.2 k e r).2, (formed.2 k e r).2⟩
  windowEnd s h := windowEnd_keeps (P := fun s => s.CleanMatches ∧ s.BanksFormed)
    (fun plans boundary h => ⟨h.1.of_plans plans, h.2.of_same plans (.of_eq boundary)⟩)
    (fun o found h => ⟨h.1.balance _ _ o, h.2.balance found o⟩) h
  copied s v copies h := by
    refine ⟨cleanMatches_byPlans.copied s v copies h.1, (banksFormed_iff _).mpr fun o => ?_⟩
    have formed := (banksFormed_iff s).mp h.2 o
    have plan : State.opPlan { s with plan := { s.plan with plans := v } } o =
        { s.opPlan o with staged := (s.opPlan o).active, state := .clean } := copies o
    rw [plan]
    exact ⟨⟨formed.1.1, formed.1.1⟩, fun k e r => ⟨(formed.2 k e r).1, (formed.2 k e r).1⟩⟩
  viewed s h := by
    refine ⟨h.1.of_plans rfl, h.2.1, fun b found o clean r => ?_⟩
    cases found
    have banks : s.closingView.banks[o] = (s.opPlan o).active := getElem_tab _ o
    have state : s.closingView.staged[o] = (s.opPlan o).state := getElem_tab _ o
    have matched := h.1 o (state ▸ clean)
    rw [banks]
    refine ⟨sameZone_refl _, ?_⟩
    have staged : State.opPlan { s with boundary := some s.closingView } o = s.opPlan o := rfl
    rw [staged, matched]
    exact sameZone_refl _
  commanded {ch s t} ended c h := by
    refine ⟨cleanMatches_byPlans.commanded ended c h.1, ?_⟩
    have boundary := boundary_of_commanded c
    obtain ⟨clean, formed⟩ := h
    have same {u : State} (plan : u.plan.plans = s.plan.plans) (boundary : u.boundary = s.boundary) : u.BanksFormed :=
      formed.of_same plan (.of_eq boundary)
    cases c
    case linkSet x => exact same (by rw [modRl_plan, applyOffered_frame, applyEnable_frame]) boundary
    case restart r _ _ => exact same (by rw [restart_frame]) boundary
    case timing => exact same (by rw [setTimebase_eq]) boundary
    case restore r _ => exact same (by rw [restart_frame]; rfl) boundary
    case define => exact same (by split <;> rfl) boundary
    case undefine => exact same rfl boundary
    case sector x k low few _ _ => exact formed.edit ended _ rfl fun _ staged => editSector_formed staged low few
    case zone x few fit => exact formed.edit ended _ rfl fun _ staged => editZone_formed staged few fit
    case home o => exact formed.edit ended _ rfl fun _ staged => editHome_formed staged
    case commit o origin => exact formed.edit ended _ rfl fun _ staged => staged
    case revert o => exact formed.edit ended _ rfl fun active _ => active
    case accept o bal a holds =>
      obtain ⟨loose, target, is⟩ := move_of_adviceHolds holds
      refine BanksFormed.stageMove (s := { s with bal := bal }) (formed.of_same rfl (.of_eq rfl)) o _ _ fun _ => ?_
      have staged : State.opPlan { s with bal := bal } o = s.opPlan o := rfl
      rw [staged, clean o is]
      exact target.imp_right fun mem => ⟨loose, mem⟩
    case disarm o data =>
      have cancelled : (cancelArmed s o ch).BanksFormed := by
        unfold cancelArmed
        split
        · exact formed.edit ended _ rfl fun _ staged => staged
        · exact formed.edit ended _ rfl fun active _ => active
        · exact formed
      refine cancelled.of_same (by rw [complete_eq]) (.of_eq ?_)
      rw [complete_eq]
    case unrequest => exact same (by rw [complete_eq]) boundary
    case unpend => exact same (by rw [complete_eq]) boundary
    all_goals exact same rfl boundary

end Sys2Proof.Machine.State

namespace Sys2Proof.Proofs

open Sys2Proof.Machine Sys2Proof.Machine.State

/-- Settles O56: a step that makes a staged bank CLEAN copies one bank to the other, and every edit and move writes a
well-formed bank. -/
theorem cleanBankInvariant : Obligations.CleanBankInvariant :=
  ⟨fun _ _ h e => cleanMatches_byPlans.parts.step h e, fun _ _ h k e => (banksFormed_byPlans.parts.step ⟨h, k⟩ e).2⟩

end Sys2Proof.Proofs
end

section
/-! SUPPORT. Two invariants that the statement on placement names first: who owns a listed carrier, and the formats of links
(R7, R8, R33, R38). -/

namespace Sys2Proof.Machine.State

/-! ## Listed carriers are owned by the bank's operator -/

/-- Every carrier that a bank lists is DEFINED and owned by the bank's operator (R33, R38). -/
def ListsOwned (s : State) : Prop := ∀ (o : OpId) (i : SectorIx) (c : CarrierId),
  c ∈ (s.opPlan o).active.sectors[i].carriers ∨ c ∈ (s.opPlan o).staged.sectors[i].carriers → s.plan.owner c = some o

/-- A bank lists carriers of an operator alone. -/
def OwnedBy (s : State) (o : OpId) (b : Bank) : Prop :=
  ∀ (i : SectorIx) (c : CarrierId), c ∈ b.sectors[i].carriers → s.plan.owner c = some o

theorem listsOwned_iff (s : State) :
    s.ListsOwned ↔ ∀ o : OpId, s.OwnedBy o (s.opPlan o).active ∧ s.OwnedBy o (s.opPlan o).staged :=
  ⟨fun h o => ⟨fun i c mem => h o i c (.inl mem), fun i c mem => h o i c (.inr mem)⟩,
    fun h o i c mem => mem.elim ((h o).1 i c) ((h o).2 i c)⟩

namespace ListsOwned

variable {s t : State}

theorem of_same (h : s.ListsOwned) (plans : t.plan.plans = s.plan.plans)
    (owners : ∀ (c : CarrierId) (o : OpId), s.plan.owner c = some o → t.plan.owner c = some o) : t.ListsOwned := by
  intro o i c mem
  unfold opPlan at mem
  rw [plans] at mem
  exact owners c o (h o i c mem)

theorem modPlan (h : s.ListsOwned) (o : OpId) {f : OperatorPlan → OperatorPlan}
    (kept : s.OwnedBy o (s.opPlan o).active → s.OwnedBy o (s.opPlan o).staged →
      s.OwnedBy o (f (s.opPlan o)).active ∧ s.OwnedBy o (f (s.opPlan o)).staged) : (s.modPlan o f).ListsOwned := by
  rw [listsOwned_iff] at h ⊢
  intro q
  by_cases e : q = o
  · subst e
    rw [opPlan_modPlan_same]
    exact kept (h q).1 (h q).2
  · rw [opPlan_modPlan_other _ _ e]
    exact h q

theorem stageMove (h : s.ListsOwned) (o : OpId) (r : RemoteId) (t : SectorIx) (x : Origin) :
    (s.stageMove o r t x).ListsOwned := h.modPlan o fun active staged => ⟨active, staged⟩

/-- A carrier in no sector of its operator's banks is in no bank. -/
theorem not_listed (h : s.ListsOwned) {c : CarrierId} (unlisted : isListed s c = false) (o : OpId) (i : SectorIx) :
    c ∉ (s.opPlan o).active.sectors[i].carriers ∧ c ∉ (s.opPlan o).staged.sectors[i].carriers := by
  have lists {b : Bank} (mem : c ∈ b.sectors[i].carriers) : b.lists c = true := by
    unfold Bank.lists
    exact List.any_eq_true.mpr ⟨i, List.mem_finRange i, List.contains_iff_mem.mpr mem⟩
  have apart (mem : c ∈ (s.opPlan o).active.sectors[i].carriers ∨ c ∈ (s.opPlan o).staged.sectors[i].carriers) : False := by
    unfold isListed at unlisted
    rw [h o i c mem] at unlisted
    obtain ⟨active, staged⟩ := Bool.or_eq_false_iff.mp unlisted
    rcases mem with mem | mem
    · exact absurd (lists mem) (by simp [active])
    · exact absurd (lists mem) (by simp [staged])
  exact ⟨fun mem => apart (.inl mem), fun mem => apart (.inr mem)⟩

theorem carrier_modCarrier_other (s : State) {c q : CarrierId} (f : CarrierRecord → CarrierRecord) (h : q ≠ c) :
    (s.modCarrier c f).plan.carriers[q] = s.plan.carriers[q] := by
  have ne : c.val ≠ q.val := fun e => h (Fin.ext e.symm)
  simp [modCarrier, Vector.getElem_set_ne _ _ ne]

/-- A change of a carrier that no bank lists, or that keeps its place, keeps the owners. -/
theorem modCarrier (h : s.ListsOwned) (c : CarrierId) {f : CarrierRecord → CarrierRecord}
    (kept : isListed s c = true → (f (s.carrier c)).place = (s.carrier c).place) : (s.modCarrier c f).ListsOwned := by
  intro o i q mem
  have owner := h o i q mem
  by_cases e : q = c
  · subst e
    cases listed : isListed s q with
    | true =>
      have same : (s.modCarrier q f).plan.carriers[q] = f (s.carrier q) := by simp [State.modCarrier, carrier]
      unfold PlanStore.owner
      rw [same, kept listed]
      exact owner
    | false =>
      obtain ⟨active, staged⟩ := h.not_listed listed o i
      exact absurd mem (not_or.mpr ⟨active, staged⟩)
  · unfold PlanStore.owner
    rw [carrier_modCarrier_other s f e]
    exact owner

theorem balance (h : s.ListsOwned) (banks : Vector Bank 4) (staged : Vector StagedState 4) (o : OpId) :
    (s.balance banks staged o).ListsOwned := by
  have same {t : State} (plan : t.plan = s.plan) : t.ListsOwned :=
    h.of_same (congrArg PlanStore.plans plan) fun c q owner => by rw [plan]; exact owner
  have evaluated (b : Bank) : (s.evaluate o b).ListsOwned := by
    unfold evaluate
    split
    · exact same rfl
    · split
      · exact same rfl
      · split
        · exact same rfl
        · split
          · exact (h.stageMove o _ _ _).of_same rfl fun _ _ owner => owner
          · exact same (by rw [advise_frame])
  have deferred (x : BalancerOutcome) : (s.defer o x).ListsOwned := same rfl
  unfold State.balance
  split
  · exact h
  · split
    · exact deferred _
    · split
      · exact deferred _
      · split
        · exact deferred _
        · exact evaluated _

end ListsOwned

theorem windowEnd_carriers (s : State) : s.windowEnd.plan.carriers = s.plan.carriers := by rw [windowEnd_frame]

theorem listsOwned_byPlans : KeptByPlans ListsOwned where
  same plans places _ h := h.of_same plans fun c o owner => by
    unfold PlanStore.owner at owner ⊢
    rwa [places]
  cold s := by
    have same : s.coldReset.plan = reset.plan := rfl
    have cold (o : OpId) : (reset.opPlan o).active = .cold ∧ (reset.opPlan o).staged = .cold := by revert o; decide
    have empty (i : SectorIx) (c : CarrierId) : c ∉ Bank.cold.sectors[i].carriers := by simp [Bank.cold]
    intro o i c mem
    unfold opPlan at mem
    rw [same] at mem
    obtain ⟨active, staged⟩ := cold o
    unfold opPlan at active staged
    rw [active, staged] at mem
    exact absurd mem (not_or.mpr ⟨empty i c, empty i c⟩)
  switched s o h := (h.modPlan o (f := takeStaged) fun _ staged => ⟨staged, staged⟩).of_same rfl fun _ _ owner => owner
  windowEnd s h := by
    cases found : s.boundary with
    | none => rwa [windowEnd_of_none found]
    | some b =>
      have balanced := foldl_invariant (fun t o (ht : t.ListsOwned) => ht.balance b.banks b.staged o) allOps
        (h.of_same (congrArg PlanStore.plans (beforeBalance s b).1) fun c o owner => by
          rw [(beforeBalance s b).1]; exact owner)
      have plan := windowEnd_plan found
      exact balanced.of_same (congrArg PlanStore.plans plan) fun c o owner => by rw [plan]; exact owner
  copied s v copies h := by
    rw [listsOwned_iff] at h ⊢
    intro o
    have plan : State.opPlan { s with plan := { s.plan with plans := v } } o =
        { s.opPlan o with staged := (s.opPlan o).active, state := .clean } := copies o
    rw [plan]
    exact ⟨(h o).1, (h o).1⟩
  viewed s h := h.of_same rfl fun _ _ owner => owner
  commanded {ch s t} _ c h := by
    have same {u : State} (plan : u.plan = s.plan) : u.ListsOwned :=
      h.of_same (congrArg PlanStore.plans plan) fun c q owner => by rw [plan]; exact owner
    cases c
    case linkSet x => exact same (by rw [modRl_plan, applyOffered_frame, applyEnable_frame])
    case restart r _ _ => exact same (by rw [restart_frame])
    case timing => exact same (by rw [setTimebase_eq])
    case restore r _ => exact same (by rw [restart_frame]; rfl)
    case define x place priority levels kept =>
      have defined {u : State} (plan : u.plan = s.plan) (hu : u.ListsOwned) : (u.modCarrier x.carrier fun k =>
          { k with place := some place, priority := priority, eventOnly := x.eventOnly, set := levels }).ListsOwned := by
        refine hu.modCarrier x.carrier fun listed => ?_
        have listed' : isListed s x.carrier = true := by
          unfold isListed opPlan at listed ⊢
          rwa [plan] at listed
        unfold carrier
        rw [plan]
        exact (kept listed').1.symm
      split
      · exact defined rfl h
      · exact defined rfl (same rfl)
    case undefine c unlisted _ =>
      exact ListsOwned.modCarrier (s := s.dropOutputs c) (same rfl) c fun listed => by
        have listed' : isListed s c = true := listed
        rw [unlisted] at listed'
        contradiction
    case sector x k low few _ owned =>
      refine h.modPlan _ fun active staged => ⟨active, fun i c mem => ?_⟩
      rw [mem_sector_editSector] at mem
      split at mem
      · exact owned c mem
      · exact staged i c mem.1
    case zone => exact h.modPlan _ fun active staged => ⟨active, staged⟩
    case home o =>
      refine h.modPlan _ fun active staged => ⟨active, ?_⟩
      have sectors (b : Bank) : (editHome b).sectors = b.sectors := by dsimp only [editHome]
      unfold OwnedBy
      dsimp only
      rw [sectors]
      exact staged
    case commit => exact h.modPlan _ fun active staged => ⟨active, staged⟩
    case revert => exact h.modPlan _ fun active _ => ⟨active, active⟩
    case accept o bal a _ => exact ListsOwned.stageMove (s := { s with bal := bal }) (same rfl) o _ _ _
    case disarm o data =>
      have cancelled : (cancelArmed s o ch).ListsOwned := by
        unfold cancelArmed
        split
        · exact h.modPlan _ fun active staged => ⟨active, staged⟩
        · exact h.modPlan _ fun active _ => ⟨active, active⟩
        · exact h
      rw [complete_eq]
      exact cancelled
    case unrequest => exact same (by rw [complete_eq])
    case unpend => exact same (by rw [complete_eq])
    all_goals exact same rfl

/-! ## Links have the formats that their states need -/

/-- A link in UP has a format, and one in ORDERED or CONFIRMED a chosen one (R7, R8). -/
def LinkFormed (l : RemoteLink) : Prop :=
  (l.state = .up → l.format.isSome) ∧
    (l.state = .negotiate → l.phase = .ordered ∨ l.phase = .confirmed → l.chosen.isSome)

theorem LinkFormed.of_state {l : RemoteLink} (up : l.state ≠ .up) (negotiate : l.state ≠ .negotiate) : LinkFormed l :=
  ⟨fun h => absurd h up, fun h => absurd h negotiate⟩

theorem LinkFormed.of_heard {l m : RemoteLink} (h : LinkFormed l) (heard : Heard l m) : LinkFormed m := by
  rcases heard.state with same | ⟨_, is⟩
  · refine ⟨fun up => ?_, fun negotiating needs => ?_⟩
    · rw [heard.format]
      exact h.1 (same ▸ up)
    · rcases heard.chosen needs with some | ⟨needed, chosen⟩
      · exact some
      · rw [chosen]
        exact h.2 (same ▸ negotiating) needed
  · exact .of_state (by rw [is]; decide) (by rw [is]; decide)

/-- Every link has the format that its state needs. -/
def LinksFormed (s : State) : Prop := ∀ r : RemoteId, LinkFormed s.rl[r]

theorem plansAndLinksFormed_iff (s : State) : s.PlansAndLinksFormed ↔ s.ListsOwned ∧ s.LinksFormed := Iff.rfl

namespace LinksFormed

variable {s t : State} {r : RemoteId}

theorem of_rl (h : s.LinksFormed) (same : t.rl = s.rl) : t.LinksFormed := by
  unfold LinksFormed
  rwa [same]

theorem of_heard (h : s.LinksFormed) (heard : s.AllHeard t) : t.LinksFormed := fun q => (h q).of_heard (heard q)

theorem of_link (h : s.LinksFormed) (r : RemoteId) (link : LinkFormed t.rl[r])
    (other : ∀ q : RemoteId, q ≠ r → t.rl[q] = s.rl[q]) : t.LinksFormed := fun q => by
  by_cases e : q = r
  · exact e ▸ link
  · rw [other q e]
    exact h q

theorem modRl (h : s.LinksFormed) (r : RemoteId) {f : RemoteLink → RemoteLink}
    (kept : LinkFormed s.rl[r] → LinkFormed (f s.rl[r])) : (s.modRl r f).LinksFormed :=
  h.of_link r (by rw [modRl_same]; exact kept (h r)) fun _ ne => modRl_other _ _ ne

theorem restart (h : s.LinksFormed) (r : RemoteId) : (s.restart r).LinksFormed := by
  have state := restartInto_state s r .seek
  exact h.of_link r (.of_state (by rw [State.restart, state]; decide) (by rw [State.restart, state]; decide))
    fun _ ne => restartInto_rl_other s .seek ne

theorem disable (h : s.LinksFormed) (r : RemoteId) : (s.disable r).LinksFormed := by
  have state : (s.disable r).rl[r].state = .off := by
    have moved := moveLink_state s r .off
    unfold State.disable
    rw [clear_rl, closeGates_rl, modRl_same]
    exact moved
  refine h.of_link r (.of_state (by rw [state]; decide) (by rw [state]; decide)) fun q ne => ?_
  unfold State.disable
  rw [clear_rl, closeGates_rl, modRl_other _ _ ne, moveLink_rl_other _ _ ne]

theorem failNegotiation (h : s.LinksFormed) (r : RemoteId) : (s.failNegotiation r).LinksFormed :=
  restart (h.modRl r (f := fun l => { l with negFail := satInc max32 l.negFail }) fun l => l) r

theorem linkEntersUp (h : s.LinksFormed) (r : RemoteId) : (s.linkEntersUp r).LinksFormed := by
  unfold State.linkEntersUp
  split
  · next enters =>
    dsimp only
    have up := h.modRl r (f := fun l => { l with
        state := .up, phase := .none, format := l.chosen, chosen := none, flags := Vector.replicate 4 ⟨false, 0⟩
        echoRun := 0, badRun := 0 }) fun l => ⟨fun _ => l.2 enters.1 (.inr enters.2), nofun⟩
    have ended := up.modRl r (f := fun l => { l with lostCond := false }) fun l => l
    exact ended.of_rl (placementChanged_rl _)
  · exact h

theorem linkLostEntry (h : s.LinksFormed) (r : RemoteId) : (s.linkLostEntry r).LinksFormed := by
  unfold State.linkLostEntry
  split
  · dsimp only
    have left : (s.leaveUp r .lost).LinksFormed := by
      have lost : (s.modRl r fun l => { leftUp l with state := .lost }).LinksFormed := h.modRl r fun _ => .of_state nofun nofun
      exact lost.of_rl (leaveUp_rl ..)
    have counted := left.modRl r (f := fun l => { l with lostEntries := satInc max32 l.lostEntries, holdTimer := 0 }) fun l => l
    exact counted.modRl r (f := fun l => { l with lostCond := true }) fun l => l
  · exact h

theorem of_commanded {ch : Channel} (h : s.LinksFormed) (c : Commanded ch s t) : t.LinksFormed := by
  cases c
  case linkSet x =>
    have enabled : (Machine.applyEnable s x).LinksFormed := by
      have set := h.modRl x.remote (f := fun l => { l with enable := x.enable }) fun l => l
      have unlisted {t : State} (ht : t.LinksFormed) (r : RemoteId) : (t.unlist r).LinksFormed := ht
      unfold Machine.applyEnable
      dsimp only
      split
      · exact ite_keeps (set.restart _) set
      · exact ite_keeps set ((unlisted set _).disable _)
    have offered {u : State} (hu : u.LinksFormed) : (Machine.applyOffered u x).LinksFormed := by
      have set := hu.modRl x.remote (f := fun l => { l with offered := x.offered }) fun l => l
      unfold Machine.applyOffered
      exact ite_keeps (set.restart _) set
    exact (offered enabled).modRl x.remote fun l => l
  case restart r _ _ => exact h.restart r
  case timing => exact h.of_rl (by rw [setTimebase_eq])
  case restore r _ => exact restart (s := s.unlist r) h r
  case define => exact h.of_rl (by split <;> rfl)
  case latch r => exact h.modRl r fun l => l
  case disarm => exact h.of_rl (by rw [complete_eq, cancelArmed_frame])
  case unrequest => exact h.of_rl (by rw [complete_eq])
  case unpend => exact h.of_rl (by rw [complete_eq])
  all_goals exact h

theorem makeBoundary (h : s.LinksFormed) (cut : Bool) : (s.makeBoundary cut).LinksFormed := by
  intro r
  have ticked {l : RemoteLink} (formed : LinkFormed l) : LinkFormed l.tick := by
    unfold RemoteLink.tick
    split
    · split <;> exact formed
    · exact formed
    · exact formed
  have ended {l : RemoteLink} (n : Nat) (formed : LinkFormed l) : LinkFormed (l.superframeEnds n) := formed
  have missed {l : RemoteLink} (n : Nat) (formed : LinkFormed l) : LinkFormed { l with missing := n } := formed
  rw [makeBoundary_rl]
  exact ended _ (ticked (missed _ (h r)))

end LinksFormed

theorem linksFormed_kept : KeptByParts LinksFormed where
  cold s _ := by
    have same : s.coldReset.rl = reset.rl := rfl
    have cold (r : RemoteId) : reset.rl[r].state = .seek := by revert r; decide
    intro r
    rw [same]
    exact .of_state (by rw [cold]; decide) (by rw [cold]; decide)
  queue _ _ h := h
  due _ _ h := h
  assertPin _ h := h
  endBoundary _ _ h := h
  settleBoundary s h := h.of_rl (by rw [settleBoundary_frame])
  levelFieldTakesEffect s c h := h.of_rl (by rw [levelFieldTakesEffect_frame])
  linkSettingsTakeEffect s r h := by
    rw [linkSettingsTakeEffect_frame]
    exact h.modRl r (f := fun l => { l with mEff := l.m, pmaxEff := l.pmax }) fun l => l
  seekRunComplete s r h := by
    unfold seekRunComplete
    exact ite_keeps (h.modRl r fun _ => ⟨nofun, fun _ => by rintro (h | h) <;> cases h⟩) h
  farFlagChange s r i h := by
    have changed := h.modRl r (f := fun l => { l with flags := l.flags.set i s.rl[r].flags[i].change }) fun l => l
    unfold farFlagChange
    exact ite_keeps (ite_keeps changed changed) h
  echoFailure _ r h := by
    unfold echoFailure
    exact ite_keeps (h.restart r) h
  negotiationTimeout _ r h := by
    unfold negotiationTimeout
    exact ite_keeps (h.failNegotiation r) h
  negotiateAlignmentLoss _ r h := by
    unfold negotiateAlignmentLoss
    exact ite_keeps (h.failNegotiation r) h
  linkEntersUp _ r h := h.linkEntersUp r
  linkLostEntry _ r h := h.linkLostEntry r
  lostHoldEnd _ r h := by
    unfold lostHoldEnd
    exact ite_keeps (h.restart r) h
  linkSeekToUp s l h := h.of_rl (by rw [linkSeekToUp_frame])
  linkUpToLost s l h := h.of_rl (by rw [linkUpToLost_frame])
  linkLostHoldEnd s l h := h.of_rl (by rw [linkLostHoldEnd_frame])
  lock _ h := h
  expireGate _ _ _ h := h
  windowEnd s h := h.of_rl (by rw [windowEnd_frame])
  guardStepDown s r h := h.of_rl (by rw [guardStepDown_frame])
  autoQuietEntry s h := h.of_rl (by rw [autoQuietEntry_frame])
  switchover s o h := h.of_rl (by rw [switchover_frame])
  hubModeDecision s h := h.of_rl (by rw [hubModeDecision_frame])
  pendingIsolationApply s h := by
    unfold pendingIsolationApply
    split
    · exact h
    · next p _ =>
      dsimp only
      split
      · exact h.of_rl (by rw [complete_eq])
      · have set : State.LinksFormed { s with mode := { s.mode with pendingIso := none } } := h
        have isolated : (State.beginIsolation { s with mode := { s.mode with pendingIso := none } } p).LinksFormed := by
          have state := restartInto_state { s with mode := { s.mode with pendingIso := none } } p.remote .isolated
          refine set.of_link p.remote (.of_state ?_ ?_) fun q ne => restartInto_rl_other _ _ ne
          · unfold beginIsolation
            dsimp only at state ⊢
            rw [state]
            decide
          · unfold beginIsolation
            dsimp only at state ⊢
            rw [state]
            decide
        exact isolated.of_rl (by rw [complete_eq])
  isolationTimerExpiry s r h := by
    unfold isolationTimerExpiry
    exact ite_keeps (LinksFormed.restart (s := s.unlist r) h r) h
  warmResetApplied s h := by
    have record (r : RemoteId) : s.warmBlocks.rl[r] = warmRemote s.rl[r] := getElem_tab _ r
    rw [warmResetApplied_frame]
    intro r
    dsimp only
    rw [record]
    exact h r
  alertPlacement s h := h.of_rl (by rw [alertPlacement_frame])
  request s x request _ h := by
    obtain ⟨code, scope, body, ch, tag, ps, own, e⟩ := effect_of_requestPhase request
    rw [e]
    exact request_keeps (fun _ _ h => h) h fun c => h.of_commanded (own.commanded ps)
  makeBoundary _ cut h := h.makeBoundary cut
  startFrame s h := by
    intro r
    rw [startFrame_rl]
    exact h r
  remoteFrame s r f h := h.of_heard (.remoteFrame s r f)
  remoteBad s r h := h.of_heard (.remoteBad s r)
  operatorFrame s o f h := h.of_rl (by rw [frame_of_restOfTerms (operatorFrame_restOfTerms s o f)])
  trunkFrame s f h := h.of_rl (by rw [frame_of_restOfTerms (trunkFrame_restOfTerms s f)])
  termBad s l h := h.of_rl (by rw [frame_of_restOfTerms (termBad_restOfTerms s l)])
  deadline s n h := h.of_heard (.settling (deadline_restOfSettling s n))

end Sys2Proof.Machine.State
end

section
/-! SUPPORT. What a placement record and the conditions of the records depend on (R53 to R57, R63, R67). -/

namespace Sys2Proof.Machine

/-! ## A record depends on the carriers that are called for -/

/-- Two carrier records agree on what routing and shedding read. -/
def SameIdentity (k k' : CarrierRecord) : Prop := k'.place = k.place ∧ k'.eventOnly = k.eventOnly ∧ k'.priority = k.priority

/-- Two carrier records agree on the values in effect that power and scaling read. -/
def SameLevels (k k' : CarrierRecord) : Prop := k'.eff.power = k.eff.power ∧ k'.eff.mdl = k.eff.mdl

theorem SameIdentity.refl (k : CarrierRecord) : SameIdentity k k := ⟨rfl, rfl, rfl⟩

theorem SameLevels.refl (k : CarrierRecord) : SameLevels k k := ⟨rfl, rfl⟩

namespace PlanStore

variable {ps qs : PlanStore} {mode : HubMode} {f : Format}

theorem suspended_congr {c : CarrierId} (h : SameIdentity ps.carriers[c] qs.carriers[c]) :
    qs.suspended mode c = ps.suspended mode c := by
  obtain ⟨place, eventOnly, _⟩ := h
  unfold suspended
  rw [place, eventOnly]

theorem width_congr {c : CarrierId} (h : SameIdentity ps.carriers[c] qs.carriers[c]) : qs.width c = ps.width c := by
  unfold width
  rw [h.1]

theorem route_congr {calls : List (List CarrierId)}
    (same : ∀ l ∈ calls, ∀ c ∈ l, SameIdentity ps.carriers[c] qs.carriers[c]) : qs.route mode calls = ps.route mode calls := by
  unfold route
  refine List.filter_congr fun c _ => ?_
  cases called : calls.any fun l => l.contains c with
  | false => rfl
  | true =>
    obtain ⟨l, mem, holds⟩ := List.any_eq_true.mp called
    rw [suspended_congr (same l mem c (List.contains_iff_mem.mp holds))]

variable {cs : List CarrierId}

theorem units_congr (same : ∀ c ∈ cs, SameIdentity ps.carriers[c] qs.carriers[c]) : qs.units f cs = ps.units f cs := by
  unfold units
  rw [List.map_congr_left fun c mem => by rw [width_congr (same c mem)]]

theorem shedBefore_congr {a b : CarrierId} (ha : SameIdentity ps.carriers[a] qs.carriers[a])
    (hb : SameIdentity ps.carriers[b] qs.carriers[b]) : qs.shedBefore a b = ps.shedBefore a b := by
  unfold shedBefore
  rw [ha.2.2, hb.2.2]

theorem shedNext_congr (same : ∀ c ∈ cs, SameIdentity ps.carriers[c] qs.carriers[c]) : qs.shedNext cs = ps.shedNext cs := by
  induction cs with
  | nil => rfl
  | cons c cs ih =>
    have rest := ih fun d mem => same d (List.mem_cons_of_mem _ mem)
    unfold shedNext
    rw [rest]
    cases next : ps.shedNext cs with
    | none => rfl
    | some d =>
      obtain ⟨mem, _⟩ := shedNext_spec next
      dsimp only
      rw [shedBefore_congr (same c List.mem_cons_self) (same d (List.mem_cons_of_mem _ mem))]

theorem shedTo_congr (n : Nat) (same : ∀ c ∈ cs, SameIdentity ps.carriers[c] qs.carriers[c]) :
    qs.shedTo f n cs = ps.shedTo f n cs := by
  induction n generalizing cs with
  | zero => rfl
  | succ n ih =>
    unfold shedTo
    rw [units_congr same, shedNext_congr same]
    split
    · rfl
    · split
      · rfl
      · rw [ih fun d mem => same d (List.mem_of_mem_erase mem)]

/-- The record depends on the carriers that the calls list, and on the levels of the routed ones alone. -/
theorem recordFor_congr {pmax : Nat} {calls : List (List CarrierId)} {sleep : Bool}
    (same : ∀ l ∈ calls, ∀ c ∈ l, SameIdentity ps.carriers[c] qs.carriers[c])
    (levels : ∀ c ∈ ps.route mode calls, SameLevels ps.carriers[c] qs.carriers[c]) :
    qs.recordFor mode f pmax calls sleep = ps.recordFor mode f pmax calls sleep := by
  have route : qs.route mode calls = ps.route mode calls := route_congr same
  have routed : ∀ c ∈ ps.route mode calls, SameIdentity ps.carriers[c] qs.carriers[c] := fun c mem => by
    obtain ⟨⟨l, call, mem⟩, _⟩ := mem_route_iff.mp mem
    exact same l call c mem
  have sheds := shedTo_congr (f := f) (ps.route mode calls).length routed
  have placed : (ps.shedTo f (ps.route mode calls).length (ps.route mode calls)).1.Sublist (ps.route mode calls) :=
    (shedTo_sheds ps f le_rfl).sublist
  have power : qs.power (ps.shedTo f (ps.route mode calls).length (ps.route mode calls)).1 =
      ps.power (ps.shedTo f (ps.route mode calls).length (ps.route mode calls)).1 := by
    unfold PlanStore.power
    rw [List.map_congr_left fun c mem => (levels c (placed.subset mem)).1]
  unfold recordFor
  rw [route]
  dsimp only
  rw [sheds, units_congr routed, units_congr fun c mem => routed c (placed.subset mem), power,
    List.map_congr_left fun c mem => by rw [(levels c (placed.subset mem)).2]]

end PlanStore

namespace State

variable {s t : State}

theorem derive_congr {r : RemoteId} (format : t.upFormat r = s.upFormat r) (limit : t.rl[r].pmaxEff = s.rl[r].pmaxEff)
    (mode : t.mode.mode = s.mode.mode) (sleep : (t.record r).sleep = (s.record r).sleep)
    (calls : t.plan.activeCalls r = s.plan.activeCalls r)
    (same : ∀ l ∈ s.plan.activeCalls r, ∀ c ∈ l, SameIdentity s.plan.carriers[c] t.plan.carriers[c])
    (levels : ∀ c ∈ s.plan.route s.mode.mode (s.plan.activeCalls r), SameLevels s.plan.carriers[c] t.plan.carriers[c]) :
    t.derive r = s.derive r := by
  unfold derive
  rw [format, limit, mode, sleep, calls]
  split
  · rfl
  · exact PlanStore.recordFor_congr same levels

/-- Two states give every derivation the same inputs (R57). -/
structure SameInputs (s t : State) : Prop where
  carriers : t.plan.carriers = s.plan.carriers
  active : ∀ o : OpId, (t.opPlan o).active = (s.opPlan o).active
  mode : t.mode.mode = s.mode.mode
  format : ∀ r : RemoteId, t.upFormat r = s.upFormat r
  limit : ∀ r : RemoteId, t.rl[r].pmaxEff = s.rl[r].pmaxEff

theorem activeCalls_congr (active : ∀ o : OpId, (t.opPlan o).active = (s.opPlan o).active) (r : RemoteId) :
    t.plan.activeCalls r = s.plan.activeCalls r :=
  List.map_congr_left fun o _ => congrArg (·.calls r) (active o)

theorem SameInputs.derive (h : s.SameInputs t) {r : RemoteId} (sleep : (t.record r).sleep = (s.record r).sleep) :
    t.derive r = s.derive r :=
  derive_congr (h.format r) (h.limit r) h.mode sleep (activeCalls_congr h.active r)
    (fun _ _ c _ => by rw [h.carriers]; exact .refl _) fun c _ => by rw [h.carriers]; exact .refl _

theorem SameInputs.of_eq (plan : t.plan = s.plan) (mode : t.mode.mode = s.mode.mode) (rl : t.rl = s.rl) : s.SameInputs t :=
  ⟨by rw [plan], fun o => by unfold opPlan; rw [plan], mode, fun r => by unfold upFormat; rw [rl], fun r => by rw [rl]⟩

/-! ## Records -/

/-- Every placement record is the one that the inputs in force derive (R57). -/
def RecordsDerived (s : State) : Prop := ∀ r : RemoteId, s.record r = s.derive r

theorem RecordsDerived.of_same (h : s.RecordsDerived) (inputs : s.SameInputs t)
    (records : t.place.records = s.place.records) : t.RecordsDerived := fun r => by
  have same : t.record r = s.record r := by unfold record; rw [records]
  rw [same, inputs.derive (by rw [same])]
  exact h r

theorem derive_recompute_same (s : State) (r : RemoteId) : (s.recompute r).derive r = s.derive r := by
  have record : (s.recompute r).record r = s.derive r := setRecord_same s r _
  have format : (s.recompute r).upFormat r = s.upFormat r := rfl
  unfold derive
  rw [format, record]
  unfold derive
  cases s.upFormat r with
  | none => rfl
  | some f => rfl

theorem derive_recompute_other (s : State) {r q : RemoteId} (h : q ≠ r) : (s.recompute r).derive q = s.derive q :=
  SameInputs.derive (s := s) (t := s.recompute r) (SameInputs.of_eq rfl rfl rfl) (by rw [recompute_record_other s h])

/-- A recomputation makes its own remote's record the derived one and leaves the others. -/
theorem recompute_derived_iff (s : State) (r q : RemoteId) :
    (s.recompute r).record q = (s.recompute r).derive q ↔ q = r ∨ s.record q = s.derive q := by
  by_cases e : q = r
  · subst e
    rw [derive_recompute_same]
    exact ⟨fun _ => .inl rfl, fun _ => setRecord_same s q _⟩
  · rw [derive_recompute_other s e, recompute_record_other s e]
    simp [e]

theorem foldl_recompute_derived (l : List RemoteId) (q : RemoteId) (h : q ∈ l ∨ s.record q = s.derive q) :
    (l.foldl recompute s).record q = (l.foldl recompute s).derive q := by
  induction l generalizing s with
  | nil => exact h.resolve_left List.not_mem_nil
  | cons r rs ih =>
    refine ih ?_
    rw [recompute_derived_iff]
    rcases h with mem | derived
    · exact (List.mem_cons.mp mem).elim (fun e => .inr (.inl e)) .inl
    · exact .inr (.inr derived)

theorem recomputeAll_derived (s : State) : s.recomputeAll.RecordsDerived := fun q =>
  foldl_recompute_derived _ q (.inl (List.mem_finRange q))

/-! ## Conditions -/

/-- The dark indications and the conditions of shedding and overload are those of the records (R55, R56, R63). -/
def Conditions (s : State) : Prop :=
  (∀ x : SectorId, s.place.dark[x] = true ↔ s.IsDark x) ∧
    ∀ r : RemoteId, (s.place.shedCond[r] = true ↔ (s.record r).shed ≠ []) ∧ s.place.overCond[r] = (s.record r).overload

theorem placementDerived_iff (s : State) : s.PlacementDerived ↔ s.RecordsDerived ∧ (s.Settled → s.Conditions) := Iff.rfl

theorem isDark_congr (active : ∀ o : OpId, (t.opPlan o).active = (s.opPlan o).active) (mode : t.mode.mode = s.mode.mode)
    (same : ∀ (o : OpId) (i : SectorIx), ∀ c ∈ (s.opPlan o).active.sectors[i].carriers,
      SameIdentity s.plan.carriers[c] t.plan.carriers[c])
    (placed : ∀ r : RemoteId, (t.record r).placed = (s.record r).placed) (x : SectorId) : t.IsDark x ↔ s.IsDark x := by
  unfold IsDark InService Carries
  rw [active, mode]
  refine and_congr (exists_congr fun c => and_congr_right fun mem => ?_) (forall_congr' fun r => ?_)
  · rw [PlanStore.suspended_congr (same _ _ c mem)]
  · rw [placed]

theorem Conditions.of_same (h : s.Conditions) (active : ∀ o : OpId, (t.opPlan o).active = (s.opPlan o).active)
    (mode : t.mode.mode = s.mode.mode)
    (same : ∀ (o : OpId) (i : SectorIx), ∀ c ∈ (s.opPlan o).active.sectors[i].carriers,
      SameIdentity s.plan.carriers[c] t.plan.carriers[c])
    (records : ∀ r : RemoteId, (t.record r).placed = (s.record r).placed ∧ (t.record r).shed = (s.record r).shed ∧
      (t.record r).overload = (s.record r).overload)
    (dark : t.place.dark = s.place.dark) (shed : t.place.shedCond = s.place.shedCond)
    (overload : t.place.overCond = s.place.overCond) : t.Conditions := by
  obtain ⟨sectors, remotes⟩ := h
  refine ⟨fun x => ?_, fun r => ?_⟩
  · rw [dark, isDark_congr active mode same fun r => (records r).1]
    exact sectors x
  · rw [shed, overload, (records r).2.1, (records r).2.2]
    exact remotes r

theorem Conditions.of_inputs (h : s.Conditions) (inputs : s.SameInputs t) (records : t.place.records = s.place.records)
    (dark : t.place.dark = s.place.dark) (shed : t.place.shedCond = s.place.shedCond)
    (overload : t.place.overCond = s.place.overCond) : t.Conditions := by
  have same (r : RemoteId) : t.record r = s.record r := by unfold record; rw [records]
  exact h.of_same inputs.active inputs.mode (fun _ _ c _ => by rw [inputs.carriers]; exact .refl _)
    (fun r => by rw [same]; exact ⟨rfl, rfl, rfl⟩) dark shed overload

theorem darkNow_iff (s : State) (x : SectorId) : s.darkNow (sectorOp x) (sectorIx x) = true ↔ s.IsDark x := by
  unfold darkNow darkWithout IsDark InService Carries
  simp only [Bool.and_eq_true, Bool.not_eq_true', PlanStore.inService, List.any_eq_true, List.any_eq_false,
    List.contains_iff_mem, Bank.members, List.mem_filter, decide_eq_true_eq]
  refine and_congr Iff.rfl (forall_congr' fun r => ?_)
  simp [allRemotes]

theorem settleDark_frame (s : State) (x : SectorId) : s.settleDark x = { s with
    place := { s.place with dark := s.place.dark.set x (s.darkNow (sectorOp x) (sectorIx x)) }
    sup := (s.settleDark x).sup } := by
  unfold settleDark
  dsimp only
  rw [hand_eq]

theorem settleShed_frame (s : State) (r : RemoteId) : s.settleShed r = { s with
    place := { s.place with shedCond := s.place.shedCond.set r (decide ((s.record r).shed ≠ [])) }
    sup := (s.settleShed r).sup } := by
  unfold settleShed
  dsimp only
  rw [hand_eq]

theorem settleOverload_frame (s : State) (r : RemoteId) : s.settleOverload r = { s with
    place := { s.place with overCond := s.place.overCond.set r (s.record r).overload }
    sup := (s.settleOverload r).sup } := by
  unfold settleOverload
  dsimp only
  rw [hand_eq]

/-- Writing each place of a vector once, with values that the writing does not change. -/
theorem foldl_set_at {n : Nat} {β : Type} {step : State → Fin n → State} {field : State → Vector β n} {value : State → Fin n → β}
    (sets : ∀ s x, field (step s x) = (field s).set x (value s x)) (keeps : ∀ s x, value (step s x) = value s)
    (l : List (Fin n)) (s : State) (x : Fin n) (mem : x ∈ l ∨ (field s)[x] = value s x) :
    (field (l.foldl step s))[x] = value s x := by
  induction l generalizing s with
  | nil => exact mem.resolve_left List.not_mem_nil
  | cons y ys ih =>
    rw [List.foldl_cons, ← keeps s y]
    refine ih _ ?_
    rw [sets, keeps]
    by_cases e : x = y
    · subst e
      exact .inr (by simp)
    · have ne : y.val ≠ x.val := fun e' => e (Fin.ext e'.symm)
      have other : ((field s).set y (value s y))[x] = (field s)[x] := by simp [Vector.getElem_set_ne _ _ ne]
      rw [other]
      exact mem.imp_left fun h => (List.mem_cons.mp h).resolve_left e

theorem settleConditions_conditions (s : State) : s.settleConditions.Conditions := by
  have dark := foldl_set_at (step := settleDark) (field := fun s => s.place.dark)
    (value := fun s x => s.darkNow (sectorOp x) (sectorIx x)) (fun s x => by rw [settleDark_frame])
    (fun s x => by rw [settleDark_frame]; rfl) allSectors
  have shed := foldl_set_at (step := settleShed) (field := fun s => s.place.shedCond)
    (value := fun s r => decide ((s.record r).shed ≠ [])) (fun s r => by rw [settleShed_frame])
    (fun s r => by rw [settleShed_frame]; rfl) allRemotes
  have overload := foldl_set_at (step := settleOverload) (field := fun s => s.place.overCond)
    (value := fun s r => (s.record r).overload) (fun s r => by rw [settleOverload_frame])
    (fun s r => by rw [settleOverload_frame]; rfl) allRemotes
  have darkStays (l : List RemoteId) (t : State) : (l.foldl settleShed t).place.dark = t.place.dark :=
    foldl_keeps (fun s => s.place.dark) _ (fun s r => by rw [settleShed_frame]) l t
  have darkStays' (l : List RemoteId) (t : State) : (l.foldl settleOverload t).place.dark = t.place.dark :=
    foldl_keeps (fun s => s.place.dark) _ (fun s r => by rw [settleOverload_frame]) l t
  have shedStays (l : List RemoteId) (t : State) : (l.foldl settleOverload t).place.shedCond = t.place.shedCond :=
    foldl_keeps (fun s => s.place.shedCond) _ (fun s r => by rw [settleOverload_frame]) l t
  have records (r : RemoteId) : s.settleConditions.record r = s.record r := by unfold record; rw [settleConditions_records]
  have recordsDark (l : List SectorId) (t : State) : (l.foldl settleDark t).place.records = t.place.records :=
    foldl_keeps (fun s => s.place.records) _ (fun s r => by rw [settleDark_frame]) l t
  have recordsShed (l : List RemoteId) (t : State) : (l.foldl settleShed t).place.records = t.place.records :=
    foldl_keeps (fun s => s.place.records) _ (fun s r => by rw [settleShed_frame]) l t
  have plan : s.settleConditions.plan = s.plan := by rw [settleConditions_frame]
  have mode : s.settleConditions.mode = s.mode := by rw [settleConditions_frame]
  refine ⟨fun x => ?_, fun r => ⟨?_, ?_⟩⟩
  · have same : s.settleConditions.IsDark x ↔ s.IsDark x := by
      refine isDark_congr (fun o => ?_) ?_ (fun o i c _ => ?_) (fun r => by rw [records]) x
      · unfold opPlan
        rw [plan]
      · rw [mode]
      · rw [plan]
        exact .refl _
    rw [same, ← darkNow_iff]
    unfold settleConditions
    rw [darkStays', darkStays, dark s x (.inl (List.mem_finRange x))]
  · rw [records]
    unfold settleConditions
    rw [shedStays, shed _ r (.inl (List.mem_finRange r))]
    unfold record
    rw [recordsDark, decide_eq_true_eq]
  · rw [records]
    unfold settleConditions
    rw [overload _ r (.inl (List.mem_finRange r))]
    unfold record
    rw [recordsShed, recordsDark]

end State

end Sys2Proof.Machine
end

section
/-! The statement on placement records and conditions (R31, R53 to R58, R63, R71). -/

namespace Sys2Proof.Machine.State

variable {s t : State}

theorem recordsPending_eq_false_of_settled (h : s.Settled) : s.recordsPending = false := by
  unfold recordsPending
  split
  · next b found => rw [h b found]; rfl
  · rfl

theorem upFormat_of_not_up {r : RemoteId} (h : s.rl[r].state ≠ .up) : s.upFormat r = none := if_neg h

theorem SameInputs.of_link (r : RemoteId) (plan : t.plan = s.plan) (mode : t.mode = s.mode)
    (format : t.upFormat r = s.upFormat r) (limit : t.rl[r].pmaxEff = s.rl[r].pmaxEff)
    (other : ∀ q : RemoteId, q ≠ r → t.rl[q] = s.rl[q]) : s.SameInputs t where
  carriers := by rw [plan]
  active o := by unfold opPlan; rw [plan]
  mode := by rw [mode]
  format q := by
    by_cases e : q = r
    · exact e ▸ format
    · unfold upFormat
      rw [other q e]
  limit q := by
    by_cases e : q = r
    · exact e ▸ limit
    · rw [other q e]

theorem placementChanged_inputs (s : State) : s.SameInputs s.placementChanged := by
  refine .of_eq ?_ ?_ (placementChanged_rl s) <;> rw [placementChanged_frame]

/-- Once every record is the derived one, bringing the conditions up to date meets the statement (R57, R58, R63). -/
theorem RecordsDerived.placementChanged (h : s.RecordsDerived) : s.placementChanged.PlacementDerived := by
  refine (placementDerived_iff _).mpr ⟨h.of_same (placementChanged_inputs s) (placementChanged_records s), fun settled => ?_⟩
  have boundary : s.placementChanged.boundary = s.boundary := by rw [placementChanged_frame]
  have settled' : s.Settled := fun b found => settled b (boundary.trans found)
  unfold State.placementChanged
  rw [recordsPending_eq_false_of_settled settled']
  exact settleConditions_conditions s

/-- One remote's record is derived again where the others are as derived. -/
theorem recompute_placementChanged (r : RemoteId) (h : ∀ q : RemoteId, q ≠ r → s.record q = s.derive q) :
    (s.recompute r).placementChanged.PlacementDerived :=
  RecordsDerived.placementChanged fun q => (recompute_derived_iff s r q).mpr ((em (q = r)).imp_right (h q))

theorem recomputeAll_placementChanged (s : State) : s.recomputeAll.placementChanged.PlacementDerived :=
  (recomputeAll_derived s).placementChanged

namespace PlacementDerived

theorem of_inputs (h : s.PlacementDerived) (inputs : s.SameInputs t) (records : t.place.records = s.place.records)
    (dark : t.place.dark = s.place.dark) (shed : t.place.shedCond = s.place.shedCond)
    (overload : t.place.overCond = s.place.overCond) (settled : t.Settled → s.Settled) : t.PlacementDerived := by
  obtain ⟨derived, conditions⟩ := (placementDerived_iff s).mp h
  exact (placementDerived_iff t).mpr ⟨derived.of_same inputs records,
    fun now => (conditions (settled now)).of_inputs inputs records dark shed overload⟩

theorem of_same (h : s.PlacementDerived) (inputs : s.SameInputs t) (place : t.place = s.place)
    (boundary : t.boundary = s.boundary) : t.PlacementDerived :=
  h.of_inputs inputs (by rw [place]) (by rw [place]) (by rw [place]) (by rw [place])
    fun now b found => now b (boundary.trans found)

/-- Nothing that a derivation reads changes. -/
theorem of_eq (h : s.PlacementDerived) (plan : t.plan = s.plan) (mode : t.mode.mode = s.mode.mode) (rl : t.rl = s.rl)
    (place : t.place = s.place) (boundary : t.boundary = s.boundary) : t.PlacementDerived :=
  h.of_same (.of_eq plan mode rl) place boundary

theorem modRl (h : s.PlacementDerived) (r : RemoteId) {f : RemoteLink → RemoteLink}
    (same : ∀ l, (f l).state = l.state ∧ (f l).format = l.format ∧ (f l).pmaxEff = l.pmaxEff) :
    (s.modRl r f).PlacementDerived := by
  refine h.of_same (.of_link r rfl rfl ?_ ?_ fun _ ne => modRl_other _ _ ne) rfl rfl
  · unfold upFormat
    rw [modRl_same, (same _).1, (same _).2.1]
  · rw [modRl_same, (same _).2.2]

/-- A link that is not UP goes to another state that is not UP. -/
theorem modRl_down (h : s.PlacementDerived) (r : RemoteId) {f : RemoteLink → RemoteLink} (was : s.rl[r].state ≠ .up)
    (is : (f s.rl[r]).state ≠ .up) (limit : (f s.rl[r]).pmaxEff = s.rl[r].pmaxEff) : (s.modRl r f).PlacementDerived := by
  refine h.of_same (.of_link r rfl rfl ?_ ?_ fun _ ne => modRl_other _ _ ne) rfl rfl
  · rw [upFormat_of_not_up was, upFormat_of_not_up (by rwa [modRl_same])]
  · rw [modRl_same, limit]

/-- Where one link changed, the other remotes' records are still as derived. -/
theorem others (h : s.PlacementDerived) (r : RemoteId) (plan : t.plan = s.plan) (mode : t.mode = s.mode)
    (records : t.place.records = s.place.records) (other : ∀ q : RemoteId, q ≠ r → t.rl[q] = s.rl[q]) :
    ∀ q : RemoteId, q ≠ r → t.record q = t.derive q := by
  intro q ne
  have record : t.record q = s.record q := by unfold record; rw [records]
  have format : t.upFormat q = s.upFormat q := by unfold upFormat; rw [other q ne]
  have same : t.derive q = s.derive q := by
    unfold derive
    rw [format, record, plan, mode, other q ne]
  rw [record, same]
  exact h.1 q

/-! ### Remote links -/

theorem leaveUp (h : s.PlacementDerived) (r : RemoteId) (x : RemoteState) : (s.leaveUp r x).PlacementDerived := by
  have plan : (s.clearFar r).plan = s.plan := rfl
  have mode : (s.clearFar r).mode = s.mode := rfl
  have records : (s.clearFar r).place.records = s.place.records := by rw [clearFar_place]
  have left (f : RemoteLink → RemoteLink) :
      ∀ q : RemoteId, q ≠ r → ((s.clearFar r).modRl r f).record q = ((s.clearFar r).modRl r f).derive q :=
    h.others (t := (s.clearFar r).modRl r f) r plan mode records fun q ne => by rw [modRl_other _ _ ne, clearFar_rl]
  have withdrawn {u : State} (hu : ∀ q : RemoteId, q ≠ r → u.record q = u.derive q) (q : RemoteId) (ne : q ≠ r) :
      (u.withdraw r).record q = (u.withdraw r).derive q := by
    have record : (u.withdraw r).record q = u.record q := by unfold record; rw [withdraw_place]
    have same : (u.withdraw r).derive q = u.derive q :=
      SameInputs.derive (s := u) (t := u.withdraw r) (.of_eq rfl rfl rfl) (by rw [record])
    rw [record, same]
    exact hu q ne
  unfold State.leaveUp
  exact recompute_placementChanged r (withdrawn (left _))

theorem moveLink (h : s.PlacementDerived) (r : RemoteId) {x : RemoteState} (down : x ≠ .up) :
    (s.moveLink r x).PlacementDerived := by
  by_cases up : s.rl[r].state = .up
  · rw [moveLink_of_up _ up]
    exact h.leaveUp r x
  · have moved : (s.modRl r fun l => { l with state := x }).PlacementDerived := h.modRl_down r up down rfl
    unfold State.moveLink
    split
    · next is => exact absurd is up
    · exact moved.of_eq rfl rfl rfl rfl rfl
    · exact moved

theorem restartInto (h : s.PlacementDerived) (r : RemoteId) {x : RemoteState} (down : x ≠ .up) :
    (s.restartInto r x).PlacementDerived := by
  have state := moveLink_state s r x
  have closed {u : State} (hu : u.PlacementDerived) : (u.closeGates r).PlacementDerived := hu.of_eq rfl rfl rfl rfl rfl
  unfold State.restartInto
  refine closed ((h.moveLink r down).modRl_down r (by rwa [state]) ?_ rfl)
  show (restarted (s.moveLink r x).rl[r]).state ≠ .up
  exact fun up => down (state.symm.trans up)

theorem restart (h : s.PlacementDerived) (r : RemoteId) : (s.restart r).PlacementDerived :=
  h.restartInto r (by decide)

theorem disable (h : s.PlacementDerived) (r : RemoteId) : (s.disable r).PlacementDerived := by
  have state := moveLink_state s r .off
  have cleared {u : State} (hu : u.PlacementDerived) (k : Key) : ((u.closeGates r).clear k).PlacementDerived :=
    hu.of_eq rfl rfl rfl rfl rfl
  unfold State.disable
  refine cleared ((h.moveLink r (x := .off) (by decide)).modRl_down r (by rw [state]; decide) ?_ rfl) _
  exact fun up => absurd (state.symm.trans up) (by decide)

theorem failNegotiation (h : s.PlacementDerived) (r : RemoteId) : (s.failNegotiation r).PlacementDerived :=
  restart (h.modRl r (f := fun l => { l with negFail := satInc max32 l.negFail }) fun _ => ⟨rfl, rfl, rfl⟩) r

theorem linkEntersUp (h : s.PlacementDerived) (r : RemoteId) : (s.linkEntersUp r).PlacementDerived := by
  have rederived (f : RemoteLink → RemoteLink) :
      (((s.modRl r f).endLost r).recompute r).placementChanged.PlacementDerived :=
    recompute_placementChanged (s := (s.modRl r f).endLost r) r (h.others (t := (s.modRl r f).endLost r) r rfl rfl rfl
      fun q ne => by rw [endLost, clear_rl, modRl_other _ _ ne, modRl_other _ _ ne])
  unfold State.linkEntersUp
  split
  · exact rederived _
  · exact h

theorem linkLostEntry (h : s.PlacementDerived) (r : RemoteId) : (s.linkLostEntry r).PlacementDerived := by
  have counted := (h.leaveUp r .lost).modRl r
    (f := fun l => { l with lostEntries := satInc max32 l.lostEntries, holdTimer := 0 }) fun _ => ⟨rfl, rfl, rfl⟩
  have begun := counted.modRl r (f := fun l => { l with lostCond := true }) fun _ => ⟨rfl, rfl, rfl⟩
  unfold State.linkLostEntry
  exact ite_keeps (begun.of_eq rfl rfl rfl rfl rfl) h

theorem linkSettingsTakeEffect (h : s.PlacementDerived) (r : RemoteId) : (s.linkSettingsTakeEffect r).PlacementDerived := by
  unfold State.linkSettingsTakeEffect
  dsimp only
  split
  · exact recompute_placementChanged (s := s.modRl r fun l => { l with mEff := l.m, pmaxEff := l.pmax }) r
      (h.others r rfl rfl rfl fun q ne => modRl_other _ _ ne)
  · next same =>
    refine h.of_same (.of_link r rfl rfl ?_ ?_ fun _ ne => modRl_other _ _ ne) rfl rfl
    · unfold upFormat
      rw [modRl_same]
    · rw [modRl_same]
      exact (not_not.mp same).symm

theorem of_heard (h : s.PlacementDerived) (heard : s.AllHeard t) (plan : t.plan = s.plan) (mode : t.mode = s.mode)
    (place : t.place = s.place) (boundary : t.boundary = s.boundary) : t.PlacementDerived := by
  refine h.of_same ⟨by rw [plan], fun o => by unfold opPlan; rw [plan], by rw [mode], fun q => ?_, fun q => (heard q).limit⟩
    place boundary
  rcases (heard q).state with same | ⟨was, is⟩
  · unfold upFormat
    rw [same, (heard q).format]
  · rw [upFormat_of_not_up (by rw [is]; decide), upFormat_of_not_up (by rw [was]; decide)]

/-! ### Carriers -/

theorem listed_of_called {r : RemoteId} {l : List CarrierId} {c : CarrierId} (call : l ∈ s.plan.activeCalls r) (mem : c ∈ l) :
    ∃ (o : OpId) (i : SectorIx), c ∈ (s.opPlan o).active.sectors[i].carriers := by
  obtain ⟨o, rfl⟩ := PlanStore.mem_activeCalls_iff.mp call
  obtain ⟨i, _, listed⟩ := Bank.mem_calls_iff.mp mem
  exact ⟨o, i, listed⟩

/-- The listed carriers keep what routing, shedding, power and scaling read. -/
theorem of_carriers (h : s.PlacementDerived) (plans : t.plan.plans = s.plan.plans) (mode : t.mode = s.mode)
    (rl : t.rl = s.rl) (place : t.place = s.place) (boundary : t.boundary = s.boundary)
    (same : ∀ (o : OpId) (i : SectorIx), ∀ c ∈ (s.opPlan o).active.sectors[i].carriers,
      SameIdentity s.plan.carriers[c] t.plan.carriers[c] ∧ SameLevels s.plan.carriers[c] t.plan.carriers[c]) :
    t.PlacementDerived := by
  have active (o : OpId) : (t.opPlan o).active = (s.opPlan o).active := by unfold opPlan; rw [plans]
  have record (r : RemoteId) : t.record r = s.record r := by unfold record; rw [place]
  obtain ⟨derived, conditions⟩ := (placementDerived_iff s).mp h
  refine (placementDerived_iff t).mpr ⟨fun r => ?_, fun now => ?_⟩
  · have again : t.derive r = s.derive r := by
      refine derive_congr (by unfold upFormat; rw [rl]) (by rw [rl]) (by rw [mode]) (by rw [record])
        (activeCalls_congr active r) (fun l call c mem => ?_) fun c routed => ?_
      · obtain ⟨o, i, listed⟩ := listed_of_called call mem
        exact (same o i c listed).1
      · obtain ⟨⟨l, call, mem⟩, _⟩ := PlanStore.mem_route_iff.mp routed
        obtain ⟨o, i, listed⟩ := listed_of_called call mem
        exact (same o i c listed).2
    rw [record, again]
    exact derived r
  · have settled : s.Settled := fun b found => now b (boundary.trans found)
    exact (conditions settled).of_same active (by rw [mode]) (fun o i c mem => (same o i c mem).1)
      (fun r => by rw [record]; exact ⟨rfl, rfl, rfl⟩) (by rw [place]) (by rw [place]) (by rw [place])

theorem carrier_modCarrier_same (s : State) (c : CarrierId) (f : CarrierRecord → CarrierRecord) :
    (s.modCarrier c f).plan.carriers[c] = f (s.carrier c) := by simp [State.modCarrier, carrier]

/-- A carrier that no bank lists, or that keeps what the derivations read, is changed. -/
theorem modCarrier (h : s.PlacementDerived) (c : CarrierId) {f : CarrierRecord → CarrierRecord}
    (same : (∃ (o : OpId) (i : SectorIx), c ∈ (s.opPlan o).active.sectors[i].carriers) →
      SameIdentity (s.carrier c) (f (s.carrier c)) ∧ SameLevels (s.carrier c) (f (s.carrier c))) :
    (s.modCarrier c f).PlacementDerived := by
  refine h.of_carriers rfl rfl rfl rfl rfl fun o i q mem => ?_
  by_cases e : q = c
  · subst e
    rw [carrier_modCarrier_same]
    exact same ⟨o, i, mem⟩
  · rw [ListsOwned.carrier_modCarrier_other s f e]
    exact ⟨.refl _, .refl _⟩

/-- LEVEL_FIELD_TAKES_EFFECT derives again the records that route the carrier; the others do not read its levels (R31, R57). -/
theorem levelFieldTakesEffect (h : s.PlacementDerived) (owned : s.ListsOwned) (c : CarrierId) :
    (s.levelFieldTakesEffect c).PlacementDerived := by
  unfold State.levelFieldTakesEffect
  dsimp only
  split
  · refine RecordsDerived.placementChanged fun q => ?_
    refine foldl_recompute_derived _ q ?_
    by_cases routed : c ∈ (s.record q).routed
    · exact .inl (List.mem_filter.mpr ⟨List.mem_finRange q, List.contains_iff_mem.mpr routed⟩)
    · right
      have derived : s.record q = s.derive q := h.1 q
      have again : (s.modCarrier c fun k => { k with eff := k.set }).derive q = s.derive q := by
        have format : (s.modCarrier c fun k => { k with eff := k.set }).upFormat q = s.upFormat q := rfl
        cases found : s.upFormat q with
        | none =>
          unfold derive
          rw [format, found]
        | some f =>
          have routes : (s.record q).routed = s.plan.route s.mode.mode (s.plan.activeCalls q) := by
            rw [derived]
            unfold derive
            rw [found]
            rfl
          refine derive_congr format rfl rfl rfl rfl (fun _ _ d _ => ?_) fun d mem => ?_
          · by_cases e : d = c
            · subst e
              rw [carrier_modCarrier_same]
              exact ⟨rfl, rfl, rfl⟩
            · rw [ListsOwned.carrier_modCarrier_other s _ e]
              exact .refl _
          · rw [ListsOwned.carrier_modCarrier_other s _ fun e => routed (by rw [routes, ← e]; exact mem)]
            exact .refl _
      exact derived.trans again.symm
  · next unread =>
    refine h.modCarrier c fun ⟨o, i, listed⟩ => ⟨⟨rfl, rfl, rfl⟩, ?_⟩
    have defined : (s.carrier c).place.isSome = true := by
      obtain ⟨p, found, _⟩ := Option.map_eq_some_iff.mp (owned o i c (.inl listed))
      exact Option.isSome_of_eq_some found
    rw [defined] at unread
    simp only [Bool.true_and, Bool.or_eq_true, decide_eq_true_eq, not_or, not_not] at unread
    exact ⟨unread.2, unread.1⟩

/-! ### A boundary's own placement work -/

theorem setSleep_derived (h : s.RecordsDerived) (links : s.LinksFormed) (r : RemoteId) : (s.setSleep r).RecordsDerived := by
  intro q
  by_cases e : q = r
  · subst e
    have record : (s.setSleep q).record q = { s.record q with
        sleep := s.mode.mode = .quiet && s.rl[q].state = .up && (s.record q).placed = [] } := setRecord_same ..
    have format : (s.setSleep q).upFormat q = s.upFormat q := rfl
    have derived := h q
    unfold derive at derived
    unfold derive
    rw [format, record]
    cases found : s.upFormat q with
    | none =>
      have down : s.rl[q].state ≠ .up := fun up => by
        have some := (links q).1 up
        unfold upFormat at found
        rw [if_pos up] at found
        rw [found] at some
        contradiction
      rw [found] at derived
      rw [derived]
      simp only [decide_eq_false down, Bool.and_false, Bool.false_and]
      rfl
    | some f =>
      rw [found] at derived
      dsimp only at derived ⊢
      have at' (b : Bool) : { s.record q with sleep := b } =
          s.plan.recordFor s.mode.mode f s.rl[q].pmaxEff (s.plan.activeCalls q) b := by rw [derived]; rfl
      exact at' _
  · have record : (s.setSleep r).record q = s.record q := setRecord_other s _ e
    have same : (s.setSleep r).derive q = s.derive q :=
      SameInputs.derive (s := s) (t := s.setSleep r) (.of_eq rfl rfl rfl) (by rw [record])
    rw [record, same]
    exact h q

theorem setSleep_conditions (h : s.Conditions) (r : RemoteId) : (s.setSleep r).Conditions := by
  refine h.of_same (fun _ => rfl) rfl (fun _ _ _ _ => .refl _) (fun q => ?_) rfl rfl rfl
  by_cases e : q = r
  · subst e
    have record : (s.setSleep q).record q = { s.record q with
        sleep := s.mode.mode = .quiet && s.rl[q].state = .up && (s.record q).placed = [] } := setRecord_same ..
    rw [record]
    exact ⟨rfl, rfl, rfl⟩
  · have record : (s.setSleep r).record q = s.record q := setRecord_other s _ e
    rw [record]
    exact ⟨rfl, rfl, rfl⟩

/-- When every record of the new superframe is formed, the conditions follow and the sleep orders are set (R57, R63, R71). -/
theorem settleBoundary (h : s.PlacementDerived) (links : s.LinksFormed) : s.settleBoundary.PlacementDerived := by
  unfold State.settleBoundary
  split
  · exact h
  · split
    · exact h
    · have conditions := settleConditions_conditions s
      have derived : s.settleConditions.RecordsDerived := by
        refine RecordsDerived.of_same h.1 (.of_eq ?_ ?_ ?_) (settleConditions_records s) <;> rw [settleConditions_frame]
      have links' : s.settleConditions.LinksFormed := links.of_rl (by rw [settleConditions_frame])
      generalize s.settleConditions = u at conditions derived links' ⊢
      have started : (allRemotes.foldl startGates u).RecordsDerived ∧ (allRemotes.foldl startGates u).Conditions ∧
          (allRemotes.foldl startGates u).LinksFormed := by
        rw [foldl_startGates_frame]
        generalize (allRemotes.foldl startGates u).comb.gates = v
        exact ⟨derived.of_same (.of_eq rfl rfl rfl) rfl, conditions.of_inputs (.of_eq rfl rfl rfl) rfl rfl rfl rfl, links'⟩
      have slept := foldl_invariant (P := fun t => t.RecordsDerived ∧ t.Conditions ∧ t.LinksFormed)
        (fun t r ht => ⟨setSleep_derived ht.1 ht.2.2 r, setSleep_conditions ht.2.1 r, ht.2.2⟩) allRemotes started
      generalize allRemotes.foldl setSleep (allRemotes.foldl startGates u) = w at slept ⊢
      obtain ⟨records, met, _⟩ := slept
      exact (placementDerived_iff _).mpr ⟨records.of_same (.of_eq rfl rfl rfl) rfl,
        fun _ => met.of_inputs (.of_eq rfl rfl rfl) rfl rfl rfl rfl⟩

/-! ### Plans and the mode -/

/-- The staged banks and the states of the plans are not read. -/
theorem of_plans (h : s.PlacementDerived) (carriers : t.plan.carriers = s.plan.carriers)
    (active : ∀ o : OpId, (t.opPlan o).active = (s.opPlan o).active) (mode : t.mode.mode = s.mode.mode) (rl : t.rl = s.rl)
    (place : t.place = s.place) (boundary : t.boundary = s.boundary) : t.PlacementDerived :=
  h.of_same ⟨carriers, active, mode, fun r => by unfold upFormat; rw [rl], fun r => by rw [rl]⟩ place boundary

theorem modPlan (h : s.PlacementDerived) (o : OpId) {f : OperatorPlan → OperatorPlan}
    (active : (f (s.opPlan o)).active = (s.opPlan o).active) : (s.modPlan o f).PlacementDerived := by
  refine h.of_plans rfl (fun q => ?_) rfl rfl rfl rfl
  by_cases e : q = o
  · subst e
    rw [opPlan_modPlan_same, active]
  · rw [opPlan_modPlan_other _ _ e]

end PlacementDerived

end Sys2Proof.Machine.State
end

section
/-! The statement on placement, put together (R8, R33, R38, R52 to R58, R63). -/

namespace Sys2Proof.Machine.State

variable {s t : State}

/-- A window end leaves the active banks. -/
theorem windowEnd_active (s : State) (o : OpId) : (s.windowEnd.opPlan o).active = (s.opPlan o).active := by
  have moves (t : State) (q : OpId) (r : RemoteId) (i : SectorIx) (x : Origin) :
      ((t.stageMove q r i x).opPlan o).active = (t.opPlan o).active := by
    unfold stageMove
    by_cases e : o = q
    · subst e
      rw [opPlan_modPlan_same]
    · rw [opPlan_modPlan_other _ _ e]
  have balances (banks : Vector Bank 4) (staged : Vector StagedState 4) (t : State) (q : OpId) :
      ((t.balance banks staged q).opPlan o).active = (t.opPlan o).active := by
    have evaluated (b : Bank) : ((t.evaluate q b).opPlan o).active = (t.opPlan o).active := by
      unfold evaluate
      split
      · rfl
      · split
        · rfl
        · split
          · rfl
          · split
            · exact moves ..
            · rw [advise_frame]
              rfl
    unfold balance
    split
    · rfl
    · split
      · rfl
      · split
        · rfl
        · split
          · rfl
          · exact evaluated _
  cases found : s.boundary with
  | none => rw [windowEnd_of_none found]
  | some b =>
    have kept := foldl_keeps (fun t => (t.opPlan o).active) _ (balances b.banks b.staged) allOps
      (((s.closeWindow b).guardWindow b.banks (s.closeWindow b).meas.snap.peak).countHoldOffs b.moved)
    have plan := windowEnd_plan found
    have before := (beforeBalance s b).1
    unfold opPlan at kept ⊢
    rw [plan, kept, before]

theorem windowEnd_modeInForce (s : State) : s.windowEnd.mode.mode = s.mode.mode := by
  have quiet (t : State) (b : Boundary) : (t.autoQuiet b).mode.mode = t.mode.mode := by
    unfold autoQuiet
    split
    · rfl
    · split
      · dsimp only
        generalize (if t.quietWindow b = true then min (t.mode.quietRun + 1) 255 else 0) = run
        split <;> rfl
      · split <;> rfl
  have balanced (banks : Vector Bank 4) (staged : Vector StagedState 4) (l : List OpId) (t : State) :
      (l.foldl (fun s o => s.balance banks staged o) t).mode = t.mode :=
    foldl_keeps (fun s => s.mode) _ (fun s o => by rw [balance_frame]) l t
  have guarded (t : State) (banks : Vector Bank 4) (peak : Vector Nat 24) : (t.guardWindow banks peak).mode = t.mode := by
    rw [guardWindow_frame]
  have swept (t : State) : t.resweep.mode = t.mode := rfl
  have counted (t : State) (l : List (OpId × RemoteId)) : (t.countHoldOffs l).mode = t.mode := rfl
  unfold windowEnd
  split
  · rfl
  · dsimp only
    rw [swept, quiet, balanced, counted, guarded]
    rfl

theorem reset_placementDerived : reset.PlacementDerived := by
  have down (r : RemoteId) : reset.rl[r].state ≠ .up := by revert r; decide
  have empty (r : RemoteId) : reset.record r = .empty := by revert r; decide
  have unlisted (o : OpId) (i : SectorIx) : (reset.opPlan o).active.sectors[i].carriers = [] := by revert o i; decide
  have dark (x : SectorId) : reset.place.dark[x] = false := by revert x; decide
  have conditions (r : RemoteId) : reset.place.shedCond[r] = false ∧ reset.place.overCond[r] = false := by revert r; decide
  refine (placementDerived_iff _).mpr ⟨fun r => by rw [empty, derive_of_not_up (down r)], fun _ => ⟨fun x => ?_, fun r => ?_⟩⟩
  · rw [dark]
    refine ⟨nofun, fun ⟨⟨c, mem, _⟩, _⟩ => ?_⟩
    rw [unlisted] at mem
    contradiction
  · rw [empty, (conditions r).1, (conditions r).2]
    exact ⟨⟨nofun, fun h => absurd rfl h⟩, rfl⟩

namespace PlacementDerived

theorem windowEnd (h : s.PlacementDerived) : s.windowEnd.PlacementDerived := by
  have active : ∀ o : OpId, (s.windowEnd.opPlan o).active = (s.opPlan o).active := windowEnd_active s
  refine h.of_plans (windowEnd_carriers s) active ?_ ?_ ?_ ?_
  · exact windowEnd_modeInForce s
  · rw [windowEnd_frame]
  · rw [windowEnd_frame]
  · rw [windowEnd_frame]

/-- What follows the placement work of a switchover reads and writes none of it. -/
theorem completeArming (h : s.PlacementDerived) (o : OpId) (ch : Channel) : (s.completeArming o ch).PlacementDerived := by
  have settled : (s.completeArming o ch).Settled → s.Settled := by
    unfold State.completeArming
    split
    · rw [complete_eq]; exact fun h => h
    · next a _ =>
      rw [complete_eq]
      intro now b found
      refine now { b with moved := b.moved ++ [(o, a.remote)] } ?_
      unfold acceptedMove
      dsimp only
      rw [modBal_boundary, found]
      rfl
    · exact fun h => h
  refine h.of_inputs (.of_eq ?_ ?_ ?_) ?_ ?_ ?_ ?_ settled <;> rw [completeArming_frame]

theorem switchover (h : s.PlacementDerived) (o : OpId) : (s.switchover o).PlacementDerived := by
  have taken (f : OperatorPlan → OperatorPlan) := recomputeAll_placementChanged (s.modPlan o f)
  unfold State.switchover
  split
  · dsimp only
    split
    · exact (taken _).completeArming o _
    · exact (taken _).completeArming o _
    · exact taken _
  · exact h

theorem complete (h : s.PlacementDerived) (ch : Channel) (x : Result) (b : Bool) (d : List Byte) :
    (s.complete ch x b d).PlacementDerived := by
  refine h.of_eq ?_ ?_ ?_ ?_ ?_ <;> rw [complete_eq]

theorem hubModeDecision (h : s.PlacementDerived) : s.hubModeDecision.PlacementDerived := by
  have taken {u : ModeUnit} (same : u.mode = s.mode.mode) (m : HubMode) :
      (State.takeMode { s with mode := u } m).PlacementDerived := by
    unfold takeMode
    dsimp only
    split
    · next stays => exact h.of_eq rfl (stays.trans same) rfl rfl rfl
    · exact recomputeAll_placementChanged _
  unfold State.hubModeDecision
  split
  · exact (taken (u := { s.mode with requested := none, auto := none, quietRun := 0 }) rfl _).complete ..
  · exact taken (u := { s.mode with auto := none }) rfl _
  · exact h

theorem pendingIsolationApply (h : s.PlacementDerived) : s.pendingIsolationApply.PlacementDerived := by
  have ended : State.PlacementDerived { s with mode := { s.mode with pendingIso := none } } := h.of_eq rfl rfl rfl rfl rfl
  have begun {u : State} (hu : u.PlacementDerived) (p : PendingIso) : (u.beginIsolation p).PlacementDerived := by
    have isolated := hu.restartInto p.remote (x := .isolated) (by decide)
    unfold beginIsolation
    generalize u.restartInto p.remote .isolated = w at isolated ⊢
    exact isolated.of_eq rfl rfl rfl rfl rfl
  unfold State.pendingIsolationApply
  split
  · exact h
  · next p _ =>
    dsimp only
    split
    · exact ended.complete ..
    · exact (begun ended p).complete ..

theorem isolationTimerExpiry (h : s.PlacementDerived) (r : RemoteId) : (s.isolationTimerExpiry r).PlacementDerived := by
  have unlisted : (s.unlist r).PlacementDerived := h.of_eq rfl rfl rfl rfl rfl
  unfold State.isolationTimerExpiry
  exact ite_keeps (unlisted.restart r) h

theorem warmResetApplied (h : s.PlacementDerived) : s.warmResetApplied.PlacementDerived := by
  have record (r : RemoteId) : s.warmBlocks.rl[r] = warmRemote s.rl[r] := getElem_tab _ r
  have plan (o : OpId) : s.warmBlocks.opPlan o = { s.opPlan o with staged := (s.opPlan o).active, state := .clean } :=
    getElem_tab _ o
  have carriers : s.warmBlocks.plan.carriers = s.plan.carriers := by dsimp only [warmBlocks]
  have mode : s.warmBlocks.mode.mode = s.mode.mode := by dsimp only [warmBlocks]
  have place : s.warmBlocks.place = s.place := by dsimp only [warmBlocks]
  have boundary : s.warmBlocks.boundary = s.boundary := by dsimp only [warmBlocks]
  have blocks : s.warmBlocks.PlacementDerived := by
    refine h.of_same ⟨carriers, fun o => by rw [plan], mode, fun r => ?_, fun r => by rw [record]; rfl⟩ place boundary
    unfold upFormat
    rw [record]
    rfl
  refine blocks.of_eq ?_ ?_ ?_ ?_ ?_ <;> rw [warmResetApplied_frame]

theorem makeBoundary (h : s.PlacementDerived) (cut : Bool) : (s.makeBoundary cut).PlacementDerived := by
  have link (r : RemoteId) : (s.makeBoundary cut).rl[r].state = s.rl[r].state ∧
      (s.makeBoundary cut).rl[r].format = s.rl[r].format ∧ (s.makeBoundary cut).rl[r].pmaxEff = s.rl[r].pmaxEff := by
    have tick (l : RemoteLink) : l.tick.format = l.format ∧ l.tick.pmaxEff = l.pmaxEff := by
      unfold RemoteLink.tick
      split
      · split <;> exact ⟨rfl, rfl⟩
      · exact ⟨rfl, rfl⟩
      · exact ⟨rfl, rfl⟩
    rw [makeBoundary_rl]
    exact ⟨tick_state _, tick _⟩
  refine h.of_inputs ⟨?_, fun o => ?_, ?_, fun r => ?_, fun r => (link r).2.2⟩ ?_ ?_ ?_ ?_ fun settled => ?_
  · rw [makeBoundary_frame]
  · unfold opPlan
    rw [makeBoundary_frame]
  · rw [makeBoundary_frame]
  · unfold upFormat
    rw [(link r).1, (link r).2.1]
  · rw [makeBoundary_frame]
  · rw [makeBoundary_frame]
  · rw [makeBoundary_frame]
  · rw [makeBoundary_frame]
  · have boundary : (s.makeBoundary cut).boundary = some s.closingView := by rw [makeBoundary_frame]
    exact absurd (settled _ boundary) nofun

theorem startFrame (h : s.PlacementDerived) : s.startFrame.PlacementDerived := by
  have link (r : RemoteId) := startFrame_rl s r
  refine h.of_inputs ⟨?_, fun o => ?_, ?_, fun r => ?_, fun r => by rw [link]⟩ ?_ ?_ ?_ ?_ fun settled b found => settled b ?_
  · rw [startFrame_frame]
  · unfold opPlan
    rw [startFrame_frame]
  · rw [startFrame_frame]
  · unfold upFormat
    rw [link]
  · rw [startFrame_frame]
  · rw [startFrame_frame]
  · rw [startFrame_frame]
  · rw [startFrame_frame]
  · rw [startFrame_frame]
    exact found

/-! ### Requests -/

theorem of_commanded {ch : Channel} (h : s.PlacementDerived) (owned : s.ListsOwned) (c : Commanded ch s t) :
    t.PlacementDerived := by
  have dropped (c : CarrierId) : (s.dropOutputs c).PlacementDerived := h.of_eq rfl rfl rfl rfl rfl
  cases c
  case linkSet x =>
    have enabled : (Machine.applyEnable s x).PlacementDerived := by
      have set := h.modRl x.remote (f := fun l => { l with enable := x.enable }) fun _ => ⟨rfl, rfl, rfl⟩
      have unlisted {u : State} (hu : u.PlacementDerived) (r : RemoteId) : (u.unlist r).PlacementDerived :=
        hu.of_eq rfl rfl rfl rfl rfl
      unfold Machine.applyEnable
      dsimp only
      split
      · exact ite_keeps (set.restart _) set
      · exact ite_keeps set ((unlisted set _).disable _)
    have offered {u : State} (hu : u.PlacementDerived) : (Machine.applyOffered u x).PlacementDerived := by
      have set := hu.modRl x.remote (f := fun l => { l with offered := x.offered }) fun _ => ⟨rfl, rfl, rfl⟩
      unfold Machine.applyOffered
      exact ite_keeps (set.restart _) set
    exact (offered enabled).modRl x.remote fun _ => ⟨rfl, rfl, rfl⟩
  case restart r _ _ => exact h.restart r
  case timing ref x => refine h.of_eq ?_ ?_ ?_ ?_ ?_ <;> rw [setTimebase_eq]
  case mode u same _ _ => exact h.of_eq rfl same rfl rfl rfl
  case restore r _ => exact PlacementDerived.restart (s := s.unlist r) (h.of_eq rfl rfl rfl rfl rfl) r
  case define x place priority levels kept =>
    have defined {u : State} (hu : u.PlacementDerived) (plan : u.plan = s.plan) : (u.modCarrier x.carrier fun k =>
        { k with place := some place, priority := priority, eventOnly := x.eventOnly, set := levels }).PlacementDerived := by
      refine hu.modCarrier x.carrier fun ⟨o, i, mem⟩ => ⟨?_, rfl, rfl⟩
      unfold opPlan at mem
      unfold carrier
      rw [plan] at mem ⊢
      have listed : isListed s x.carrier = true := by
        cases e : isListed s x.carrier with
        | true => rfl
        | false => exact absurd mem (owned.not_listed e o i).1
      obtain ⟨same, same', same''⟩ := kept listed
      exact ⟨same.symm, same''.symm, same'.symm⟩
    split
    · exact defined h rfl
    · exact defined (dropped _) rfl
  case undefine c unlisted _ =>
    exact (dropped c).modCarrier c fun ⟨o, i, mem⟩ => absurd mem (owned.not_listed unlisted o i).1
  case sector => exact h.modPlan _ rfl
  case zone => exact h.modPlan _ rfl
  case home => exact h.modPlan _ rfl
  case commit => exact h.modPlan _ rfl
  case revert => exact h.modPlan _ rfl
  case accept o bal a _ =>
    exact PlacementDerived.modPlan (s := { s with bal := bal }) (h.of_eq rfl rfl rfl rfl rfl) o rfl
  case latch r => exact h.modRl r fun _ => ⟨rfl, rfl, rfl⟩
  case disarm o data =>
    have cancelled : (cancelArmed s o ch).PlacementDerived := by
      unfold cancelArmed
      split
      · exact h.modPlan _ rfl
      · exact h.modPlan _ rfl
      · exact h
    exact cancelled.complete ..
  case unrequest =>
    exact PlacementDerived.complete (s := { s with mode := { s.mode with requested := none } }) (h.of_eq rfl rfl rfl rfl rfl) ..
  case unpend =>
    exact PlacementDerived.complete (s := { s with mode := { s.mode with pendingIso := none } }) (h.of_eq rfl rfl rfl rfl rfl) ..
  all_goals exact h.of_eq rfl rfl rfl rfl rfl

end PlacementDerived

/-- The statement on placement and what it rests on. -/
def PlacementFormed (s : State) : Prop := (s.ListsOwned ∧ s.LinksFormed) ∧ s.PlacementDerived

theorem placementFormed_kept : KeptByParts PlacementFormed :=
  have both {s t : State} (owned : s.ListsOwned → t.ListsOwned) (links : s.LinksFormed → t.LinksFormed)
      (derived : s.PlacementFormed → t.PlacementDerived) (h : s.PlacementFormed) : t.PlacementFormed :=
    ⟨⟨owned h.1.1, links h.1.2⟩, derived h⟩
  have o := listsOwned_byPlans.parts
  have l := linksFormed_kept
  { cold := fun s => both (o.cold s) (l.cold s) fun _ => by
      have same : s.coldReset.plan = reset.plan ∧ s.coldReset.mode = reset.mode ∧ s.coldReset.rl = reset.rl ∧
          s.coldReset.place = reset.place ∧ s.coldReset.boundary = reset.boundary := ⟨rfl, rfl, rfl, rfl, rfl⟩
      obtain ⟨plan, mode, rl, place, boundary⟩ := same
      exact reset_placementDerived.of_eq plan (by rw [mode]) rl place boundary
    queue := fun s q => both (o.queue s q) (l.queue s q) fun h => h.2.of_eq rfl rfl rfl rfl rfl
    due := fun s d => both (o.due s d) (l.due s d) fun h => h.2.of_eq rfl rfl rfl rfl rfl
    assertPin := fun s => both (o.assertPin s) (l.assertPin s) fun h => h.2.of_eq rfl rfl rfl rfl rfl
    endBoundary := fun s settled => both (o.endBoundary s settled) (l.endBoundary s settled) fun h =>
      h.2.of_inputs (.of_eq rfl rfl rfl) rfl rfl rfl rfl fun _ => settled
    settleBoundary := fun s => both (o.settleBoundary s) (l.settleBoundary s) fun h => h.2.settleBoundary h.1.2
    levelFieldTakesEffect := fun s c => both (o.levelFieldTakesEffect s c) (l.levelFieldTakesEffect s c) fun h =>
      h.2.levelFieldTakesEffect h.1.1 c
    linkSettingsTakeEffect := fun s r => both (o.linkSettingsTakeEffect s r) (l.linkSettingsTakeEffect s r) fun h =>
      h.2.linkSettingsTakeEffect r
    seekRunComplete := fun s r => both (o.seekRunComplete s r) (l.seekRunComplete s r) fun h => by
      unfold seekRunComplete
      split
      · next seeking => exact h.2.modRl_down r (by rw [seeking.1]; decide) nofun rfl
      · exact h.2
    farFlagChange := fun s r i => both (o.farFlagChange s r i) (l.farFlagChange s r i) fun h => by
      have changed := h.2.modRl r (f := fun l => { l with flags := l.flags.set i s.rl[r].flags[i].change })
        fun _ => ⟨rfl, rfl, rfl⟩
      unfold farFlagChange
      exact ite_keeps (ite_keeps (changed.of_eq rfl rfl rfl rfl rfl) (changed.of_eq rfl rfl rfl rfl rfl)) h.2
    echoFailure := fun s r => both (o.echoFailure s r) (l.echoFailure s r) fun h => by
      unfold echoFailure
      exact ite_keeps (h.2.restart r) h.2
    negotiationTimeout := fun s r => both (o.negotiationTimeout s r) (l.negotiationTimeout s r) fun h => by
      unfold negotiationTimeout
      exact ite_keeps (h.2.failNegotiation r) h.2
    negotiateAlignmentLoss := fun s r => both (o.negotiateAlignmentLoss s r) (l.negotiateAlignmentLoss s r) fun h => by
      unfold negotiateAlignmentLoss
      exact ite_keeps (h.2.failNegotiation r) h.2
    linkEntersUp := fun s r => both (o.linkEntersUp s r) (l.linkEntersUp s r) fun h => h.2.linkEntersUp r
    linkLostEntry := fun s r => both (o.linkLostEntry s r) (l.linkLostEntry s r) fun h => h.2.linkLostEntry r
    lostHoldEnd := fun s r => both (o.lostHoldEnd s r) (l.lostHoldEnd s r) fun h => by
      unfold lostHoldEnd
      exact ite_keeps (h.2.restart r) h.2
    linkSeekToUp := fun s x => both (o.linkSeekToUp s x) (l.linkSeekToUp s x) fun h => by
      refine h.2.of_eq ?_ ?_ ?_ ?_ ?_ <;> rw [linkSeekToUp_frame]
    linkUpToLost := fun s x => both (o.linkUpToLost s x) (l.linkUpToLost s x) fun h => by
      refine h.2.of_eq ?_ ?_ ?_ ?_ ?_ <;> rw [linkUpToLost_frame]
    linkLostHoldEnd := fun s x => both (o.linkLostHoldEnd s x) (l.linkLostHoldEnd s x) fun h => by
      refine h.2.of_eq ?_ ?_ ?_ ?_ ?_ <;> rw [linkLostHoldEnd_frame]
    lock := fun s => both (o.lock s) (l.lock s) fun h => h.2.of_eq rfl rfl rfl rfl rfl
    expireGate := fun s r c => both (o.expireGate s r c) (l.expireGate s r c) fun h => h.2.of_eq rfl rfl rfl rfl rfl
    windowEnd := fun s => both (o.windowEnd s) (l.windowEnd s) fun h => h.2.windowEnd
    guardStepDown := fun s r => both (o.guardStepDown s r) (l.guardStepDown s r) fun h => by
      refine h.2.of_eq ?_ ?_ ?_ ?_ ?_ <;> rw [guardStepDown_frame]
    autoQuietEntry := fun s => both (o.autoQuietEntry s) (l.autoQuietEntry s) fun h => by
      unfold autoQuietEntry
      exact ite_keeps (h.2.of_eq rfl rfl rfl rfl rfl) h.2
    switchover := fun s x => both (o.switchover s x) (l.switchover s x) fun h => h.2.switchover x
    hubModeDecision := fun s => both (o.hubModeDecision s) (l.hubModeDecision s) fun h => h.2.hubModeDecision
    pendingIsolationApply := fun s => both (o.pendingIsolationApply s) (l.pendingIsolationApply s) fun h =>
      h.2.pendingIsolationApply
    isolationTimerExpiry := fun s r => both (o.isolationTimerExpiry s r) (l.isolationTimerExpiry s r) fun h =>
      h.2.isolationTimerExpiry r
    warmResetApplied := fun s => both (o.warmResetApplied s) (l.warmResetApplied s) fun h => h.2.warmResetApplied
    alertPlacement := fun s => both (o.alertPlacement s) (l.alertPlacement s) fun h => by
      refine h.2.of_eq ?_ ?_ ?_ ?_ ?_ <;> rw [alertPlacement_frame]
    request := fun s x request ended => both (o.request s x request ended) (l.request s x request ended) fun h => by
      obtain ⟨code, scope, body, ch, tag, ps, own, e⟩ := effect_of_requestPhase request
      rw [e]
      exact request_keeps (fun _ _ h => h.of_eq rfl rfl rfl rfl rfl) h.2 fun c => h.2.of_commanded h.1.1 (own.commanded ps)
    makeBoundary := fun s cut => both (o.makeBoundary s cut) (l.makeBoundary s cut) fun h => h.2.makeBoundary cut
    startFrame := fun s => both (o.startFrame s) (l.startFrame s) fun h => h.2.startFrame
    remoteFrame := fun s r f => both (o.remoteFrame s r f) (l.remoteFrame s r f) fun h => by
      refine h.2.of_heard (.remoteFrame s r f) ?_ ?_ ?_ ?_ <;> rw [frame_of_restOfHearing (remoteFrame_restOfHearing s r f)]
    remoteBad := fun s r => both (o.remoteBad s r) (l.remoteBad s r) fun h => by
      refine h.2.of_heard (.remoteBad s r) ?_ ?_ ?_ ?_ <;> rw [frame_of_restOfHearing (remoteBad_restOfHearing s r)]
    operatorFrame := fun s x f => both (o.operatorFrame s x f) (l.operatorFrame s x f) fun h => by
      refine h.2.of_eq ?_ ?_ ?_ ?_ ?_ <;> rw [frame_of_restOfTerms (operatorFrame_restOfTerms s x f)]
    trunkFrame := fun s f => both (o.trunkFrame s f) (l.trunkFrame s f) fun h => by
      refine h.2.of_eq ?_ ?_ ?_ ?_ ?_ <;> rw [frame_of_restOfTerms (trunkFrame_restOfTerms s f)]
    termBad := fun s x => both (o.termBad s x) (l.termBad s x) fun h => by
      refine h.2.of_eq ?_ ?_ ?_ ?_ ?_ <;> rw [frame_of_restOfTerms (termBad_restOfTerms s x)]
    deadline := fun s n => both (o.deadline s n) (l.deadline s n) fun h => by
      refine h.2.of_heard (.settling (deadline_restOfSettling s n)) ?_ ?_ ?_ ?_ <;>
        rw [frame_of_restOfSettling (deadline_restOfSettling s n)] }

end Sys2Proof.Machine.State

namespace Sys2Proof.Proofs

open Sys2Proof.Machine Sys2Proof.Machine.State

/-- Settles O57: a step that changes what a record derives from derives it again, and brings the conditions up to date. -/
theorem placementInvariant : Obligations.PlacementInvariant := fun _ _ formed derived e =>
  placementFormed_kept.step ⟨formed, derived⟩ e

end Sys2Proof.Proofs
end

section
/-! The statements on the queue and on the values after reset (R28, R49, R74, R96, R110, R134, R153, R174, R195). -/

namespace Sys2Proof.Machine.State

/-! ## The blocks after a cold reset -/

theorem reset_rl (r : RemoteId) : reset.rl[r] = RemoteLink.cold := by simp [reset]

theorem reset_term (l : TermLinkId) : reset.term l = TermLink.cold := by
  cases l with
  | op o => simp [reset, term]
  | trunk => rfl

theorem reset_carrier (c : CarrierId) : reset.carrier c = CarrierRecord.unused := by simp [reset, carrier]

theorem reset_opPlan (o : OpId) : reset.opPlan o = ⟨.cold, .cold, .clean⟩ := by simp [reset, opPlan]

theorem reset_record (r : RemoteId) : reset.record r = .empty := by simp [reset, record]

theorem reset_bal (o : OpId) : reset.bal[o] = BalancerOp.cold := by simp [reset]

end Sys2Proof.Machine.State

namespace Sys2Proof.Proofs

open Sys2Proof.Machine Sys2Proof.Machine.State

/-- Settles O1: by the definition of a step. -/
theorem stepTakesFront : Obligations.StepTakesFront := by
  intro s c rest front
  unfold step
  rw [front]

/-- Settles O2: block by block, from the cold value of each. -/
theorem coldResetValues : Obligations.ColdResetValues := by
  refine ⟨⟨rfl, rfl, rfl⟩, fun r => ?_, fun l => ?_, reset_carrier, fun o => ?_, ⟨reset_record, fun x => ?_⟩, ?_, ?_,
    fun o => ?_, ?_, ?_, ?_⟩
  · rw [reset_rl]
    simp [RemoteLink.cold]
  · rw [reset_term]
    simp [TermLink.cold]
  · rw [reset_opPlan]
    simp [Bank.cold]
  · simp [reset]
  · simp [reset, gate]
  · simp [reset, Snapshot.empty]
  · rw [reset_bal]
    simp [BalancerOp.cold]
  · simp [reset]
  · simp [reset]
  · simp [reset]

/-- Settles O3: each invariant on the cold values. -/
theorem resetInvariants : Obligations.ResetInvariants := by
  have links (r : RemoteId) : reset.rl[r].state = .seek := by rw [reset_rl]; rfl
  refine ⟨coldReset_placesBounded reset, .coldReset reset, fun r => ?_, ⟨List.nodup_nil, nofun, fun r => ?_, fun x => ?_⟩,
    cleanMatches_byPlans.cold reset, (banksFormed_byPlans.cold reset).2, ⟨listsOwned_byPlans.cold reset, fun r => ?_⟩,
    reset_placementDerived, ⟨Nat.zero_le _, List.nodup_nil, nofun⟩, fun r => ?_⟩
  · simp [reset]
  · rw [reset_rl]
    exact Nat.zero_le _
  · simp [reset]
  · exact LinkFormed.of_state (by rw [links]; decide) (by rw [links]; decide)
  · rw [links]
    exact ⟨fun ⟨_, mem, _⟩ => absurd mem List.not_mem_nil, nofun⟩

end Sys2Proof.Proofs
end

section
/-! SUPPORT. What a command does when nothing is owed, and what an owed step does when it is next. -/

namespace Sys2Proof.Machine.State

variable {s : State}

theorem exec_of_next {x : Instr} (early : phase x < requestPhase) (alert : x ≠ .alertPlacement) (next : s.Next x) :
    exec x s = .next (effect x (s.dropDue x)) := by
  rw [exec_eq_owedStep early alert, awake_next _ _ next.1, owedStep_of_next s x next]

theorem exec_of_not_owed {x : Instr} (early : phase x < requestPhase) (awake' : s.resetPin = false) (absent : x ∉ s.due) :
    exec x s = .next s := by
  by_cases alert : x = .alertPlacement
  · subst alert
    rw [exec_alertPlacement, awake_next _ _ awake', owedFreely, if_neg (by simpa using absent)]
  · rw [exec_eq_owedStep early alert, awake_next _ _ awake', owedStep_of_not_owed s x absent]

theorem exec_request_of_quiet {x : Instr} (request : phase x = requestPhase) (quiet : s.Quiet) :
    exec x s = .next (effect x s) := by
  rw [exec_eq_requestStep request, awake_next _ _ quiet.1, requestStep_of_quiet s x quiet]

theorem exec_superframeBoundary_of_quiet (quiet : s.Quiet) : exec .superframeBoundary s = .next (s.makeBoundary false) := by
  rw [exec_superframeBoundary, awake_next _ _ quiet.1, drain_of_quiet s quiet]

theorem exec_remoteFrame_of_quiet (r : RemoteId) (f : RemoteFrame) (quiet : s.Quiet) :
    exec (.remoteFrameReceived r f) s = .next (s.remoteFrame r f) := by
  rw [exec_remoteFrameReceived, awake_next _ _ quiet.1, drain_of_quiet s quiet]

theorem exec_missingRemote_of_quiet (r : RemoteId) (quiet : s.Quiet) :
    exec (.missingFramePeriod (.remote r)) s = .next (s.remoteBad r) := by
  rw [exec_missingFramePeriod_remote, awake_next _ _ quiet.1, drain_of_quiet s quiet]

theorem exec_missingTerm_of_quiet (l : TermLinkId) (quiet : s.Quiet) :
    exec (.missingFramePeriod (.term l)) s = .next (s.termBad l) := by
  rw [exec_missingFramePeriod_term, awake_next _ _ quiet.1, drain_of_quiet s quiet]

theorem exec_operatorFrame_of_quiet (o : OpId) (f : TermFrame) (quiet : s.Quiet) :
    exec (.operatorFrameReceived o f) s = .next (s.operatorFrame o f) := by
  rw [exec_operatorFrameReceived, awake_next _ _ quiet.1, startAtBoundary_of_quiet s _ f quiet, drain_of_quiet s quiet]

theorem exec_trunkFrame_of_quiet (f : TermFrame) (quiet : s.Quiet) :
    exec (.trunkFrameReceived f) s = .next (s.trunkFrame f) := by
  rw [exec_trunkFrameReceived, awake_next _ _ quiet.1, startAtBoundary_of_quiet s _ f quiet, drain_of_quiet s quiet]

theorem exec_blockDeadline_of_quiet (quiet : s.Quiet) :
    exec .blockDeadline s = .next (s.deadline (s.tb.label - 1)) := by
  rw [exec_blockDeadline, awake_next _ _ quiet.1, drain_of_quiet s quiet]

/-- The link frame that starts is not preceded by a boundary unless link frame 79 is in progress. -/
theorem nextFrame_of_quiet (quiet : s.Quiet) (notLast : ∀ lf, s.tb.lf = some lf → lf < lastFrame) :
    s.nextFrame = s.startFrame := by
  unfold nextFrame
  rw [drain_of_quiet s quiet]
  dsimp only
  split
  · next lf found => rw [if_neg (by simpa using notLast lf found)]
  · rfl

theorem exec_linkFrameStart_of_quiet (quiet : s.Quiet) (notLast : ∀ lf, s.tb.lf = some lf → lf < lastFrame) :
    exec .linkFrameStart s = .next s.startFrame := by
  have e : exec .linkFrameStart s = awake s fun s => s.nextFrame := rfl
  rw [e, awake_next _ _ quiet.1, nextFrame_of_quiet quiet notLast]

end Sys2Proof.Machine.State
end

section
/-! The statement on active banks (R41). -/

namespace Sys2Proof.Machine.State

variable {s t : State}

theorem active_of_plans (same : t.plan.plans = s.plan.plans) (o : OpId) : (t.opPlan o).active = (s.opPlan o).active := by
  unfold opPlan
  rw [same]

theorem modPlan_active (s : State) (q : OpId) {f : OperatorPlan → OperatorPlan} (same : ∀ p, (f p).active = p.active)
    (o : OpId) : ((s.modPlan q f).opPlan o).active = (s.opPlan o).active := by
  by_cases e : o = q
  · subst e
    rw [opPlan_modPlan_same, same]
  · rw [opPlan_modPlan_other _ _ e]

/-- No request writes an active bank. -/
theorem active_of_commanded {ch : Channel} (c : Commanded ch s t) (o : OpId) : (t.opPlan o).active = (s.opPlan o).active := by
  cases c
  case linkSet x => exact active_of_plans (by rw [modRl_plan, applyOffered_frame, applyEnable_frame]) o
  case restart r _ _ => exact active_of_plans (by rw [restart_frame]) o
  case timing => exact active_of_plans (by rw [setTimebase_eq]) o
  case restore r _ => exact active_of_plans (by rw [restart_frame]; rfl) o
  case define => exact active_of_plans (by split <;> rfl) o
  case sector => exact modPlan_active _ _ (by intro _; rfl) o
  case zone => exact modPlan_active _ _ (by intro _; rfl) o
  case home => exact modPlan_active _ _ (by intro _; rfl) o
  case commit => exact modPlan_active _ _ (by intro _; rfl) o
  case revert => exact modPlan_active _ _ (by intro _; rfl) o
  case accept p bal a _ => exact modPlan_active { s with bal := bal } _ (by intro _; rfl) o
  case disarm p data =>
    have cancelled : ((cancelArmed s p ch).opPlan o).active = (s.opPlan o).active := by
      unfold cancelArmed
      split
      · exact modPlan_active _ _ (by intro _; rfl) o
      · exact modPlan_active _ _ (by intro _; rfl) o
      · rfl
    rw [complete_eq]
    exact cancelled
  case unrequest => exact active_of_plans (by rw [complete_eq]) o
  case unpend => exact active_of_plans (by rw [complete_eq]) o
  all_goals rfl

theorem active_of_request {x : Instr} (request : phase x = requestPhase) (s : State) (o : OpId) :
    ((effect x s).opPlan o).active = (s.opPlan o).active := by
  obtain ⟨code, scope, body, ch, tag, ps, own, e⟩ := effect_of_requestPhase request
  rw [e]
  exact request_keeps (P := fun t => (t.opPlan o).active = (s.opPlan o).active) (fun _ _ h => h) rfl fun _ =>
    active_of_commanded (own.commanded ps) o

/-- No event but the end of a superframe and a reset writes an active bank. -/
theorem active_of_event {c : Instr} (late : requestPhase < phase c) (quiet : s.Quiet) (release : c ≠ .resetPinRelease)
    (notLast : c = .linkFrameStart → ∀ lf, s.tb.lf = some lf → lf < 79) (e : exec c s = .next t) (o : OpId) :
    (t.opPlan o).active = (s.opPlan o).active := by
  cases c
  case resetPinRelease => contradiction
  case resetPinAssert =>
    have pin : exec .resetPinAssert s = awake s assertPin := rfl
    rw [pin, awake_next _ _ quiet.1] at e
    cases e
    rfl
  case linkFrameStart =>
    rw [exec_linkFrameStart_of_quiet quiet (notLast rfl)] at e
    cases e
    exact active_of_plans (by rw [startFrame_frame]) o
  case superframeBoundary =>
    rw [exec_superframeBoundary_of_quiet quiet] at e
    cases e
    exact active_of_plans (by rw [makeBoundary_frame]) o
  case remoteFrameReceived r f =>
    rw [exec_remoteFrame_of_quiet r f quiet] at e
    cases e
    exact active_of_plans (by rw [frame_of_restOfHearing (remoteFrame_restOfHearing s r f)]) o
  case missingFramePeriod l =>
    cases l with
    | remote r =>
      rw [exec_missingRemote_of_quiet r quiet] at e
      cases e
      exact active_of_plans (by rw [frame_of_restOfHearing (remoteBad_restOfHearing s r)]) o
    | term l =>
      rw [exec_missingTerm_of_quiet l quiet] at e
      cases e
      exact active_of_plans (by rw [frame_of_restOfTerms (termBad_restOfTerms s l)]) o
  case operatorFrameReceived q f =>
    rw [exec_operatorFrame_of_quiet q f quiet] at e
    cases e
    exact active_of_plans (by rw [frame_of_restOfTerms (operatorFrame_restOfTerms s q f)]) o
  case trunkFrameReceived f =>
    rw [exec_trunkFrame_of_quiet f quiet] at e
    cases e
    exact active_of_plans (by rw [frame_of_restOfTerms (trunkFrame_restOfTerms s f)]) o
  case blockDeadline =>
    rw [exec_blockDeadline_of_quiet quiet] at e
    cases e
    exact active_of_plans (by rw [frame_of_restOfSettling (deadline_restOfSettling s _)]) o
  all_goals simp only [phase, requestPhase, Nat.lt_irrefl, Nat.reduceLT] at late

/-- An owed step other than a switchover and a cold reset leaves every active bank. -/
theorem active_of_timed {x : Instr} (early : phase x < requestPhase) (s : State) (o : OpId) :
    ((effect x s).opPlan o).active = (s.opPlan o).active ∨
      (x = .switchover o ∧ s.isArmed o = true ∧ ((effect x s).opPlan o).active = (s.opPlan o).staged) ∨
      x = .coldResetApplied := by
  have left {u : State} (same : u.plan.plans = s.plan.plans) (z : Prop) :
      (u.opPlan o).active = (s.opPlan o).active ∨ z := .inl (active_of_plans same o)
  cases x
  case levelFieldTakesEffect c => exact left (by dsimp only [effect]; rw [levelFieldTakesEffect_frame]) _
  case linkSettingsTakeEffect r => exact left (by dsimp only [effect]; rw [linkSettingsTakeEffect_frame]) _
  case seekRunComplete r => exact left (by dsimp only [effect]; rw [seekRunComplete_frame]) _
  case farFlagChange r i => exact left (by dsimp only [effect]; rw [farFlagChange_frame]) _
  case echoFailure r => exact left (by dsimp only [effect]; rw [frame_of_restOfLinks (echoFailure_restOfLinks s r)]) _
  case negotiationTimeout r =>
    exact left (by dsimp only [effect]; rw [frame_of_restOfLinks (negotiationTimeout_restOfLinks s r)]) _
  case negotiateAlignmentLoss r =>
    exact left (by dsimp only [effect]; rw [frame_of_restOfLinks (negotiateAlignmentLoss_restOfLinks s r)]) _
  case linkEntersUp r => exact left (by dsimp only [effect]; rw [linkEntersUp_frame]) _
  case linkLostEntry r => exact left (by dsimp only [effect]; rw [frame_of_restOfLinks (linkLostEntry_restOfLinks s r)]) _
  case lostHoldEnd r => exact left (by dsimp only [effect]; rw [frame_of_restOfLinks (lostHoldEnd_restOfLinks s r)]) _
  case linkSeekToUp l => exact left (by dsimp only [effect]; rw [linkSeekToUp_frame]) _
  case linkUpToLost l => exact left (by dsimp only [effect]; rw [linkUpToLost_frame]) _
  case linkLostHoldEnd l => exact left (by dsimp only [effect]; rw [linkLostHoldEnd_frame]) _
  case timebaseRelock b =>
    have locks (t : State) : t.lock.plan.plans = t.plan.plans := rfl
    refine left ?_ _
    dsimp only [effect]
    unfold timebaseRelock
    split
    · split
      · exact locks s
      · rw [locks, makeBoundary_frame]
    · rfl
  case gateHoldExpiry r c => exact left rfl _
  case windowEnd => exact .inl (windowEnd_active s o)
  case guardStepDown r => exact left (by dsimp only [effect]; rw [guardStepDown_frame]) _
  case autoQuietEntry => exact left (by dsimp only [effect]; rw [autoQuietEntry_frame]) _
  case switchover q =>
    dsimp only [effect]
    cases armed : s.isArmed q with
    | false => rw [switchover_of_not_armed armed]; exact .inl rfl
    | true =>
      by_cases e : o = q
      · subst e
        refine .inr (.inl ⟨rfl, armed, ?_⟩)
        unfold opPlan
        rw [switchover_plans armed]
        exact congrArg OperatorPlan.active (opPlan_modPlan_same s o takeStaged)
      · refine .inl ?_
        unfold opPlan
        rw [switchover_plans armed]
        exact congrArg OperatorPlan.active (opPlan_modPlan_other s takeStaged e)
  case hubModeDecision => exact left (by dsimp only [effect]; rw [hubModeDecision_frame]) _
  case pendingIsolationApply => exact left (by dsimp only [effect]; rw [pendingIsolationApply_frame]) _
  case isolationTimerExpiry r => exact left (by dsimp only [effect]; rw [isolationTimerExpiry_frame]) _
  case warmResetApplied =>
    have plan : s.warmBlocks.opPlan o = { s.opPlan o with staged := (s.opPlan o).active, state := .clean } := getElem_tab _ o
    refine .inl ?_
    have same : (effect .warmResetApplied s).plan = s.warmBlocks.plan := by dsimp only [effect]; rw [warmResetApplied_frame]
    unfold opPlan at plan ⊢
    rw [same, plan]
  case coldResetApplied => exact .inr (.inr rfl)
  case alertPlacement => exact left (by dsimp only [effect]; rw [alertPlacement_frame]) _
  all_goals simp only [phase, requestPhase, Nat.lt_irrefl, Nat.reduceLT] at early

end Sys2Proof.Machine.State

namespace Sys2Proof.Proofs

open Sys2Proof.Machine Sys2Proof.Machine.State

/-- Settles O60: no event, request or owed step writes an active bank, but a switchover and a cold reset. -/
theorem activeBankOnlyBySwitchover : Obligations.ActiveBankOnlyBySwitchover := by
  refine ⟨fun s t c quiet release notLast e o => ?_, fun s t x next early alert e o => ?_⟩
  · rcases Nat.lt_trichotomy (phase c) requestPhase with early | request | late
    · have absent : c ∉ s.due := by rw [quiet.2.1]; exact List.not_mem_nil
      rw [exec_of_not_owed early quiet.1 absent] at e
      cases e
      rfl
    · rw [exec_request_of_quiet request quiet] at e
      cases e
      exact active_of_request request s o
    · exact active_of_event late quiet release notLast e o
  · rw [exec_of_next early alert next] at e
    cases e
    exact active_of_timed early (s.dropDue x) o

end Sys2Proof.Proofs
end

section
/-! SUPPORT. What a raise records (R158, R159), and which operations keep it recorded. -/

namespace Sys2Proof.Machine.Supervision

variable {p q : Supervision} {now : Count} {key other : Key}

/-- The key has an ACTIVE entry, or the overflow flag is set. -/
def Records (p : Supervision) (key : Key) : Prop := (∃ e ∈ p.alarms, e.key = key ∧ e.active = true) ∨ p.overflow = true

@[simp] theorem count_overflow (p : Supervision) : p.count.overflow = p.overflow := rfl

@[simp] theorem countKind_overflow (p : Supervision) (k : Kind) : (p.countKind k).overflow = p.overflow := by
  unfold countKind
  split <;> rfl

@[simp] theorem setOverflow_overflow (p : Supervision) : p.setOverflow.overflow = true := by
  unfold setOverflow
  split
  · assumption
  · rfl

@[simp] theorem append_overflow (p : Supervision) (now : Count) (key : Key) : (p.append now key).overflow = p.overflow := by
  simp [append]

/-- What keeps the ACTIVE entries and the overflow flag keeps what is recorded. -/
theorem Records.of_kept (h : p.Records key) (kept : ∀ e ∈ p.alarms, e.key = key → e.active = true → ∃ x ∈ q.alarms, x.key = key ∧ x.active = true)
    (overflow : q.overflow = p.overflow) : q.Records key := by
  rcases h with ⟨e, mem, own, active⟩ | full
  · exact .inl (kept e mem own active)
  · exact .inr (overflow.trans full)

theorem Records.of_same (h : p.Records key) (alarms : q.alarms = p.alarms) (overflow : q.overflow = p.overflow) : q.Records key :=
  h.of_kept (fun e mem own active => ⟨e, by rwa [alarms], own, active⟩) overflow

theorem append_records (p : Supervision) (now : Count) (key : Key) : (p.append now key).Records key :=
  .inl ⟨⟨key, true, now, now, 1⟩, by simp, rfl, rfl⟩

theorem raiseNew_records (p : Supervision) (now : Count) (key : Key) : (p.raiseNew now key).Records key := by
  rcases p.raiseNew_cases now key with ⟨e, _⟩ | ⟨x, _, _, e⟩ | ⟨e, _⟩ <;> rw [e]
  · exact append_records ..
  · exact append_records ..
  · exact .inr (setOverflow_overflow _)

/-- A raise is recorded (R158, R159). -/
theorem raise_records (p : Supervision) (now : Count) (key : Key) : (p.raise now key).Records key := by
  unfold raise
  split
  · exact raiseNew_records ..
  · next e found =>
    have mem := List.mem_of_find?_eq_some found
    have own : e.key = key := by simpa using List.find?_some found
    split
    · next active => exact .inl ⟨e, mem, own, active⟩
    · refine .inl ⟨{ e with active := true, last := now, occ := satInc max16 e.occ }, ?_, own, rfl⟩
      rw [countKind_alarms]
      exact List.mem_map.mpr ⟨e, mem, if_pos own⟩

theorem Records.append (h : p.Records key) (now : Count) (other : Key) : (p.append now other).Records key :=
  h.of_kept (fun e mem own active => ⟨e, by simp [mem], own, active⟩) (append_overflow ..)

theorem Records.mapEntry (h : p.Records key) {f : AlarmEntry → AlarmEntry} (own : ∀ e, (f e).key = e.key)
    (active : ∀ e, other = key → e.active = true → (f e).active = true) : (p.mapEntry other f).Records key := by
  refine h.of_kept (fun e mem mine up => ⟨if e.key = other then f e else e, List.mem_map.mpr ⟨e, mem, rfl⟩, ?_, ?_⟩) rfl
  · split
    · rw [own, mine]
    · exact mine
  · split
    · next same => exact active e (same.symm.trans mine) up
    · exact up

theorem Records.countKind (h : p.Records key) (k : Kind) : (p.countKind k).Records key :=
  h.of_same (countKind_alarms p k) (countKind_overflow p k)

/-- A raise of any key evicts no ACTIVE entry: what is recorded stays recorded. -/
theorem Records.raiseNew (h : p.Records key) (now : Count) (other : Key) : (p.raiseNew now other).Records key := by
  have raced : (p.endRace now other).Records key := h.of_same rfl rfl
  rcases p.raiseNew_cases now other with ⟨e, _⟩ | ⟨x, _, cleared, e⟩ | ⟨e, _⟩ <;> rw [e]
  · exact raced.append ..
  · have evicted : Records { p.endRace now other with alarms := p.alarms.eraseP fun e => !e.active } key := by
      refine h.of_kept (fun e mem own active => ⟨e, ?_, own, active⟩) rfl
      exact (List.mem_eraseP_of_neg (by simp [active])).mpr mem
    exact (evicted.countKind _).append ..
  · exact .inr (setOverflow_overflow _)

theorem Records.raise (h : p.Records key) (now : Count) (other : Key) : (p.raise now other).Records key := by
  unfold Supervision.raise
  split
  · exact h.raiseNew ..
  · split
    · exact h
    · exact (h.mapEntry (by intro _; rfl) (by intros; rfl)).countKind _

theorem Records.clear (h : p.Records key) (now : Count) (ne : other ≠ key) : (p.clear now other).Records key := by
  unfold Supervision.clear
  split
  · exact h
  · split
    · exact (h.mapEntry (by intro _; rfl) (by intro _ e; exact absurd e ne)).countKind _
    · exact h

theorem Records.resweep (h : p.Records key) (now : Count) (holding : List Key) : (p.resweep now holding).Records key := by
  induction holding generalizing p with
  | nil => exact h
  | cons x rest ih =>
    refine ih ?_
    dsimp only
    split
    · exact h.raiseNew ..
    · exact h

end Sys2Proof.Machine.Supervision

namespace Sys2Proof.Machine.State

variable {s t : State} {key : Key}

theorem recorded_iff : s.Recorded key ↔ s.sup.Records key := Iff.rfl

theorem raise_recorded (s : State) (key : Key) : (s.raise key).Recorded key := Supervision.raise_records ..

theorem Recorded.of_sup (h : s.Recorded key) (same : t.sup = s.sup) : t.Recorded key := by rwa [Recorded, same]

theorem Recorded.raise (h : s.Recorded key) (other : Key) : (s.raise other).Recorded key := Supervision.Records.raise h ..

theorem Recorded.clear (h : s.Recorded key) {other : Key} (ne : other ≠ key) : (s.clear other).Recorded key :=
  Supervision.Records.clear h _ ne

theorem Recorded.hand (h : s.Recorded key) {other : Key} (ne : other ≠ key) (before now : Bool) :
    (s.hand other before now).Recorded key := by
  unfold State.hand
  split
  · exact h
  · split
    · exact h.raise other
    · exact h.clear ne

/-- A condition that begins is raised. -/
theorem hand_begin_recorded (s : State) (key : Key) : (s.hand key false true).Recorded key := raise_recorded s key

end Sys2Proof.Machine.State
end

section
/-! SUPPORT. The steps of a remote link whose condition holds (sections 1.3 to 1.5). -/

namespace Sys2Proof.Machine.State

variable {s t : State} {r : RemoteId}

/-- An owed step that is next is what its command does. -/
theorem exec_next {x : Instr} (next : s.Next x) (early : phase x < requestPhase := by simp [phase, requestPhase])
    (alert : x ≠ .alertPlacement := by simp) : exec x s = .next (effect x (s.dropDue x)) := exec_of_next early alert next

/-! ## Restarts -/

/-- A restart of a link whose failure has been counted is a restart of the link. -/
theorem failNegotiation_restarted (s : State) (r : RemoteId) : s.Restarted (s.failNegotiation r) r .seek := by
  have restarted := restart_restarted (s.modRl r fun l => { l with negFail := satInc max32 l.negFail }) r
  rw [Restarted, modRl_same] at restarted
  obtain ⟨h1, h2, h3, h4, h5, h6, h7, h8, h9, h10, h11, h12, h13, h14, h15, h16, h17, h18, guard, left, others, rest⟩ := restarted
  refine ⟨h1, h2, h3, h4, h5, h6, h7, h8, h9, h10, h11, h12, h13, h14, h15, h16, h17, h18, guard, left, ?_, rest⟩
  intro q other
  obtain ⟨link, gates, record⟩ := others q other
  exact ⟨link.trans (modRl_other s _ other), gates, record⟩

theorem failNegotiation_negFail (s : State) (r : RemoteId) :
    (s.failNegotiation r).rl[r].negFail = min (s.rl[r].negFail + 1) 4294967295 := by
  unfold failNegotiation
  rw [restart_negFail, modRl_same]
  rfl

theorem negotiationTimeout_of_due (state : s.rl[r].state = .negotiate) (timer : 10 ≤ s.rl[r].negTimer) :
    s.negotiationTimeout r = s.failNegotiation r := if_pos ⟨state, timer⟩

theorem negotiateAlignmentLoss_of_due (state : s.rl[r].state = .negotiate) (run : 8 ≤ s.rl[r].badRun) :
    s.negotiateAlignmentLoss r = s.failNegotiation r := if_pos ⟨state, run⟩

theorem lostHoldEnd_of_due (state : s.rl[r].state = .lost) (timer : 50 ≤ s.rl[r].holdTimer) :
    s.lostHoldEnd r = s.restart r := if_pos ⟨state, timer⟩

theorem echoFailure_of_due (state : s.rl[r].state = .up) (run : 3 ≤ s.rl[r].echoRun) : s.echoFailure r = s.restart r :=
  if_pos ⟨state, run⟩

/-! ## Into UP -/

/-- The link record that a CONFIRMED negotiation leaves. -/
def enteredUp (l : RemoteLink) : RemoteLink :=
  { l with
    state := .up, phase := .none, format := l.chosen, chosen := none, flags := Vector.replicate 4 ⟨false, 0⟩
    echoRun := 0, badRun := 0, lostCond := false }

/-- A link enters UP, and its record is still to be derived. -/
def enterUp (s : State) (r : RemoteId) : State :=
  (s.modRl r fun l =>
    { l with
      state := .up, phase := .none, format := l.chosen, chosen := none, flags := Vector.replicate 4 ⟨false, 0⟩
      echoRun := 0, badRun := 0 }).endLost r

theorem linkEntersUp_of_confirmed (state : s.rl[r].state = .negotiate) (phase : s.rl[r].phase = .confirmed) :
    s.linkEntersUp r = ((s.enterUp r).recompute r).placementChanged := if_pos ⟨state, phase⟩

theorem enterUp_rl (s : State) (r : RemoteId) : (s.enterUp r).rl = (s.modRl r enteredUp).rl := by
  unfold enterUp endLost
  rw [clear_rl]
  simp [modRl, enteredUp]
theorem enterUp_plan (s : State) (r : RemoteId) : (s.enterUp r).plan = s.plan := rfl
theorem enterUp_mode (s : State) (r : RemoteId) : (s.enterUp r).mode = s.mode := rfl
theorem enterUp_place (s : State) (r : RemoteId) : (s.enterUp r).place = s.place := rfl
theorem enterUp_comb (s : State) (r : RemoteId) : (s.enterUp r).comb = s.comb := rfl

theorem recompute_record_same (s : State) (r : RemoteId) : (s.recompute r).record r = s.derive r := setRecord_same ..

/-! ## Into LOST -/

/-- The link record that the loss of an UP link leaves. -/
def lostUp (l : RemoteLink) : RemoteLink :=
  { leftUp l with state := .lost, lostEntries := satInc max32 l.lostEntries, holdTimer := 0, lostCond := true }

theorem linkLostEntry_of_due (state : s.rl[r].state = .up) (run : 8 ≤ s.rl[r].badRun) :
    s.linkLostEntry r = ((s.leaveUp r .lost).modRl r fun l =>
      { l with lostEntries := satInc max32 l.lostEntries, holdTimer := 0 }).beginLost r := if_pos ⟨state, run⟩

theorem beginLost_rl (s : State) (r : RemoteId) : (s.beginLost r).rl = (s.modRl r fun l => { l with lostCond := true }).rl := rfl
theorem beginLost_place (s : State) (r : RemoteId) : (s.beginLost r).place = s.place := rfl
theorem beginLost_comb (s : State) (r : RemoteId) : (s.beginLost r).comb = s.comb := rfl

end Sys2Proof.Machine.State
end

section
/-! The statements on the steps of a remote link. -/

namespace Sys2Proof.Proofs

open Sys2Proof.Machine Sys2Proof.Machine.State

/-- Settles O20: each of the four steps is a link restart, and the first two restart a link whose failure has been counted. -/
theorem linkRestarts : Obligations.LinkRestarts := by
  refine ⟨fun s r next state timer => ?_, fun s r next state run => ?_, fun s r next state timer => ?_,
    fun s r next state run => ?_⟩
  · refine ⟨_, exec_next next, ?_⟩
    rw [effect, negotiationTimeout_of_due (s := s.dropDue _) state timer]
    exact ⟨failNegotiation_restarted _ r, failNegotiation_negFail _ r⟩
  · refine ⟨_, exec_next next, ?_⟩
    rw [effect, negotiateAlignmentLoss_of_due (s := s.dropDue _) state run]
    exact ⟨failNegotiation_restarted _ r, failNegotiation_negFail _ r⟩
  · refine ⟨_, exec_next next, ?_⟩
    rw [effect, lostHoldEnd_of_due (s := s.dropDue _) state timer]
    exact ⟨restart_restarted _ r, restart_negFail _ r⟩
  · refine ⟨_, exec_next next, ?_⟩
    rw [effect, echoFailure_of_due (s := s.dropDue _) state run]
    exact ⟨restart_restarted _ r, restart_negFail _ r⟩

/-- Settles O19: the record of a link that enters UP is derived from the inputs in force. -/
theorem linkComesUp : Obligations.LinkComesUp := by
  refine ⟨fun s r next state run => ?_, fun s r f next state confirmed chosen => ?_⟩
  · rw [exec_next next, effect, seekRunComplete, if_pos]
    exact ⟨state, run⟩
  · refine ⟨_, exec_next next, ?_⟩
    have rest := sameButLinks_of_restOfLinks (linkEntersUp_restOfLinks (s.dropDue (.linkEntersUp r)) r)
    rw [effect]
    rw [linkEntersUp_of_confirmed (s := s.dropDue _) state confirmed] at *
    generalize hu : (s.dropDue (.linkEntersUp r)).enterUp r = u at *
    have rl : u.rl = (s.modRl r enteredUp).rl := by rw [← hu, enterUp_rl]; rfl
    have plan : u.plan = s.plan := by rw [← hu]; rfl
    have mode : u.mode = s.mode := by rw [← hu]; rfl
    have place : u.place = s.place := by rw [← hu]; rfl
    have comb : u.comb = s.comb := by rw [← hu]; rfl
    have link : u.rl[r] = enteredUp s.rl[r] := by rw [rl, modRl_same]
    refine ⟨?_, ?_, fun q other => ⟨?_, ?_, ?_⟩, rest, ?_⟩
    · rw [placementChanged_rl, recompute_rl, link, enteredUp, chosen]
    · rw [placementChanged_record, recompute_record_same]
      have format : u.upFormat r = some f := upFormat_of_up (by rw [link]; rfl) (by rw [link]; exact chosen)
      unfold derive
      rw [format]
      dsimp only [record]
      rw [link, plan, mode, place]
      rfl
    · rw [placementChanged_rl, recompute_rl, rl, modRl_other _ _ other]
    · rw [placementChanged_comb, recompute_comb, comb]
    · rw [placementChanged_record, recompute_record_other _ other, record, place]
      rfl
    · rw [placementChanged_comb, recompute_comb, comb]

/-- Settles O21: leaving UP empties the record and the flags, and the raise of LINK_LOST comes last. -/
theorem linkLostEntry : Obligations.LinkLostEntry := by
  intro s r next state run
  refine ⟨_, exec_next next, ?_⟩
  have rest := sameButLinks_of_restOfLinks (linkLostEntry_restOfLinks (s.dropDue (.linkLostEntry r)) r)
  rw [effect] at *
  rw [linkLostEntry_of_due (s := s.dropDue (.linkLostEntry r)) state run] at *
  generalize hu : s.dropDue (.linkLostEntry r) = u at *
  have links : u.rl = s.rl := by rw [← hu]; rfl
  have records : u.place = s.place := by rw [← hu]; rfl
  have gates : u.comb = s.comb := by rw [← hu]; rfl
  generalize ht : ((u.leaveUp r .lost).modRl r _).beginLost r = t at *
  have link : t.rl[r] = lostUp s.rl[r] := by
    rw [← ht, beginLost_rl, modRl_same, modRl_same, leaveUp_rl, modRl_same, links]
    rfl
  have others : ∀ q : RemoteId, q ≠ r → t.rl[q] = s.rl[q] := by
    intro q other
    rw [← ht, beginLost_rl, modRl_other _ _ other, modRl_other _ _ other, leaveUp_rl, modRl_other _ _ other, links]
  have place : t.place = (u.leaveUp r .lost).place := by rw [← ht]; rfl
  have comb : t.comb = (u.leaveUp r .lost).comb := by rw [← ht]; rfl
  have empty : t.record r = .empty := by
    rw [record, place]
    exact leaveUp_record_same u r (by decide)
  have recorded : t.Recorded ⟨.linkLost, .remote r⟩ := by
    rw [← ht]
    exact raise_recorded _ _
  have kept : t.comb.gates = s.comb.gates := by rw [comb, leaveUp_gates, gates]
  have holds : t.holds ⟨.linkLost, .remote r⟩ = true := by
    have own : t.holds ⟨.linkLost, .remote r⟩ = t.rl[r].lostCond := rfl
    rw [own, link]
    rfl
  have record : ∀ q : RemoteId, q ≠ r → t.record q = s.record q := by
    intro q other
    rw [State.record, place]
    refine (leaveUp_record_other u .lost other).trans ?_
    rw [State.record, records]
    rfl
  refine ⟨?_, ?_, ?_, ?_, ?_, ?_, ⟨?_, ?_, ?_, ?_, empty⟩, holds, recorded, kept,
    fun q other => ⟨others q other, by rw [kept], record q other⟩, rest⟩
  all_goals
    rw [link]
    rfl

end Sys2Proof.Proofs
end

section
/-! SUPPORT. Settings that take effect at a boundary, and the gate (R20, R31, R57, R81). -/

namespace Sys2Proof.Machine.State

variable {s : State}

/-! ## Recomputations of some remotes -/

theorem foldl_recompute_other {l : List RemoteId} {q : RemoteId} (absent : q ∉ l) (s : State) :
    (l.foldl recompute s).record q = s.record q := by
  induction l generalizing s with
  | nil => rfl
  | cons r rs ih =>
    obtain ⟨other, absent⟩ := not_or.mp fun h => absent (List.mem_cons.mpr h)
    exact (ih absent _).trans (recompute_record_other s other)

/-- What brings the conditions up to date changes no input of a derivation. -/
theorem placementChanged_derive (s : State) (r : RemoteId) : s.placementChanged.derive r = s.derive r := by
  have frame := placementChanged_frame s
  refine SameInputs.derive (.of_eq ?_ ?_ (placementChanged_rl s)) (by rw [placementChanged_record])
  · rw [frame]
  · rw [frame]

/-- A changed carrier derives again the records of the remotes that route it, and no other (R57). -/
theorem recomputeCarrier_record (s : State) (c : CarrierId) (r : RemoteId) :
    (c ∈ (s.record r).routed → (s.recomputeCarrier c).placementChanged.record r =
        (s.recomputeCarrier c).placementChanged.derive r) ∧
      (c ∉ (s.record r).routed → (s.recomputeCarrier c).placementChanged.record r = s.record r) := by
  rw [placementChanged_record, placementChanged_derive]
  unfold recomputeCarrier
  refine ⟨fun routed => foldl_recompute_derived _ r (.inl ?_), fun absent => foldl_recompute_other ?_ s⟩
  · exact List.mem_filter.mpr ⟨List.mem_finRange r, by simpa using routed⟩
  · intro mem
    exact absent (by simpa using (List.mem_filter.mp mem).2)

/-! ## Level fields -/

/-- The carrier table after a carrier's set values have taken effect. -/
def takeLevels (s : State) (c : CarrierId) : State := s.modCarrier c fun k => { k with eff := k.set }

theorem levelFieldTakesEffect_plan (s : State) (c : CarrierId) : (s.levelFieldTakesEffect c).plan = (s.takeLevels c).plan := by
  unfold levelFieldTakesEffect
  dsimp only
  split
  · rw [placementChanged_frame, recomputeCarrier_frame]
    rfl
  · rfl

theorem levelFieldTakesEffect_of_same {c : CarrierId} (mdl : (s.carrier c).set.mdl = (s.carrier c).eff.mdl)
    (power : (s.carrier c).set.power = (s.carrier c).eff.power) : s.levelFieldTakesEffect c = s.takeLevels c := by
  unfold levelFieldTakesEffect
  dsimp only
  rw [if_neg (by simp [mdl, power])]
  rfl

theorem levelFieldTakesEffect_of_changed {c : CarrierId} (defined : (s.carrier c).place.isSome = true)
    (changed : (s.carrier c).set.mdl ≠ (s.carrier c).eff.mdl ∨ (s.carrier c).set.power ≠ (s.carrier c).eff.power) :
    s.levelFieldTakesEffect c = ((s.takeLevels c).recomputeCarrier c).placementChanged := by
  unfold levelFieldTakesEffect
  dsimp only
  rw [if_pos (by simpa [defined] using changed)]
  rfl

/-! ## Link settings -/

/-- The link record after a LINK SET has taken effect. -/
def takeSettings (s : State) (r : RemoteId) : State := s.modRl r fun l => { l with mEff := l.m, pmaxEff := l.pmax }

theorem linkSettingsTakeEffect_of_same {r : RemoteId} (limit : s.rl[r].pmaxEff = s.rl[r].pmax) :
    s.linkSettingsTakeEffect r = s.takeSettings r := if_neg (not_not.mpr limit)

theorem linkSettingsTakeEffect_of_changed {r : RemoteId} (limit : s.rl[r].pmaxEff ≠ s.rl[r].pmax) :
    s.linkSettingsTakeEffect r = ((s.takeSettings r).recompute r).placementChanged := if_pos limit

theorem linkSettingsTakeEffect_rl (s : State) (r : RemoteId) : (s.linkSettingsTakeEffect r).rl = (s.takeSettings r).rl := by
  by_cases limit : s.rl[r].pmaxEff = s.rl[r].pmax
  · rw [linkSettingsTakeEffect_of_same limit]
  · rw [linkSettingsTakeEffect_of_changed limit, placementChanged_rl, recompute_rl]

theorem linkSettingsTakeEffect_record_other (s : State) {r q : RemoteId} (other : q ≠ r) :
    (s.linkSettingsTakeEffect r).record q = s.record q := by
  by_cases limit : s.rl[r].pmaxEff = s.rl[r].pmax
  · rw [linkSettingsTakeEffect_of_same limit]
    rfl
  · rw [linkSettingsTakeEffect_of_changed limit, placementChanged_record, recompute_record_other _ other]
    rfl

/-! ## Gates -/

theorem setGate_other (s : State) {r q : RemoteId} {c d : CarrierId} (g : Gate) (other : ¬ (q = r ∧ d = c)) :
    (s.setGate r c g).gate q d = s.gate q d := by
  unfold setGate gate
  by_cases same : q = r
  · subst same
    have ne : c.val ≠ d.val := fun e => other ⟨rfl, Fin.ext e.symm⟩
    simp [Vector.getElem_set_ne _ _ ne]
  · have ne : r.val ≠ q.val := fun e => same (Fin.ext e.symm)
    simp [Vector.getElem_set_ne _ _ ne]

end Sys2Proof.Machine.State
end

section
/-! The statements on settings that take effect and on the gate. -/

namespace Sys2Proof.Proofs

open Sys2Proof.Machine Sys2Proof.Machine.State

/-- Settles O23: by whether a value that a derivation reads has changed. -/
theorem settingsTakeEffect : Obligations.SettingsTakeEffect := by
  refine ⟨fun s c next => ?_, fun s r next => ?_⟩
  · have e := exec_next next
    rw [effect] at e
    generalize hu : s.dropDue (.levelFieldTakesEffect c) = u at e
    have place : u.place = s.place := by rw [← hu]; rfl
    have plan : u.plan = s.plan := by rw [← hu]; rfl
    have sup : u.sup = s.sup := by rw [← hu]; rfl
    have carrier : ∀ d : CarrierId, u.carrier d = s.carrier d := fun d => by rw [State.carrier, plan]; rfl
    have record : ∀ r : RemoteId, u.record r = s.record r := fun r => by rw [State.record, place]; rfl
    have written : ∀ d : CarrierId, (u.levelFieldTakesEffect c).carrier d = (u.takeLevels c).carrier d := fun d => by
      rw [State.carrier, levelFieldTakesEffect_plan]; rfl
    refine ⟨_, e, ?_, fun d other => ?_, ?_, ?_, fun mdl power => ?_, fun defined changed r => ?_⟩
    · rw [written, takeLevels, modCarrier_same, carrier]
    · rw [written, takeLevels, modCarrier_other _ _ other, carrier]
    · rw [levelFieldTakesEffect_plan, takeLevels, modCarrier_plans, plan]
    · rw [← hu]
      refine (levelFieldTakesEffect_frame _ c).trans ?_
      rw [levelFieldTakesEffect_plan]
      rfl
    · rw [← carrier] at mdl power
      rw [levelFieldTakesEffect_of_same mdl power]
      exact ⟨place, sup⟩
    · rw [← carrier] at defined changed
      rw [levelFieldTakesEffect_of_changed defined changed, ← record]
      exact recomputeCarrier_record (u.takeLevels c) c r
  · have e := exec_next next
    rw [effect] at e
    generalize hu : s.dropDue (.linkSettingsTakeEffect r) = u at e
    have rl : u.rl = s.rl := by rw [← hu]; rfl
    have place : u.place = s.place := by rw [← hu]; rfl
    have sup : u.sup = s.sup := by rw [← hu]; rfl
    refine ⟨_, e, ?_, fun q other => ⟨?_, ?_⟩, ?_, fun limit => ?_, fun limit => ?_⟩
    · rw [linkSettingsTakeEffect_rl, takeSettings, modRl_same, rl]
    · rw [linkSettingsTakeEffect_rl, takeSettings, modRl_other _ _ other, rl]
    · rw [linkSettingsTakeEffect_record_other _ other, State.record, place]
      rfl
    · rw [← hu]
      refine (linkSettingsTakeEffect_frame _ r).trans ?_
      rw [linkSettingsTakeEffect_rl]
      rfl
    · rw [← rl] at limit
      rw [linkSettingsTakeEffect_of_same limit]
      exact ⟨place, sup⟩
    · rw [← rl] at limit
      rw [linkSettingsTakeEffect_of_changed limit, placementChanged_record, placementChanged_derive, derive_recompute_same,
        recompute_record_same]

/-- Settles O28: by the level against the gate level, the gate's state and its counter against the hold. -/
theorem gateUpdates : Obligations.GateUpdates := by
  refine ⟨fun g level gateLevel gateHold => ?_, fun s r c next => ?_⟩
  · dsimp only
    unfold Gate.update
    refine ⟨fun high => by rw [if_pos high], fun low opened held => ?_, fun low opened passed => ?_, fun low closed => ?_⟩
    all_goals rw [if_neg (by omega)]
    · rw [if_pos opened, if_pos held]
    · rw [if_pos opened, if_neg (by omega)]
      exact ⟨rfl, rfl⟩
    · rw [if_neg (by simp [closed])]
  · refine ⟨_, exec_next next, ?_⟩
    rw [effect]
    exact ⟨setGate_same .., fun q d other => setGate_other _ _ other, rfl⟩

end Sys2Proof.Proofs
end

section
/-! SUPPORT. The steps of an operator link, the trunk and the Timebase whose condition holds (sections 1.7 and 1.8). -/

namespace Sys2Proof.Machine.Supervision

variable {p : Supervision}

@[simp] theorem count_enable (p : Supervision) : p.count.enable = p.enable := rfl

@[simp] theorem countKind_enable (p : Supervision) (k : Kind) : (p.countKind k).enable = p.enable := by
  unfold countKind
  split <;> rfl

@[simp] theorem setOverflow_enable (p : Supervision) : p.setOverflow.enable = p.enable := by
  unfold setOverflow
  split <;> rfl

@[simp] theorem append_enable (p : Supervision) (now : Count) (key : Key) : (p.append now key).enable = p.enable := by
  simp [append]

/-- A raise leaves the enable as it is. -/
@[simp] theorem raise_enable (p : Supervision) (now : Count) (key : Key) : (p.raise now key).enable = p.enable := by
  unfold raise
  split
  · rcases p.raiseNew_cases now key with ⟨e, _⟩ | ⟨x, _, _, e⟩ | ⟨e, _⟩ <;> rw [e] <;> simp [endRace]
  · split
    · rfl
    · simp [mapEntry]

@[simp] theorem clear_enable (p : Supervision) (now : Count) (key : Key) : (p.clear now key).enable = p.enable := by
  unfold clear
  split
  · rfl
  · split
    · simp [mapEntry]
    · rfl

/-- A clear of a key with an ACTIVE entry makes the entry CLEARED in its place (R160). -/
theorem clear_alarms_of_active {key : Key} {e : AlarmEntry} (now : Count) (found : p.entry key = some e)
    (active : e.active = true) : (p.clear now key).alarms = p.alarms.map fun x =>
      if x.key = key then { x with active := false, last := now } else x := by
  unfold clear
  rw [found]
  dsimp only
  rw [if_pos active, countKind_alarms]
  rfl

end Sys2Proof.Machine.Supervision

namespace Sys2Proof.Machine.State

variable {s : State} {l : TermLinkId}

/-! ## The record of a link -/

@[simp] theorem modTerm_same (s : State) (l : TermLinkId) (f : TermLink → TermLink) : (s.modTerm l f).term l = f (s.term l) := by
  cases l with
  | op o => simp [modTerm, term]
  | trunk => rfl

theorem modTerm_other (s : State) {l k : TermLinkId} (f : TermLink → TermLink) (other : k ≠ l) :
    (s.modTerm l f).term k = s.term k := by
  cases l with
  | trunk =>
    cases k with
    | trunk => contradiction
    | op o => rfl
  | op o =>
    cases k with
    | trunk => rfl
    | op p =>
      have ne : o.val ≠ p.val := fun e => other (by rw [Fin.ext e])
      simp [modTerm, term, Vector.getElem_set_ne _ _ ne]

/-- States with the same operator links and trunk have the same records of them. -/
theorem term_congr {s t : State} (ol : t.ol = s.ol) (trunk : t.trunk = s.trunk) (k : TermLinkId) : t.term k = s.term k := by
  cases k with
  | op o => simp only [term, ol]
  | trunk => exact trunk

@[simp] theorem setTimebase_term (s : State) (x : TimebaseState) (k : TermLinkId) : (s.setTimebase x).term k = s.term k := by
  rw [setTimebase_eq]
  exact term_congr rfl rfl k

theorem holds_lossKey (s : State) (l : TermLinkId) : s.holds (lossKey l) = (s.term l).lossCond := by
  cases l <;> rfl

theorem isReference_trunk_iff (s : State) : s.isReference .trunk = true ↔ s.tb.reference = .trunk := by
  unfold isReference
  cases s.tb.reference <;> simp [referenceLink]

theorem isReference_congr {s t : State} (same : t.tb.reference = s.tb.reference) (l : TermLinkId) :
    t.isReference l = s.isReference l := by unfold isReference; rw [same]

/-! ## Into UP -/

/-- The record of a link that comes UP. -/
def cameUp (t : TermLink) : TermLink := { t with state := .up, badRun := 0, beenUp := true, lossCond := false }

/-- The links as one that comes UP leaves them. -/
def bringUp (s : State) (l : TermLinkId) : State := (s.modTerm l cameUp).clear (lossKey l)

theorem bringUp_term (s : State) (l k : TermLinkId) : (s.bringUp l).term k = (s.modTerm l cameUp).term k :=
  term_congr rfl rfl k

@[simp] theorem bringUp_tb (s : State) (l : TermLinkId) : (s.bringUp l).tb = s.tb := by
  unfold bringUp
  rw [clear_tb, modTerm_eq]

theorem linkSeekToUp_of_due (state : (s.term l).state = .seek) (run : 4 ≤ (s.term l).seekRun) : s.linkSeekToUp l =
    if s.isReference l = true then (s.bringUp l).setTimebase .relocking else s.bringUp l := by
  have folded : s.linkSeekToUp l =
      if (s.bringUp l).isReference l = true then (s.bringUp l).setTimebase .relocking else s.bringUp l :=
    if_pos ⟨state, run⟩
  rw [folded, isReference_congr (s := s) (congrArg Timebase.reference (bringUp_tb s l))]

/-- The Timebase after a link that may be the reference has come UP. -/
theorem linkSeekToUp_result (state : (s.term l).state = .seek) (run : 4 ≤ (s.term l).seekRun) :
    (∀ k, (s.linkSeekToUp l).term k = (s.modTerm l cameUp).term k) ∧
      (s.isReference l = true → (s.linkSeekToUp l).tb = { s.tb with state := .relocking }) ∧
      (s.isReference l = false → (s.linkSeekToUp l).tb = s.tb) := by
  rw [linkSeekToUp_of_due state run]
  by_cases reference : s.isReference l = true
  · rw [if_pos reference]
    refine ⟨fun k => ?_, fun _ => ?_, fun no => ?_⟩
    · rw [setTimebase_term, bringUp_term]
    · rw [setTimebase_tb, bringUp_tb]
    · rw [reference] at no
      contradiction
  · rw [if_neg reference]
    exact ⟨bringUp_term s l, fun yes => absurd yes reference, fun _ => bringUp_tb s l⟩

/-! ## Into LOST -/

/-- The record of a link that is lost. -/
def wentLost (t : TermLink) : TermLink :=
  { t with state := .lost, holdTimer := 0, lostEntries := satInc max32 t.lostEntries, lossCond := true }

/-- The links as one that is lost leaves them. -/
def loseLink (s : State) (l : TermLinkId) : State := (s.modTerm l wentLost).raise (lossKey l)

theorem loseLink_term (s : State) (l k : TermLinkId) : (s.loseLink l).term k = (s.modTerm l wentLost).term k :=
  term_congr rfl rfl k

@[simp] theorem loseLink_tb (s : State) (l : TermLinkId) : (s.loseLink l).tb = s.tb := by
  unfold loseLink
  rw [raise_tb, modTerm_eq]

theorem loseLink_sup (s : State) (l : TermLinkId) : (s.loseLink l).sup = s.sup.raise s.tb.count (lossKey l) := by
  unfold loseLink
  rw [modTerm_eq]
  rfl

theorem loseLink_recorded (s : State) (l : TermLinkId) : (s.loseLink l).Recorded (lossKey l) := raise_recorded _ _

/-- The Timebase as the loss of a link that may be the reference leaves it. -/
def loseReference (s : State) (l : TermLinkId) : State :=
  if s.isReference l = true then (s.loseLink l).setTimebase .holdover else s.loseLink l

theorem loseReference_term (s : State) (l k : TermLinkId) : (s.loseReference l).term k = (s.modTerm l wentLost).term k := by
  unfold loseReference
  split
  · rw [setTimebase_term, loseLink_term]
  · exact loseLink_term s l k

theorem loseReference_tb (s : State) (l : TermLinkId) :
    (s.isReference l = true → (s.loseReference l).tb = { s.tb with state := .holdover }) ∧
      (s.isReference l = false → (s.loseReference l).tb = s.tb) := by
  unfold loseReference
  refine ⟨fun reference => ?_, fun reference => ?_⟩
  · rw [if_pos reference, setTimebase_tb, loseLink_tb]
  · rw [if_neg (by simp [reference]), loseLink_tb]

theorem loseReference_frame (s : State) (l : TermLinkId) : s.loseReference l = { s with
    ol := (s.loseReference l).ol, trunk := (s.loseReference l).trunk, tb := (s.loseReference l).tb
    sup := (s.loseReference l).sup } := by
  have lost : s.loseLink l = { s with
      ol := (s.loseLink l).ol, trunk := (s.loseLink l).trunk, sup := (s.loseLink l).sup } := by
    unfold loseLink
    rw [modTerm_eq]
    rfl
  unfold loseReference
  split
  · rw [setTimebase_eq, lost]
  · rw [lost]

theorem hand_enable (s : State) (key : Key) (before now : Bool) : (s.hand key before now).sup.enable = s.sup.enable := by
  unfold hand
  split
  · rfl
  · split
    · exact Supervision.raise_enable ..
    · exact Supervision.clear_enable ..

theorem setTimebase_enable (s : State) (x : TimebaseState) : (s.setTimebase x).sup.enable = s.sup.enable := hand_enable ..

theorem loseReference_enable (s : State) (l : TermLinkId) : (s.loseReference l).sup.enable = s.sup.enable := by
  have lost : (s.loseLink l).sup.enable = s.sup.enable := by rw [loseLink_sup, Supervision.raise_enable]
  unfold loseReference
  split
  · rw [setTimebase_enable, lost]
  · exact lost

/-- The loss is recorded, whatever the Timebase does with it. -/
theorem loseReference_recorded (s : State) (l : TermLinkId) : (s.loseReference l).Recorded (lossKey l) := by
  have lost := loseLink_recorded s l
  unfold loseReference
  split
  · have moved : State.Recorded { s.loseLink l with tb := { (s.loseLink l).tb with state := .holdover } } (lossKey l) := lost
    exact moved.hand (by cases l <;> simp [lossKey]) _ _
  · exact lost

theorem linkUpToLost_op_of_due {o : OpId} (state : s.ol[o].state = .up) (run : 8 ≤ s.ol[o].badRun) :
    s.linkUpToLost (.op o) = s.loseReference (.op o) := by
  rw [linkUpToLost, if_pos]
  · dsimp only
    rw [isReference_congr (t := (s.modTerm (.op o) _).raise _) (s := s) rfl]
    rfl
  · exact ⟨state, run⟩

theorem linkUpToLost_trunk_of_due (state : s.trunk.state = .up) (run : 8 ≤ s.trunk.badRun) :
    s.linkUpToLost .trunk = (s.loseReference .trunk).trunkLoss := by
  rw [linkUpToLost, if_pos]
  · dsimp only
    rw [isReference_congr (t := (s.modTerm .trunk _).raise _) (s := s) rfl]
    rfl
  · exact ⟨state, run⟩

theorem trunkLoss_frame (s : State) : s.trunkLoss = { s with mgmt := s.trunkLoss.mgmt, sup := s.trunkLoss.sup } := rfl

theorem trunkLoss_sup (s : State) : s.trunkLoss.sup.alarms = s.sup.alarms ∧ s.trunkLoss.sup.overflow = s.sup.overflow := by
  unfold trunkLoss
  dsimp only
  split <;> exact ⟨rfl, rfl⟩

theorem trunkLoss_pending (alert : s.mgmt.alert.isSome = true) (enable : s.sup.enable = true) :
    s.trunkLoss.sup.pending = true := by
  unfold trunkLoss
  dsimp only
  rw [if_pos alert]
  simp [enable]

/-! ## Relocking -/

theorem makeBoundary_cut (s : State) : (s.makeBoundary true).dist.source = [] ∧
    ∀ q ∈ (s.makeBoundary true).comb.sums, q.label ≠ s.tb.label := by
  have label : (s.deadline (s.tb.label - 1)).tb.label = s.tb.label := by rw [deadline_frame]
  unfold makeBoundary
  dsimp only
  generalize s.deadline (s.tb.label - 1) = u at label
  have dropped : u.cutFrame.dist.source = [] ∧ ∀ q ∈ u.cutFrame.comb.sums, q.label ≠ s.tb.label := by
    refine ⟨rfl, fun q mem => ?_⟩
    have kept := (List.mem_filter.mp mem).2
    rw [label] at kept
    exact of_decide_eq_true kept
  rw [if_pos rfl]
  split <;> exact dropped

end Sys2Proof.Machine.State
end

section
/-! The statements on the steps of an operator link, the trunk and the Timebase. -/

namespace Sys2Proof.Proofs

open Sys2Proof.Machine Sys2Proof.Machine.State

/-- Settles O15: what the step does to the link's record, and then to the Timebase where the link is the reference. -/
theorem termLinkSteps : Obligations.TermLinkSteps := by
  refine ⟨fun s l next state run => ?_, fun s o next state run => ?_, fun s l next state timer => ?_⟩
  · refine ⟨_, exec_next next, ?_⟩
    rw [effect]
    generalize hu : s.dropDue (.linkSeekToUp l) = u
    have term : ∀ k, u.term k = s.term k := fun k => by rw [← hu]; exact term_congr rfl rfl k
    have tb : u.tb = s.tb := by rw [← hu]; rfl
    have reference := isReference_congr (s := s) (t := u) (by rw [tb]) l
    rw [← term] at state run
    obtain ⟨links, relocks, keeps⟩ := linkSeekToUp_result state run
    rw [reference, tb] at relocks keeps
    have up : (u.linkSeekToUp l).term l = cameUp (s.term l) := by rw [links, modTerm_same, term]
    refine ⟨up, relocks, keeps, fun k other => ?_, ?_, ?_⟩
    · rw [links, modTerm_other _ _ other, term]
    · rw [holds_lossKey, up]
      rfl
    · rw [← hu]
      exact linkSeekToUp_frame _ l
  · refine ⟨_, exec_next next, ?_⟩
    rw [effect]
    generalize hu : s.dropDue (.linkUpToLost (.op o)) = u
    have ol : u.ol = s.ol := by rw [← hu]; rfl
    have tb : u.tb = s.tb := by rw [← hu]; rfl
    have reference := isReference_congr (s := s) (t := u) (by rw [tb]) (.op o)
    rw [← ol] at state run
    rw [linkUpToLost_op_of_due state run]
    obtain ⟨holdover, keeps⟩ := loseReference_tb u (.op o)
    rw [reference, tb] at holdover keeps
    have links (p : OpId) : (u.loseReference (.op o)).ol[p] = (u.modTerm (.op o) wentLost).term (.op p) :=
      loseReference_term u (.op o) (.op p)
    refine ⟨?_, holdover, fun no => ⟨keeps no, loseReference_recorded u (.op o)⟩, fun p other => ?_, ?_⟩
    · rw [links, modTerm_same]
      dsimp only [State.term]
      rw [ol]
      rfl
    · rw [links, modTerm_other _ _ (by simpa using other)]
      dsimp only [State.term]
      rw [ol]
    · have trunk : (u.loseReference (.op o)).trunk = u.trunk := loseReference_term u (.op o) .trunk
      refine (loseReference_frame u (.op o)).trans ?_
      rw [trunk, ← hu]
      rfl
  · rw [exec_next next, effect, linkLostHoldEnd, if_pos]
    rw [term_congr (s := s) (t := s.dropDue _) rfl rfl]
    exact ⟨state, timer⟩

/-- Settles O16: the loss of the link, its meaning to the Timebase, and then what the trunk's loss discards. -/
theorem trunkLoss : Obligations.TrunkLoss := by
  intro s next state run
  refine ⟨_, exec_next next, ?_⟩
  rw [effect]
  generalize hu : s.dropDue (.linkUpToLost .trunk) = u
  have trunk : u.trunk = s.trunk := by rw [← hu]; rfl
  have rest : u = { s with due := u.due } := by rw [← hu]; rfl
  rw [← trunk] at state run
  rw [linkUpToLost_trunk_of_due state run]
  have frame := loseReference_frame u .trunk
  have lost : (u.loseReference .trunk).trunk = wentLost s.trunk := by
    rw [← trunk]
    exact (loseReference_term u .trunk .trunk).trans (modTerm_same ..)
  have recorded := loseReference_recorded u .trunk
  have enable := loseReference_enable u .trunk
  obtain ⟨holdover, keeps⟩ := loseReference_tb u .trunk
  have others (o : OpId) : (u.loseReference .trunk).ol[o] = u.ol[o] := loseReference_term u .trunk (.op o)
  generalize u.loseReference .trunk = v at *
  obtain ⟨alarms, overflow⟩ := trunkLoss_sup v
  have mgmt : v.mgmt = s.mgmt := by rw [frame, ← hu]; rfl
  have sup : u.sup = s.sup := by rw [← hu]; rfl
  have tb : u.tb = s.tb := by rw [← hu]; rfl
  have reference := isReference_congr (s := s) (t := u) (by rw [tb]) .trunk
  rw [reference, tb] at holdover keeps
  have ol : v.ol = s.ol := by
    refine Vector.ext fun i h => ?_
    exact (others ⟨i, h⟩).trans (by rw [← hu]; rfl)
  refine ⟨lost, ?_, fun alert enabled => ?_, ?_, ?_, fun named => ?_, fun other => ?_, ?_, ?_, ?_, ?_, ol, ?_, ?_, ?_⟩
  · rw [← mgmt]
    rfl
  · rw [← mgmt] at alert
    exact trunkLoss_pending alert (by rw [enable, sup, enabled])
  · have own : v.trunkLoss.holds ⟨.trunkLinkLost, .device⟩ = v.trunk.lossCond := rfl
    rw [own, lost]
    rfl
  · exact Supervision.Records.of_same recorded alarms overflow
  · have state := holdover ((isReference_trunk_iff s).mpr named)
    refine ⟨state, (holds_timingHoldover_iff _).mpr (.inl ?_)⟩
    exact congrArg Timebase.state state
  · exact keeps (by simpa using fun yes => other ((isReference_trunk_iff s).mp yes))
  all_goals
    rw [trunkLoss_frame, frame, ← hu]
    rfl

/-- Settles O17: at the hub's own boundary the Timebase locks, and inside a superframe a boundary is made first. -/
theorem timebaseRelock : Obligations.TimebaseRelock := by
  intro s relocking ends
  have locks (u : State) (sup : u.sup = s.sup) (n : Count) (count : u.relockCount = n) : ends u.lock n := by
    intro e found active
    rw [← sup] at found
    rw [lock_sup, Supervision.clear_alarms_of_active _ found active, count, sup]
  have released (u : State) : u.lock.holds ⟨.timingHoldover, .device⟩ = false := by
    rw [Bool.eq_false_iff]
    intro holding
    simp [holds_timingHoldover_iff] at holding
  refine ⟨fun next => ?_, fun next => ?_⟩
  · have locked : (s.dropDue (.timebaseRelock true)).timebaseRelock true = (s.dropDue (.timebaseRelock true)).lock :=
      if_pos relocking
    refine ⟨_, exec_next next, ?_⟩
    rw [effect, locked]
    refine ⟨rfl, released _, fun ⟨lf, noBoundary, running, later⟩ => ?_, fun begun => ?_, rfl⟩
    · exact locks _ rfl _ (relockCount_ahead _ lf noBoundary running later)
    · refine locks _ rfl _ ?_
      rcases begun with boundary | begun
      · exact relockCount_of_boundary _ boundary
      · exact relockCount_begun _ begun
  · have locked : (s.dropDue (.timebaseRelock false)).timebaseRelock false =
        ((s.dropDue (.timebaseRelock false)).makeBoundary true).lock := if_pos relocking
    refine ⟨_, exec_next next, ?_⟩
    rw [effect, locked]
    have frame := makeBoundary_frame (s.dropDue (.timebaseRelock false)) true
    obtain ⟨noSource, noSums⟩ := makeBoundary_cut (s.dropDue (.timebaseRelock false))
    generalize (s.dropDue (.timebaseRelock false)).makeBoundary true = u at *
    have tb : u.tb = { s.tb with count := s.tb.count + 1, lf := none } := by rw [frame]; rfl
    have boundary : u.boundary.isSome = true := by rw [frame]; rfl
    refine ⟨?_, noSource, released u, ?_, boundary, ?_, ?_, noSums⟩
    · rw [lock_tb, tb]
    · refine locks u (by rw [frame]; rfl) _ ?_
      rw [relockCount_of_boundary u boundary, tb]
    · rw [lock_eq, frame]
      rfl
    · rw [lock_eq, frame]
      rfl

end Sys2Proof.Proofs
end

section
/-! SUPPORT. The resets, the reset pin and ALERT_PLACEMENT. -/

namespace Sys2Proof.Machine.Supervision

/-- Every entry of the alarm list is counted once in an ALERT (R170). -/
theorem counts_total (l : List AlarmEntry) :
    activeCount l .critical + activeCount l .major + activeCount l .minor + clearedCount l = l.length := by
  induction l with
  | nil => rfl
  | cons e rest ih =>
    unfold activeCount clearedCount at *
    simp only [List.filter_cons, List.length_cons]
    cases e.active
    · simp only [Bool.false_and, Bool.not_false, Bool.false_eq_true, if_false, if_true, List.length_cons]
      omega
    · cases e.key.kind.severity <;> simp <;> omega

end Sys2Proof.Machine.Supervision

namespace Sys2Proof.Machine.State

variable {s : State}

/-- While the reset pin is asserted, the hub takes nothing but its release (R195). -/
theorem exec_of_held {c : Instr} (held : s.resetPin = true) (release : c ≠ .resetPinRelease) : exec c s = .next s := by
  rcases lt_trichotomy (phase c) requestPhase with early | request | late
  · by_cases alert : c = .alertPlacement
    · subst alert
      rw [exec_alertPlacement, awake_held _ _ held]
    · rw [exec_eq_owedStep early alert, awake_held _ _ held]
  · rw [exec_eq_requestStep request, awake_held _ _ held]
  · cases c
    case resetPinRelease => contradiction
    case resetPinAssert => exact awake_held _ _ held
    case linkFrameStart => exact awake_held _ _ held
    case superframeBoundary => rw [exec_superframeBoundary, awake_held _ _ held]
    case remoteFrameReceived => rw [exec_remoteFrameReceived, awake_held _ _ held]
    case missingFramePeriod l =>
      cases l with
      | remote r => rw [exec_missingFramePeriod_remote, awake_held _ _ held]
      | term k => rw [exec_missingFramePeriod_term, awake_held _ _ held]
    case operatorFrameReceived => rw [exec_operatorFrameReceived, awake_held _ _ held]
    case trunkFrameReceived => rw [exec_trunkFrameReceived, awake_held _ _ held]
    case blockDeadline => rw [exec_blockDeadline, awake_held _ _ held]
    all_goals simp [phase, requestPhase] at late

theorem exec_resetPinAssert (awake' : s.resetPin = false) : exec .resetPinAssert s = .next s.assertPin := awake_next _ _ awake'

/-- A step that the hub owes, taken freely. -/
theorem exec_alertPlacement_of_owed (awake' : s.resetPin = false) (owed : .alertPlacement ∈ s.due) :
    exec .alertPlacement s = .next (s.dropDue .alertPlacement).alertPlacement := by
  rw [exec_alertPlacement, awake_next _ _ awake', owedFreely, if_pos (by simpa using owed)]
  rfl

theorem mem_dropDue_of_ne {x y : Instr} (ne : x ≠ y) : x ∈ (s.dropDue y).due ↔ x ∈ s.due := List.mem_erase_of_ne ne

end Sys2Proof.Machine.State
end

section
/-! The statements on the cold reset, the reset pin and ALERT_PLACEMENT. -/

namespace Sys2Proof.Proofs

open Sys2Proof.Machine Sys2Proof.Machine.State

/-- Settles O39: the pin holds every command but its release, and both resets give the cold values. -/
theorem coldReset : Obligations.ColdReset := by
  refine ⟨fun s awake => ?_, fun s next => ?_, fun s tag ready => ?_⟩
  · refine ⟨s.assertPin, exec_resetPinAssert awake, rfl, rfl, fun r => ?_, fun o => ?_, rfl,
      fun c release => exec_of_held rfl release, fun u => rfl⟩
    · simp [assertPin]
    · simp [assertPin]
  · rw [exec_next next]
    rfl
  · have e : exec (.cold 0x01 tag []) s = .next (carryOut .control tag 0x1F (doCold .control [] s)) :=
      requestStep_of_ready (x := .cold 0x01 tag []) (scope := venueScope) ready rfl rfl
    have taken : doCold .control [] s = .cold s := rfl
    rw [e, taken, carryOut, respond_up _ _ ready.trunk_up]
    rfl

/-- Settles O40: by whether the ALERT is placed; the mode bit by whether the mode decision is still owed. -/
theorem alertPlacement : Obligations.AlertPlacement := by
  intro s awake owed
  have e := exec_alertPlacement_of_owed awake owed
  refine ⟨fun pending enable up free => ?_, fun missing => ?_⟩
  · have mode : (.hubModeDecision ∈ (s.dropDue .alertPlacement).due ↔ .hubModeDecision ∈ s.due) :=
      mem_dropDue_of_ne (by simp)
    refine ⟨(s.dropDue .alertPlacement).formAlert, ?_, rfl, rfl, rfl, rfl, rfl, rfl, Supervision.counts_total _, ?_, ?_, ?_⟩
    · have begun : (s.dropDue .alertPlacement).alertBegun = false := free
      rw [e, State.alertPlacement, if_pos]
      · rfl
      · simp [pending, enable, up, begun]
    · intro o
      exact getElem_tab _ o
    · intro absent
      have decided : (s.dropDue .alertPlacement).decidedMode = s.mode.mode := by
        rw [decidedMode, if_neg (by simpa [mode] using absent)]
        rfl
      simp only [formAlert, decided]
    · intro present
      have decided : (s.dropDue .alertPlacement).decidedMode =
          (s.mode.requested.orElse fun _ => s.mode.auto).getD s.mode.mode := by
        rw [decidedMode, if_pos (by simpa [mode] using present)]
        rfl
      simp only [formAlert, decided]
      cases s.mode.requested with
      | some m => rfl
      | none => cases s.mode.auto <;> rfl
  · rw [e, State.alertPlacement, if_neg]
    have begun : (s.dropDue .alertPlacement).alertBegun = s.alertBegun := rfl
    rw [begun]
    rcases missing with h | h | h | h <;> simp [h]

end Sys2Proof.Proofs
end

section
/-! SUPPORT. The completions of timed commands, switchovers, the hub mode and isolations. -/

namespace Sys2Proof.Machine.State

variable {s t : State} {ch : Channel}

/-! ## Completions -/

/-- The channels with a command no longer in progress and its response due. -/
def Management.completed (g : Management) (ch : Channel) (x : Response) : Management :=
  match ch with
  | .control => { g with control := none, due := g.due ++ [x] }
  | .service => { g with service := none, due := g.due ++ [x] }

/-- A command in progress completes on an UP trunk (R180, R182). -/
theorem complete_of_busy {p : InProgress} (busy : s.mgmt.busy ch = some p) (timed : p.cmd ≠ .cold) (up : s.trunk.state = .up)
    (x : Result) (b : Bool) (d : List Byte) : s.complete ch x b d = { s with
      mgmt := Management.completed s.mgmt ch (reply ch p.tag p.cmd.code x b d) } := by
  unfold complete
  rw [busy]
  dsimp only
  rw [if_neg timed]
  cases ch with
  | control => exact respond_up _ _ up
  | service => exact respond_up _ _ up

/-! ## Switchovers (R41) -/

/-- The staged bank becomes active and every record is derived again. -/
def switchPlan (s : State) (o : OpId) : State := (s.modPlan o takeStaged).recomputeAll.placementChanged

theorem switchPlan_frame (s : State) (o : OpId) : s.switchPlan o = { s with
    plan := (s.modPlan o takeStaged).plan, place := (s.switchPlan o).place, sup := (s.switchPlan o).sup } := by
  unfold switchPlan
  rw [placementChanged_frame, recomputeAll_frame]
  rfl

theorem placementChanged_derived (h : s.RecordsDerived) : s.placementChanged.RecordsDerived := fun r => by
  rw [placementChanged_record, placementChanged_derive]
  exact h r

theorem switchPlan_derived (s : State) (o : OpId) : (s.switchPlan o).RecordsDerived :=
  placementChanged_derived (recomputeAll_derived _)

theorem switchover_of_origin {o : OpId} {e : Bool} (armed : (s.opPlan o).state = .armed ch.origin e) :
    s.switchover o = (s.switchPlan o).completeArming o ch := by
  unfold switchover
  rw [armed]
  cases ch <;> rfl

theorem switchover_of_balancer {o : OpId} {e : Bool} (armed : (s.opPlan o).state = .armed .balancer e) :
    s.switchover o = s.switchPlan o := by
  unfold switchover
  rw [armed]
  rfl

theorem isArmed_of_armed {o : OpId} {origin : Origin} {e : Bool} (armed : (s.opPlan o).state = .armed origin e) :
    s.isArmed o = true := by
  unfold isArmed
  rw [armed]

/-- Every record is derived again, whatever the switchover completes. -/
theorem switchover_derived {o : OpId} {origin : Origin} {e : Bool} (armed : (s.opPlan o).state = .armed origin e) :
    (s.switchover o).RecordsDerived := by
  have derived := switchPlan_derived s o
  have completes (ch : Channel) : ((s.switchPlan o).completeArming o ch).RecordsDerived := by
    rw [completeArming_frame]
    exact derived.of_same (.of_eq rfl rfl rfl) rfl
  cases origin with
  | control =>
    rw [switchover_of_origin (ch := .control) armed]
    exact completes _
  | service =>
    rw [switchover_of_origin (ch := .service) armed]
    exact completes _
  | balancer =>
    rw [switchover_of_balancer armed]
    exact derived

theorem completeArming_of_commit {o p : OpId} {tag : Byte} (busy : s.mgmt.busy ch = some ⟨tag, .planCommit p⟩)
    (up : s.trunk.state = .up) : s.completeArming o ch = { s with
      mgmt := Management.completed s.mgmt ch (reply ch tag 0x35 .done false []) } := by
  unfold completeArming
  rw [busy]
  exact complete_of_busy busy (by simp) up ..

theorem completeArming_of_accept {o p : OpId} {tag : Byte} {a : Advice}
    (busy : s.mgmt.busy ch = some ⟨tag, .balanceAccept p a⟩) (up : s.trunk.state = .up) :
    s.completeArming o ch = { s.acceptedMove o ch.origin a with
      mgmt := Management.completed s.mgmt ch (reply ch tag 0x38 .done false a.bytes) } := by
  unfold completeArming
  rw [busy]
  exact complete_of_busy (s := s.acceptedMove o ch.origin a) busy (by simp) up ..

theorem completed_eq_setBusy (s : State) (ch : Channel) (x : Response) :
    Management.completed s.mgmt ch x = { (s.setBusy ch none).mgmt with due := s.mgmt.due ++ [x] } := by cases ch <;> rfl

/-! ## The hub mode (R136) -/

theorem takeMode_of_same (m : HubMode) (same : m = s.mode.mode) : s.takeMode m = { s with mode := { s.mode with mode := m } } :=
  if_pos same

theorem takeMode_of_changed (m : HubMode) (changed : m ≠ s.mode.mode) :
    s.takeMode m = State.placementChanged (State.recomputeAll { s with mode := { s.mode with mode := m } }) := if_neg changed

/-- A mode that stays as it was derives no record, and a change derives every record. -/
theorem takeMode_records (s : State) (m : HubMode) :
    (m = s.mode.mode → (s.takeMode m).place = s.place ∧ (s.takeMode m).sup = s.sup) ∧
      (m ≠ s.mode.mode → (s.takeMode m).RecordsDerived) := by
  refine ⟨fun same => ?_, fun changed => ?_⟩
  · rw [takeMode_of_same m same]
    exact ⟨rfl, rfl⟩
  · rw [takeMode_of_changed m changed]
    exact placementChanged_derived (recomputeAll_derived _)

theorem hubModeDecision_of_requested {m : HubMode} (requested : s.mode.requested = some m) : s.hubModeDecision =
    ((s.withMode fun v => { v with requested := none, auto := none, quietRun := 0 }).takeMode m).complete .control .done
      false [] := by
  unfold hubModeDecision
  rw [requested]
  rfl

theorem hubModeDecision_of_auto {m : HubMode} (none : s.mode.requested = none) (auto : s.mode.auto = some m) :
    s.hubModeDecision = (s.withMode fun v => { v with auto := .none }).takeMode m := by
  unfold hubModeDecision
  rw [none, auto]
  rfl

/-! ## The re-check of a pending isolation (R146) -/

/-- Every confirmed link taken as UP. -/
def enterConfirmed (due : List Instr) (l : List RemoteId) (s : State) : State :=
  l.foldl (fun u q => if .linkEntersUp q ∈ due then u.linkEntersUp q else u) s

theorem linkEntersUp_due (s : State) (r : RemoteId) : (s.linkEntersUp r).due = s.due := by rw [linkEntersUp_frame]

theorem recheck_eq (s : State) (r : RemoteId) : s.recheck r = (enterConfirmed s.due allRemotes s).darkening r := by
  have same (l : List RemoteId) (u : State) (due : u.due = s.due) :
      l.foldl (fun s q => if s.due.contains (.linkEntersUp q) then s.linkEntersUp q else s) u = enterConfirmed s.due l u := by
    unfold enterConfirmed
    induction l generalizing u with
    | nil => rfl
    | cons q rest ih =>
      simp only [List.foldl_cons, due, List.contains_iff_mem] at ih ⊢
      refine ih _ ?_
      split
      · exact (linkEntersUp_due u q).trans due
      · exact due
  unfold recheck
  rw [same _ _ rfl]

theorem enterConfirmed_of_none {due : List Instr} (none : ∀ q : RemoteId, .linkEntersUp q ∉ due) (l : List RemoteId) (s : State) :
    enterConfirmed due l s = s := by
  unfold enterConfirmed
  induction l generalizing s with
  | nil => rfl
  | cons q rest ih => rw [List.foldl_cons, if_neg (none q), ih]

/-- Two states agree on what a darkening test reads. -/
def SameDarkening (s t : State) : Prop :=
  t.plan = s.plan ∧ t.mode.mode = s.mode.mode ∧ t.rl = s.rl ∧ t.place.records = s.place.records

theorem SameDarkening.linkEntersUp (h : s.SameDarkening t) (q : RemoteId) : (s.linkEntersUp q).SameDarkening (t.linkEntersUp q) := by
  obtain ⟨plan, mode, rl, records⟩ := h
  by_cases ready : s.rl[q].state = .negotiate ∧ s.rl[q].phase = .confirmed
  · have entered : (t.enterUp q).rl = (s.enterUp q).rl := by rw [enterUp_rl, enterUp_rl, modRl, modRl, rl]
    have derived : (t.enterUp q).derive q = (s.enterUp q).derive q := by
      refine SameInputs.derive (s := s.enterUp q) (t := t.enterUp q) (.of_eq plan mode entered) ?_
      exact congrArg (fun v : Vector PlacementRecord 24 => v[q].sleep) records
    rw [linkEntersUp_of_confirmed ready.1 ready.2,
      linkEntersUp_of_confirmed (s := t) (by rw [rl]; exact ready.1) (by rw [rl]; exact ready.2)]
    have keeps (u : State) : u.placementChanged.plan = u.plan ∧ u.placementChanged.mode = u.mode := by
      rw [placementChanged_frame]
      exact ⟨rfl, rfl⟩
    refine ⟨?_, ?_, ?_, ?_⟩
    · rw [(keeps _).1, (keeps _).1]
      exact plan
    · rw [(keeps _).2, (keeps _).2]
      exact mode
    · rw [placementChanged_rl, placementChanged_rl]
      exact entered
    · rw [placementChanged_records, placementChanged_records]
      unfold recompute setRecord
      rw [derived, enterUp_place, enterUp_place, records]
  · have idle : t.linkEntersUp q = t := if_neg (by rw [rl]; exact ready)
    have idle' : s.linkEntersUp q = s := if_neg ready
    rw [idle, idle']
    exact ⟨plan, mode, rl, records⟩

theorem SameDarkening.enterConfirmed (h : s.SameDarkening t) (due : List Instr) (l : List RemoteId) :
    (enterConfirmed due l s).SameDarkening (enterConfirmed due l t) := by
  induction l generalizing s t with
  | nil => exact h
  | cons q rest ih =>
    unfold State.enterConfirmed at ih ⊢
    rw [List.foldl_cons, List.foldl_cons]
    refine ih ?_
    split
    · exact h.linkEntersUp q
    · exact h

theorem SameDarkening.darkening (h : s.SameDarkening t) (r : RemoteId) : t.darkening r = s.darkening r := by
  obtain ⟨plan, mode, rl, records⟩ := h
  have record (q : RemoteId) : t.record q = s.record q := by unfold record; rw [records]
  have without (gone : Option RemoteId) (o : OpId) (i : SectorIx) : t.darkWithout gone o i = s.darkWithout gone o i := by
    unfold darkWithout opPlan
    simp only [plan, mode, record]
  unfold State.darkening darkNow
  simp only [without]

/-- The re-check reads the owed entries into UP alone of what is owed. -/
theorem recheck_dropDue {x : Instr} (other : ∀ q, x ≠ .linkEntersUp q) (s : State) (r : RemoteId) :
    (s.dropDue x).recheck r = s.recheck r := by
  have owed (u : State) : State.enterConfirmed (s.dropDue x).due allRemotes u = State.enterConfirmed s.due allRemotes u := by
    unfold State.enterConfirmed
    congr 1
    funext u q
    simp only [mem_dropDue_of_ne (other q).symm]
  have same : s.SameDarkening (s.dropDue x) := ⟨rfl, rfl, rfl, rfl⟩
  rw [recheck_eq, recheck_eq, owed]
  exact (same.enterConfirmed s.due allRemotes).darkening r

theorem darkWithout_iff (s : State) (gone : Option RemoteId) (x : SectorId) :
    s.darkWithout gone (sectorOp x) (sectorIx x) = true ↔
      s.InService s.mode.mode (s.opPlan (sectorOp x)).active (sectorIx x) ∧
        ∀ q : RemoteId, gone ≠ some q → ¬ s.Carries (s.opPlan (sectorOp x)).active (sectorIx x) q := by
  unfold darkWithout InService Carries
  simp only [Bool.and_eq_true, Bool.not_eq_true', PlanStore.inService, List.any_eq_true, List.any_eq_false,
    List.contains_iff_mem, Bank.members, List.mem_filter, decide_eq_true_eq]
  refine and_congr Iff.rfl (forall_congr' fun q => ?_)
  simp only [allRemotes, List.mem_finRange, true_and]
  exact ⟨fun h ne c => h c.1 ⟨ne, c.2⟩, fun h cur c => h c.1 ⟨cur, c.2⟩⟩

/-- A sector turns dark without a remote when that remote alone carries it (R62). -/
theorem turnsDark_iff (s : State) (r : RemoteId) (x : SectorId) :
    (!s.darkNow (sectorOp x) (sectorIx x) && s.darkWithout (some r) (sectorOp x) (sectorIx x)) = true ↔ s.WouldDarken r x := by
  rw [Bool.and_eq_true, Bool.not_eq_true', Bool.eq_false_iff, ne_eq, darkNow_iff, darkWithout_iff]
  unfold IsDark WouldDarken
  constructor
  · rintro ⟨lit, service, others⟩
    have alone : ∀ q : RemoteId, q ≠ r → ¬ s.Carries (s.opPlan (sectorOp x)).active (sectorIx x) q :=
      fun q ne => others q (by simpa using Ne.symm ne)
    refine ⟨service, ?_, alone⟩
    by_contra notCarried
    refine lit ⟨service, fun q => ?_⟩
    by_cases e : q = r
    · exact e ▸ notCarried
    · exact alone q e
  · rintro ⟨service, carried, alone⟩
    exact ⟨fun dark => dark.2 r carried, service, fun q ne => alone q fun e => ne (by rw [e])⟩

/-- The first sector, in order, for which a test holds. -/
theorem find?_finRange_eq_some_iff {n : Nat} {p : Fin n → Bool} {i : Fin n} :
    (List.finRange n).find? p = some i ↔ p i = true ∧ ∀ j < i, p j = false := by
  rw [← Fin.find?_eq_find?_finRange, Fin.find?_eq_some_iff]

theorem darkening_eq_some_iff (s : State) (r : RemoteId) (x : SectorId) :
    s.darkening r = some x ↔ s.WouldDarken r x ∧ ∀ y < x, ¬ s.WouldDarken r y := by
  unfold darkening allSectors
  rw [find?_finRange_eq_some_iff, turnsDark_iff]
  refine and_congr Iff.rfl (forall₂_congr fun y _ => ?_)
  rw [← turnsDark_iff, Bool.not_eq_true]

/-! ## Isolations (R143, R146) -/

theorem unlist_listed (s : State) (r q : RemoteId) : (s.unlist r).Listed q ↔ s.Listed q ∧ q ≠ r := by
  unfold Listed unlist
  constructor
  · rintro ⟨e, mem, rfl⟩
    obtain ⟨mem, ne⟩ := List.mem_filter.mp mem
    exact ⟨⟨e, mem, rfl⟩, by simpa using ne⟩
  · rintro ⟨⟨e, mem, rfl⟩, ne⟩
    exact ⟨e, List.mem_filter.mpr ⟨mem, by simpa using ne⟩, rfl⟩

theorem Listed.of_mode (same : t.mode = s.mode) (q : RemoteId) : t.Listed q ↔ s.Listed q := by unfold Listed; rw [same]

theorem unlist_restart_listed (s : State) (r q : RemoteId) : ((s.unlist r).restart r).Listed q ↔ s.Listed q ∧ q ≠ r :=
  (Listed.of_mode (restart_mode _ r) q).trans (unlist_listed s r q)

theorem beginIsolation_frame (s : State) (p : PendingIso) : s.beginIsolation p = { s.restartInto p.remote .isolated with
    mode := { s.mode with isolated :=
      s.mode.isolated ++ [⟨p.remote, s.tb.count, p.delay, returnTimer p.delay, p.force⟩] } } := by
  have frame := restartInto_frame s p.remote .isolated
  have mode : (s.restartInto p.remote .isolated).mode = s.mode := by rw [frame]
  have tb : (s.restartInto p.remote .isolated).tb = s.tb := by rw [frame]
  unfold beginIsolation
  dsimp only
  rw [mode, tb]

/-- A pending isolation that is forced, or darkens no sector, begins (R146). -/
theorem pendingIsolationApply_of_clear {p : PendingIso} (pending : s.mode.pendingIso = some p)
    (clear : p.force = true ∨ s.recheck p.remote = none) : s.pendingIsolationApply =
      ((s.withMode fun u => { u with pendingIso := none }).beginIsolation p).complete .control .done s.isolateClamped [] := by
  have decided : (if p.force = true then none else s.recheck p.remote) = none := by
    rcases clear with force | calm
    · rw [if_pos force]
    · rw [calm, ite_self]
  unfold pendingIsolationApply
  rw [pending]
  dsimp only
  rw [decided]
  rfl

/-- A pending isolation that would darken a sector does not (R146). -/
theorem pendingIsolationApply_of_dark {p : PendingIso} {x : SectorId} (pending : s.mode.pendingIso = some p)
    (gentle : p.force = false) (dark : s.recheck p.remote = some x) : s.pendingIsolationApply =
      (s.withMode fun u => { u with pendingIso := none }).complete .control .wouldDarken s.isolateClamped
        [byte (0x40 + x.val)] := by
  unfold pendingIsolationApply
  rw [pending]
  dsimp only
  rw [if_neg (by simp [gentle]), dark]
  rfl

theorem isolateClamped_of_busy {tag : Byte} {flag : Bool} (busy : s.mgmt.control = some ⟨tag, .isolate flag⟩) :
    s.isolateClamped = flag := by
  unfold isolateClamped
  rw [busy]

theorem isolationTimerExpiry_of_due {r : RemoteId} {e : IsoEntry} (mem : e ∈ s.mode.isolated) (own : e.remote = r)
    (timer : e.timer = some 0) : s.isolationTimerExpiry r = (s.unlist r).restart r :=
  if_pos (List.any_eq_true.mpr ⟨e, mem, by simp [own, timer]⟩)

theorem listed_iff_any (s : State) (r : RemoteId) : (s.mode.isolated.any fun e => e.remote = r) = true ↔ s.Listed r := by
  simp [Listed]

theorem exec_restore_of_ready (tag : Byte) (r : RemoteId) (ready : s.Ready .control) :
    exec (.restore 0x01 tag [byte r.val]) s = .next (carryOut .control tag 0x19 (doRestore .control [byte r.val] s)) :=
  requestStep_of_ready (x := .restore 0x01 tag [byte r.val]) (scope := venueScope) ready rfl rfl

theorem doRestore_of_listed {r : RemoteId} (listed : s.Listed r) :
    doRestore ch [byte r.val] s = answerDone false ((s.unlist r).restart r) := by
  simp only [doRestore, remoteParams, remoteOf_byte, withParams]
  exact if_pos ((listed_iff_any s r).mpr listed)

theorem doRestore_of_absent {r : RemoteId} (absent : ¬ s.Listed r) :
    doRestore ch [byte r.val] s = refuse .nothingPending s := by
  simp only [doRestore, remoteParams, remoteOf_byte, withParams]
  exact if_neg (mt (listed_iff_any s r).mp absent)

theorem LeftUp.of_same (h : s.LeftUp r) (rl : t.rl = s.rl) (records : t.place.records = s.place.records) : t.LeftUp r := by
  unfold LeftUp record at *
  rwa [rl, records]

theorem SameOtherRemotes.of_same {u v : State} {r : RemoteId} (h : s.SameOtherRemotes t r)
    (before : u.rl = s.rl ∧ u.comb.gates = s.comb.gates ∧ u.place.records = s.place.records)
    (after : v.rl = t.rl ∧ v.comb.gates = t.comb.gates ∧ v.place.records = t.place.records) : u.SameOtherRemotes v r := by
  obtain ⟨rl, gates, records⟩ := before
  obtain ⟨rl', gates', records'⟩ := after
  unfold SameOtherRemotes record at *
  rw [rl, gates, records, rl', gates', records']
  exact h

end Sys2Proof.Machine.State
end

section
/-! The statements on switchovers, the hub mode and isolations. -/

namespace Sys2Proof.Proofs

open Sys2Proof.Machine Sys2Proof.Machine.State

/-- Settles O35: the plans and records first, then what the switchover completes, by the origin of the armed bank. -/
theorem switchover : Obligations.Switchover := by
  intro s o origin e next armed
  refine ⟨_, exec_next next, ?_⟩
  rw [effect]
  generalize hu : s.dropDue (.switchover o) = u
  have rest : u = { s with due := u.due } := by rw [← hu]; rfl
  have plan : u.plan = s.plan := by rw [rest]
  have mgmt : u.mgmt = s.mgmt := by rw [rest]
  have armed' : (u.opPlan o).state = .armed origin e := by rw [opPlan, plan]; exact armed
  have plans := switchover_plans (isArmed_of_armed armed')
  have frame := switchover_frame u o
  have switched (p : OpId) : (u.switchover o).opPlan p = (u.modPlan o takeStaged).opPlan p := by
    rw [opPlan, plans]
    rfl
  refine ⟨?_, fun p other => ?_, ?_, ?_, ?_, ?_, ?_, switchover_derived armed', fun balancer => ?_, fun ch tag own up => ⟨fun busy => ?_, fun a busy => ?_⟩⟩
  · rw [switched, opPlan_modPlan_same, opPlan, plan]
    rfl
  · rw [switched, opPlan_modPlan_other _ _ other, opPlan, plan]
    rfl
  · rw [plans, modPlan_carriers, plan]
  · rw [frame, rest]
  · rw [frame, rest]
  · rw [frame, rest]
  · rw [frame, rest]
  · subst balancer
    rw [switchover_of_balancer armed', switchPlan_frame, rest]
    exact ⟨rfl, rfl⟩
  · subst own
    have kept : (u.switchPlan o).mgmt = s.mgmt := by rw [switchPlan_frame, rest]
    have bal : (u.switchPlan o).bal = s.bal := by rw [switchPlan_frame, rest]
    have trunk : (u.switchPlan o).trunk = s.trunk := by rw [switchPlan_frame, rest]
    rw [switchover_of_origin armed', completeArming_of_commit (by rw [kept]; exact busy) (by rw [trunk]; exact up)]
    dsimp only
    rw [kept, bal, completed_eq_setBusy]
    exact ⟨rfl, rfl⟩
  · subst own
    have kept : (u.switchPlan o).mgmt = s.mgmt := by rw [switchPlan_frame, rest]
    have bal : (u.switchPlan o).bal = s.bal := by rw [switchPlan_frame, rest]
    have trunk : (u.switchPlan o).trunk = s.trunk := by rw [switchPlan_frame, rest]
    rw [switchover_of_origin armed', completeArming_of_accept (by rw [kept]; exact busy) (by rw [trunk]; exact up)]
    generalize u.switchPlan o = v at kept bal
    have taken (p : OpId) : (v.acceptedMove o ch.origin a).bal[p] = (v.modBal o fun b =>
        { b with
          holdOff := b.holdOff.set a.remote b.holdWindows
          moves := satInc max16 b.moves
          lastMove := some ⟨a.closing, a.remote, a.fromSector, a.toSector, a.share, ch.origin⟩ }).bal[p] := rfl
    dsimp only
    refine ⟨?_, ?_, ?_, fun p other => ?_, ?_⟩
    · rw [taken, modBal_same, bal]
      simp
    · rw [taken, modBal_same, bal]
      rfl
    · rw [taken, modBal_same]
    · rw [taken, modBal_other _ _ other, bal]
    · rw [kept, completed_eq_setBusy]

/-- Settles O36: by whose mode it is; the records by whether the mode changes. -/
theorem hubModeDecision : Obligations.HubModeDecision := by
  refine ⟨fun s m tag next requested busy up => ?_, fun s m next none auto => ?_⟩
  · refine ⟨_, exec_next next, ?_⟩
    rw [effect]
    rw [hubModeDecision_of_requested (s := s.dropDue _) requested]
    generalize hu : (s.dropDue .hubModeDecision).withMode _ = u
    have mode : u.mode = { s.mode with requested := none, auto := none, quietRun := 0 } := by rw [← hu]; rfl
    have rest : u = { s with due := u.due, mode := u.mode } := by rw [← hu]; rfl
    obtain ⟨same, changed⟩ := takeMode_records u m
    have frame := takeMode_frame u m
    generalize u.takeMode m = v at *
    have mgmt : v.mgmt = s.mgmt := by rw [frame, rest]
    have trunk : v.trunk = s.trunk := by rw [frame, rest]
    rw [complete_of_busy (p := ⟨tag, .modeSet⟩) (by rw [mgmt]; exact busy) (by simp) (by rw [trunk]; exact up)]
    refine ⟨?_, ?_, fun e => ?_, fun ne r => ?_, ?_, ?_, ?_, ?_, ?_⟩
    · rw [frame, mode]
    · dsimp only
      rw [mgmt]
      rfl
    · obtain ⟨place, sup⟩ := same (by rw [mode]; exact e)
      dsimp only
      rw [place, sup, rest]
      exact ⟨rfl, rfl⟩
    · exact (changed (by rw [mode]; exact ne)).of_same (.of_eq rfl rfl rfl) rfl r
    all_goals
      dsimp only
      rw [frame, rest]
  · refine ⟨_, exec_next next, ?_⟩
    rw [effect]
    rw [hubModeDecision_of_auto (s := s.dropDue _) none auto]
    generalize hu : (s.dropDue .hubModeDecision).withMode _ = u
    have mode : u.mode = { s.mode with auto := .none } := by rw [← hu]; rfl
    have rest : u = { s with due := u.due, mode := u.mode } := by rw [← hu]; rfl
    obtain ⟨same, changed⟩ := takeMode_records u m
    have frame := takeMode_frame u m
    generalize u.takeMode m = v at *
    refine ⟨?_, ?_, fun e => ?_, fun ne => changed (by rw [mode]; exact ne), ?_, ?_, ?_, ?_, ?_⟩
    · rw [frame, mode]
    · rw [frame, rest]
    · obtain ⟨place, sup⟩ := same (by rw [mode]; exact e)
      rw [place, sup, rest]
      exact ⟨rfl, rfl⟩
    all_goals rw [frame, rest]

/-- Settles O37: the re-check by the links that are owed their entry into UP, and each end of an isolation as a restart. -/
theorem isolationSteps : Obligations.IsolationSteps := by
  refine ⟨fun s p tag flag next pending clear busy up => ?_, fun s p tag flag x next pending gentle dark busy up => ?_,
    fun s r x => ⟨?_, fun none => ?_⟩, fun s r e next mem own timer => ?_, fun s r tag ready => ⟨fun listed => ?_, fun absent => ?_⟩⟩
  · refine ⟨_, exec_next next, ?_⟩
    rw [effect]
    rw [pendingIsolationApply_of_clear (s := s.dropDue _) pending (by rw [recheck_dropDue (by simp)]; exact clear),
      isolateClamped_of_busy (s := s.dropDue _) busy]
    generalize hu : (s.dropDue .pendingIsolationApply).withMode _ = u
    have mode : u.mode = { s.mode with pendingIso := none } := by rw [← hu]; rfl
    have rest : u = { s with due := u.due, mode := u.mode } := by rw [← hu]; rfl
    have moved := restartInto_frame u p.remote .isolated
    obtain ⟨state, _, _, _, _, format, capability, _⟩ := restartInto_restarted u p.remote (target := .isolated) (by decide)
    have gates := restartInto_gates_same u p.remote .isolated
    have left := restartInto_leftUp u p.remote (target := .isolated) (by decide)
    have others := restartInto_sameOtherRemotes u p.remote .isolated
    rw [beginIsolation_frame]
    generalize u.restartInto p.remote .isolated = v at *
    have mgmt : v.mgmt = s.mgmt := by rw [moved, rest]
    have trunk : v.trunk = s.trunk := by rw [moved, rest]
    rw [complete_of_busy (p := ⟨tag, .isolate flag⟩) (by rw [mgmt]; exact busy) (by simp) (by rw [trunk]; exact up)]
    refine ⟨?_, ?_, state, format, capability, gates, fun wasUp => (left ?_).of_same rfl rfl,
      others.of_same (by rw [rest]; exact ⟨rfl, rfl, rfl⟩) ⟨rfl, rfl, rfl⟩, ?_, ?_⟩
    · dsimp only
      rw [mode, rest]
      rfl
    · dsimp only
      rw [mgmt]
      rfl
    · rw [rest]
      exact wasUp
    · dsimp only
      rw [moved, rest]
    · dsimp only
      rw [moved, rest]
  · rw [exec_next next, effect,
      pendingIsolationApply_of_dark (s := s.dropDue _) pending gentle (by rw [recheck_dropDue (by simp)]; exact dark),
      isolateClamped_of_busy (s := s.dropDue _) busy, complete_of_busy (ch := .control) (p := ⟨tag, .isolate flag⟩) (by exact busy) (by simp) (by exact up)]
    rfl
  · rw [recheck_eq]
    exact darkening_eq_some_iff _ r x
  · exact enterConfirmed_of_none none allRemotes s
  · refine ⟨_, exec_next next, ?_⟩
    rw [effect, isolationTimerExpiry_of_due (s := s.dropDue _) mem own timer]
    have listed (q : RemoteId) := unlist_restart_listed (s.dropDue (.isolationTimerExpiry r)) r q
    refine ⟨fun l => ((listed r).mp l).2 rfl, fun q other => ?_, restart_restarted _ r⟩
    rw [listed]
    exact ⟨fun l => l.1, fun l => ⟨l, other⟩⟩
  · refine ⟨(s.unlist r).restart r, ?_, fun l => ((unlist_restart_listed s r r).mp l).2 rfl, restart_restarted _ r⟩
    rw [exec_restore_of_ready tag r ready, doRestore_of_listed listed, answerDone, carryOut_now_of_up]
    rw [restart_trunk]
    exact ready.trunk_up
  · rw [exec_restore_of_ready tag r ready, doRestore_of_absent absent, refuse, carryOut_now_of_up _ _ _ _ _ _ ready.trunk_up]

end Sys2Proof.Proofs
end

section
/-! SUPPORT. Requests on a ready channel: how their answers are carried out, and how their parameters are read back
(sections 9.1, 9.2 and 10.4). -/

namespace Sys2Proof.Machine

/-! ## Parameters read back -/

theorem byte_toNat {n : Nat} (small : n < 256) : (byte n).toNat = n := by simp [byte, Nat.mod_eq_of_lt small]

@[simp] theorem flagOf_flagByte (b : Bool) : flagOf (flagByte b) = some b := by revert b; decide
@[simp] theorem opOf_byte (o : OpId) : opOf (byte o.val) = some o := by revert o; decide
@[simp] theorem carrierOf_byte (c : CarrierId) : carrierOf (byte c.val) = some c := by revert c; decide
@[simp] theorem sectorIxOf_byte (i : SectorIx) : sectorIxOf (byte i.val) = some i := by revert i; decide
@[simp] theorem slotOf_byte (i : SlotIx) : slotOf (byte i.val) = some i := by revert i; decide
@[simp] theorem hubModeOf_code (m : HubMode) : hubModeOf m.code = some m := by cases m <;> rfl
@[simp] theorem balancerModeOf_code (b : BalancerMode) : balancerModeOf b.code = some b := by cases b <;> rfl

theorem offeredOf_byte {f : FormatSet} (some : f ≠ ⟨false, false, false⟩) : offeredOf (formatSetByte f) = .some f := by
  obtain ⟨a, b, c⟩ := f
  revert a b c
  decide

theorem word16_u16 {n : Nat} (small : n < 65536) : word16 (byte (n / 256)) (byte n) = n := by
  simp only [word16, byte, BitVec.toNat_ofNat]
  omega

theorem unsigned_u32 (code : BitVec 32) : BitVec.ofNat 32 (unsigned (u32 code.toNat)) = code := by
  have small := code.isLt
  apply BitVec.eq_of_toNat_eq
  simp only [unsigned, u32, byte, List.foldl_cons, List.foldl_nil, BitVec.toNat_ofNat]
  omega

theorem codeParams_code (o : OpId) (code : BitVec 32) : codeParams (byte o.val :: u32 code.toNat) = some (o, code) := by
  have read := unsigned_u32 code
  simp only [u32] at read ⊢
  simp only [codeParams, opOf_byte, Option.map_some, read]

/-! ## Clamping (R184) -/

theorem clamped_eq {lo hi n : Nat} (range : lo ≤ hi) : clamped lo hi n = (decide (n < lo) || decide (hi < n)) := by
  unfold clamped clamp
  rw [Bool.eq_iff_iff]
  simp only [decide_eq_true_eq, Bool.or_eq_true]
  omega

theorem clamp_zero (hi n : Nat) : clamp 0 hi n = min n hi := Nat.max_eq_right (Nat.zero_le _)

/-- A byte is never above the range that ends at 255. -/
theorem clamp_byte (b : Byte) : clamp 1 255 b.toNat = max 1 b.toNat := by
  have := b.isLt
  unfold clamp
  omega

theorem byte_eq_zero_iff (b : Byte) : b = 0 ↔ b.toNat < 1 := by
  rw [← BitVec.toNat_inj, Nat.lt_one_iff]
  rfl

theorem clamped_byte (b : Byte) : clamped 1 255 b.toNat = decide (b = 0) := by
  have small := b.isLt
  rw [clamped_eq (by omega), Bool.eq_iff_iff]
  simp only [Bool.or_eq_true, decide_eq_true_eq, byte_eq_zero_iff]
  omega

namespace State

variable {s t : State} {ch : Channel} {x : Instr} {code tag : Byte} {ps : List Byte}
  {scope : Channel → List Byte → State → ScopeVerdict} {body : Channel → List Byte → State → Answer}

/-! ## Answers carried out -/

/-- A request on a ready channel that its scope test takes is carried out as its command's rule decides. -/
theorem exec_of_ready (ready : s.Ready ch) (request : phase x = requestPhase) (taken : scope ch ps s = .taken)
    (own : effect x s = s.request code scope body ch.code tag ps) :
    exec x s = .next (carryOut ch tag code (body ch ps s)) := by
  rw [exec_eq_requestStep request, requestStep_of_ready ready taken own]

/-- A request that is answered at once. -/
theorem exec_now {r : Result} {b : Bool} {d : List Byte} (ready : s.Ready ch) (decided : body ch ps s = .now r b d t)
    (trunk : t.trunk = s.trunk) (taken : scope ch ps s = .taken)
    (own : effect x s = s.request code scope body ch.code tag ps) (request : phase x = requestPhase := by rfl) :
    exec x s = .next (t.answering (reply ch tag code r b d)) := by
  rw [exec_of_ready ready request taken own, decided, carryOut_now_of_up _ _ _ _ _ _ (by rw [trunk]; exact ready.trunk_up)]

/-- A request that stays in progress. -/
theorem exec_later {cmd : Timed} (ready : s.Ready ch) (decided : body ch ps s = .later cmd t)
    (taken : scope ch ps s = .taken) (own : effect x s = s.request code scope body ch.code tag ps)
    (request : phase x = requestPhase := by rfl) : exec x s = .next (t.setBusy ch (some ⟨tag, cmd⟩)) := by
  rw [exec_of_ready ready request taken own, decided, carryOut]

/-- ABORT is taken on a BUSY control channel too (R179). -/
theorem exec_abort_of_quiet (quiet : s.Quiet) (free : 0 < s.mgmt.free) :
    exec (.abort 0x01 tag []) s = .next (carryOut .control tag 0x7F (doAbort .control [] s)) := by
  rw [exec_request_of_quiet (x := .abort 0x01 tag []) rfl quiet]
  have room : s.mgmt.free ≠ 0 := by omega
  have named : channelOfCode 0x01 = some .control := rfl
  have taken : anyScope .control [] s = .taken := rfl
  simp only [effect, request, if_neg room, named, taken, reduceCtorEq, false_and, if_false, ne_eq, not_true_eq_false, and_false]

/-- What ABORT does with the command in progress, when it completes it (R183). -/
theorem exec_abort_of_cancelled {cmd : Timed} {tag₀ : Byte} {b : Bool} {d : List Byte} (quiet : s.Quiet)
    (free : 0 < s.mgmt.free) (up : s.trunk.state = .up) (busy : s.mgmt.control = some ⟨tag₀, cmd⟩) (timed : cmd ≠ .cold)
    (kept : t.mgmt = s.mgmt ∧ t.trunk = s.trunk)
    (decided : doAbort .control [] s = answerDone false (t.complete .control .aborted b d)) :
    exec (.abort 0x01 tag []) s = .next (((t.withMgmt fun g => { g with control := none }).answering
      (reply .control tag₀ cmd.code .aborted b d)).answering (reply .control tag 0x7F .done false [])) := by
  obtain ⟨mgmt, trunk⟩ := kept
  have up' : t.trunk.state = .up := by rw [trunk]; exact up
  rw [exec_abort_of_quiet quiet free, decided, answerDone,
    complete_of_busy (p := ⟨tag₀, cmd⟩) (by rw [mgmt]; exact busy) timed up', carryOut_now_of_up _ _ _ _ _ _ (by exact up')]
  rfl

end State

end Sys2Proof.Machine
end

section
/-! The statements on access, settings, timed commands, alarms and ABORT. -/

namespace Sys2Proof.Proofs

open Sys2Proof.Machine Sys2Proof.Machine.State

/-- Settles O41: each command by what its rule finds of the stored code, the scope and the barring. -/
theorem accessAndScope : Obligations.AccessAndScope := by
  intro s tag o code
  have params := codeParams_code o code
  refine ⟨fun ready => ?_, fun ready barred => ?_, fun ready free => ?_, fun ready named same => ?_, fun ready named other => ?_,
    fun ready none => ?_, fun ready attached => ?_⟩
  · refine exec_now (scope := venueScope) (body := doAccessSet) ready ?_ rfl rfl rfl
    simp only [doAccessSet, params, withParams, answerDone, withMgmt]
    split <;> rfl
  · refine exec_now (scope := venueScope) (body := doRelease) ready ?_ rfl rfl rfl
    simp only [doRelease, noParams, withParams, if_true, barred, answerDone, withMgmt]
  · refine exec_now (scope := venueScope) (body := doRelease) ready ?_ rfl rfl rfl
    simp only [doRelease, noParams, withParams, if_true, free, Bool.false_eq_true, if_false, refuse]
  · refine exec_now (scope := attachScope) (body := doAttach) ready ?_ rfl rfl rfl
    simp only [doAttach, params, withParams, if_neg named, if_pos same, answerDone, withMgmt]
  · refine exec_now (scope := attachScope) (body := doAttach) ready ?_ rfl rfl rfl
    simp only [doAttach, params, withParams, if_neg named, if_neg other, withMgmt]
  · refine exec_now (scope := attachScope) (body := doAttach) ready ?_ rfl rfl rfl
    simp only [doAttach, params, withParams, if_pos none, refuse]
  · refine exec_now (scope := detachScope) (body := doDetach) ready rfl rfl ?_ rfl
    simp only [detachScope, attached, Option.isSome_some, if_true]

/-- Settles O44: the settings as their parameters are read and clamped. -/
theorem settingsStored : Obligations.SettingsStored := by
  intro s tag ready
  refine ⟨fun w limit n small => ?_, fun on level n wake low high => ?_, fun o b hot share n low high => ?_⟩
  · refine exec_now (scope := venueScope) (body := doWindowSet) ready ?_ rfl rfl rfl
    simp only [doWindowSet, u16, List.cons_append, List.nil_append, windowParams, withParams, word16_u16 small, answerDone,
      clamp_byte, clamped_byte, withMeas]
  · refine exec_now (scope := venueScope) (body := doQuietSet) ready ?_ rfl rfl rfl
    simp only [doQuietSet, u16, List.cons_append, List.nil_append, quietParams, flagOf_flagByte, Option.map_some, withParams,
      word16_u16 low, word16_u16 high, answerDone, clamp_byte, clamped_byte, clamp_zero, clamped_eq (Nat.zero_le _),
      Nat.not_lt_zero, decide_false, Bool.false_or, withMode]
  · refine exec_now (scope := ownScope concernsFirst) (body := doBalanceSet) ready ?_ rfl rfl rfl
    have windows : clamped 1 63 n.toNat = (decide (n = 0) || decide (63 < n.toNat)) := by
      rw [clamped_eq (by omega)]
      simp only [byte_eq_zero_iff]
    simp only [doBalanceSet, u16, List.cons_append, List.nil_append, balanceParams, opOf_byte, balancerModeOf_code, withParams,
      word16_u16 low, word16_u16 high, answerDone, windows, clamp_zero, clamped_eq (Nat.zero_le _), Nat.not_lt_zero,
      decide_false, Bool.false_or, Bool.or_assoc]
    rfl

/-- Settles O45: ISOLATE by the tests of its rule, in order. -/
theorem timedCommands : Obligations.TimedCommands := by
  refine ⟨fun s tag ready => ⟨fun m => ?_, ?_, fun r d force small => ?_⟩, darkening_eq_some_iff⟩
  · have e := exec_later (x := .modeSet 0x01 tag [m.code]) (scope := venueScope) (body := doModeSet) (cmd := .modeSet)
      (t := s.withMode fun u => { u with requested := some m }) ready ?_ rfl rfl
    · exact e
    · simp only [doModeSet, modeParams, hubModeOf_code, withParams, withMode]
  · exact exec_later (x := .warm 0x01 tag []) (scope := venueScope) (body := doWarm) ready rfl rfl rfl
  · have read (f : Bool) : isolateParams (byte r.val :: (u16 d ++ [flagByte f])) = some (r, d, f) := by
      simp only [u16, List.cons_append, List.nil_append, isolateParams, remoteOf_byte, flagOf_flagByte, word16_u16 small]
    have delay : clamp 0 3600 d = min d 3600 := clamp_zero ..
    have flag : clamped 0 3600 d = decide (3600 < d) := by simp [clamped_eq]
    refine ⟨fun absent on room clear => ?_, fun listed => ?_, fun absent off => ?_, fun absent on full => ?_,
      fun absent on room x dark => ?_⟩
    · have calm : (if force = true then none else s.darkening r) = none := by
        rcases clear with forced | calm
        · rw [if_pos forced]
        · rw [calm, ite_self]
      refine exec_later (x := .isolate 0x01 tag _) (scope := venueScope) (body := doIsolate) (cmd := .isolate (3600 < d))
        (t := s.withMode fun u => { u with pendingIso := some ⟨r, min d 3600, force⟩ }) ready ?_ rfl rfl
      simp only [doIsolate, read, withParams, delay, flag, if_neg (mt (listed_iff_any s r).mp absent), if_neg on, calm,
        if_neg (Nat.not_le.mpr room), isolationCapacity, withMode]
    · refine exec_now (scope := venueScope) (body := doIsolate) ready ?_ rfl rfl rfl
      have timer : returnTimer (min d 3600) = if d = 0 then none else some (100 * min d 3600) := by
        have zero : min d 3600 = 0 ↔ d = 0 := by omega
        simp only [returnTimer, zero, superframesPerSecond]
      simp only [doIsolate, read, withParams, delay, flag, if_pos ((listed_iff_any s r).mpr listed), answerDone, renew, timer, withMode]
    · refine exec_now (scope := venueScope) (body := doIsolate) ready ?_ rfl rfl rfl
      simp only [doIsolate, read, withParams, flag, if_neg (mt (listed_iff_any s r).mp absent), if_pos off]
    · refine exec_now (scope := venueScope) (body := doIsolate) ready ?_ rfl rfl rfl
      simp only [doIsolate, read, withParams, flag, if_neg (mt (listed_iff_any s r).mp absent), if_neg on, isolationCapacity, if_pos full]
    · refine exec_now (scope := venueScope) (body := doIsolate) ready ?_ rfl rfl rfl
      have quiet : isolateParams (byte r.val :: (u16 d ++ [0x00])) = some (r, d, false) := read false
      simp only [doIsolate, quiet, withParams, flag, if_neg (mt (listed_iff_any s r).mp absent), if_neg on, isolationCapacity,
        if_neg (Nat.not_le.mpr room), Bool.false_eq_true, if_false, dark]
      rfl

/-- Settles O51: ABORT by the command in progress. -/
theorem abortAndUnknown : Obligations.AbortAndUnknown := by
  refine ⟨fun s tag ch ready => ?_, fun s tag tag₀ quiet free up => ⟨fun o origin busy armed => ?_, fun busy => ?_, fun busy => ?_⟩,
    fun s ch tag code ps ready => ?_⟩
  · refine exec_now (scope := anyScope) (body := doAbort) ready ?_ rfl rfl rfl
    obtain ⟨_, _, _, idle, _⟩ := ready
    simp only [doAbort, noParams, if_true, withParams, idle, Option.map_none, refuse]
  · refine exec_abort_of_cancelled (cmd := .planCommit o) (t := s.modPlan o fun p => { p with state := .editing .control })
      quiet free up busy (by simp) ⟨rfl, rfl⟩ ?_
    have cancelled : cancelArmed s o .control = s.modPlan o fun p => { p with state := .editing .control } := by
      unfold cancelArmed
      rw [armed]
    simp only [doAbort, noParams, if_true, withParams, Management.busy, busy, Option.map_some, cancelled]
  · refine exec_abort_of_cancelled (cmd := .modeSet) (t := s.withMode fun u => { u with requested := none })
      quiet free up busy (by simp) ⟨rfl, rfl⟩ ?_
    simp only [doAbort, noParams, if_true, withParams, Management.busy, busy, Option.map_some, withMode]
  · rw [exec_abort_of_quiet quiet free]
    simp only [doAbort, noParams, if_true, withParams, Management.busy, busy, Option.map_some, refuse]
    exact congrArg _ (carryOut_now_of_up _ _ _ _ _ _ up)
  · exact exec_now (scope := anyScope) (body := doUnknown) ready rfl rfl rfl rfl

end Sys2Proof.Proofs
end

section
/-! SUPPORT. The keys of an ALARM ACK, and what one key does (R165, R202). -/

namespace Sys2Proof.Machine

theorem kindOfCode_code (k : Kind) : kindOfCode (byte k.code) = some k := by cases k <;> rfl

theorem objOfCode_code (x : Obj) : objOfCode x.code = some x := by
  cases x with
  | remote r => revert r; decide
  | operator o => revert o; decide
  | sector x => revert x; decide
  | device => rfl

theorem type_of_mem_objects {k : ObjType} {x : Obj} (mem : x ∈ k.objects) : x.type = k := by
  cases k with
  | remote => obtain ⟨_, _, rfl⟩ := List.mem_map.mp mem; rfl
  | operator => obtain ⟨_, _, rfl⟩ := List.mem_map.mp mem; rfl
  | sector => obtain ⟨_, _, rfl⟩ := List.mem_map.mp mem; rfl
  | device => rw [List.mem_singleton.mp mem]; rfl

/-- The codes of a key of the catalogue name it (R202). -/
theorem keyOfCodes_of_catalogue {key : Key} (mem : key ∈ catalogue) : keyOfCodes (byte key.kind.code) key.obj.code = some key := by
  obtain ⟨k, _, mem⟩ := List.mem_flatMap.mp mem
  obtain ⟨x, own, rfl⟩ := List.mem_map.mp mem
  unfold keyOfCodes
  rw [kindOfCode_code, objOfCode_code]
  exact if_pos (type_of_mem_objects own).symm

theorem ackParams_of_one {key : Key} (mem : key ∈ catalogue) :
    ackParams [0x01, byte key.kind.code, key.obj.code] = some [key] := by
  have pairs : keyPairs [byte key.kind.code, key.obj.code] = some [key] := by
    simp only [keyPairs, keyOfCodes_of_catalogue mem]
  rw [ackParams, pairs]
  rfl

theorem alertParams_flag (on : Bool) {masks : BitVec 16} (clear : masks.getLsbD 0 = false) :
    alertParams (flagByte on :: u16 masks.toNat) = some (on, masks) := by
  have low : (byte masks.toNat).getLsbD 0 = false := by
    rw [← clear]
    simp [byte, BitVec.getLsbD]
  have read : BitVec.ofNat 16 (word16 (byte (masks.toNat / 256)) (byte masks.toNat)) = masks := by
    rw [word16_u16 masks.isLt]
    simp
  simp only [u16, alertParams, flagOf_flagByte, low, Bool.false_eq_true, if_false, read]

namespace Supervision

variable {p : Supervision} {key : Key} {e : AlarmEntry}

theorem ack_of_active (now : Count) (found : p.entry key = some e) (active : e.active = true) :
    p.ack now [key] = ({ p with race := p.raceAfter now [key] }, [.stillActive]) := by
  have same : Supervision.entry { p with race := p.raceAfter now [key] } key = some e := found
  simp only [ack, ackKeys, ackKey, same, if_pos active]
  rfl

/-- An ALARM ACK of a CLEARED entry removes it and clears the overflow flag (R162, R165). -/
theorem ack_of_cleared (now : Count) (found : p.entry key = some e) (cleared : e.active = false) :
    (p.ack now [key]).1.alarms = p.alarms.eraseP (fun x => x.key = key) ∧ (p.ack now [key]).1.overflow = false ∧
      (p.ack now [key]).2 = [.removed] := by
  have same : Supervision.entry { p with race := p.raceAfter now [key] } key = some e := found
  have overflow (q : Supervision) : q.clearOverflow.overflow = false := by
    unfold clearOverflow
    split
    · rfl
    · next off => exact Bool.eq_false_iff.mpr off
  simp only [ack, ackKeys, ackKey, same, cleared, Bool.false_eq_true, if_false, List.contains_cons, List.contains_nil,
    beq_self_eq_true, Bool.or_false, if_true, clearOverflow_alarms, countKind_alarms, overflow, and_self]

end Supervision

end Sys2Proof.Machine
end

section
/-! The statement on ALERT SET and ALARM ACK. -/

namespace Sys2Proof.Proofs

open Sys2Proof.Machine Sys2Proof.Machine.State

/-- Settles O46: ALARM ACK by whether the entry of its key is ACTIVE. -/
theorem alarmCommands : Obligations.AlarmCommands := by
  intro s tag ready
  refine ⟨fun on masks clear => ?_, fun key mem e found => ⟨fun active => ?_, fun cleared => ?_⟩⟩
  · refine exec_now (scope := venueScope) (body := doAlertSet) ready ?_ rfl rfl rfl
    simp only [doAlertSet, alertParams_flag on clear, withParams, withSup, withMgmt]
  · have acked := Supervision.ack_of_active s.tb.count found active
    refine ⟨{ s with sup := (s.sup.ack s.tb.count [key]).1 }, ?_, ?_⟩
    · refine exec_now (scope := venueScope) (body := doAlarmAck) ready ?_ rfl rfl rfl
      simp only [doAlarmAck, ackParams_of_one mem, withParams, acked]
      rfl
    · rw [acked]
  · obtain ⟨alarms, overflow, outcomes⟩ := Supervision.ack_of_cleared s.tb.count found cleared
    refine ⟨{ s with sup := (s.sup.ack s.tb.count [key]).1 }, ?_, alarms, overflow, rfl⟩
    refine exec_now (scope := venueScope) (body := doAlarmAck) ready ?_ rfl rfl rfl
    simp only [doAlarmAck, ackParams_of_one mem, withParams, overflow, outcomes]
    rfl

end Sys2Proof.Proofs
end

section
/-! SUPPORT. What LINK SET does to a link (R18 to R20). -/

namespace Sys2Proof.Machine.State

variable {s t u : State} {r : RemoteId}

/-! ## The link record -/

/-- The settings and counters of a link record that no move of the link writes. -/
theorem moved_kept (l : RemoteLink) (x : RemoteState) : (moved l x).enable = l.enable ∧ (moved l x).offered = l.offered ∧
    (moved l x).m = l.m ∧ (moved l x).pmax = l.pmax ∧ (moved l x).mEff = l.mEff ∧ (moved l x).pmaxEff = l.pmaxEff ∧
    (moved l x).negFail = l.negFail := by
  unfold moved
  split <;> exact ⟨rfl, rfl, rfl, rfl, rfl, rfl, rfl⟩

/-- The link record that a disable leaves (R18). -/
def disabled (l : RemoteLink) : RemoteLink :=
  { moved l .off with phase := .none, chosen := none, format := none, capability := none, lostCond := false }

theorem disable_rl_same (s : State) (r : RemoteId) : (s.disable r).rl[r] = disabled s.rl[r] := by
  unfold disable
  rw [clear_rl, closeGates_rl, modRl_same, moveLink_rl_same]
  rfl

theorem disable_gates_same (s : State) (r : RemoteId) : (s.disable r).comb.gates[r] = Vector.replicate 24 ⟨false, 0⟩ := by
  unfold disable
  rw [clear_comb]
  exact closeGates_same _ r

/-! ## What stays -/

/-- Only one remote's link, gates and placement record, and neither plans nor the Balancer, are written. -/
def WritesLink (s t : State) (r : RemoteId) : Prop := s.SameOtherRemotes t r ∧ t.plan = s.plan ∧ t.bal = s.bal

theorem WritesLink.trans (h : s.WritesLink t r) (k : t.WritesLink u r) : s.WritesLink u r := by
  obtain ⟨others, plan, bal⟩ := h
  obtain ⟨others', plan', bal'⟩ := k
  refine ⟨fun q other => ?_, plan'.trans plan, bal'.trans bal⟩
  obtain ⟨link, gates, record⟩ := others q other
  obtain ⟨link', gates', record'⟩ := others' q other
  exact ⟨link'.trans link, gates'.trans gates, record'.trans record⟩

theorem modRl_writesLink (s : State) (r : RemoteId) (f : RemoteLink → RemoteLink) : s.WritesLink (s.modRl r f) r :=
  ⟨fun _ other => ⟨modRl_other s f other, rfl, rfl⟩, rfl, rfl⟩

theorem restart_writesLink (s : State) (r : RemoteId) : s.WritesLink (s.restart r) r :=
  ⟨restartInto_sameOtherRemotes s r .seek, by rw [restart_frame], by rw [restart_frame]⟩

theorem disable_writesLink (s : State) (r : RemoteId) : s.WritesLink (s.disable r) r := by
  refine ⟨fun q other => ⟨?_, ?_, ?_⟩, by rw [disable_frame], by rw [disable_frame]⟩
  · unfold disable
    rw [clear_rl, closeGates_rl, modRl_other _ _ other, moveLink_rl_other s _ other]
  · unfold disable
    rw [clear_comb, closeGates_other _ other, modRl_comb, moveLink_gates]
  · exact moveLink_record_other s .off other

theorem unlist_writesLink (s : State) (r : RemoteId) : s.WritesLink (s.unlist r) r := ⟨fun _ _ => ⟨rfl, rfl, rfl⟩, rfl, rfl⟩

/-! ## The steps of LINK SET -/

variable {x : LinkSettings}

theorem applyEnable_restart (on : x.enable = true) (off : s.rl[x.remote].state = .off) :
    applyEnable s x = (s.modRl x.remote fun l => { l with enable := x.enable }).restart x.remote := by
  unfold applyEnable
  dsimp only
  rw [if_pos on, if_pos off]

theorem applyEnable_stay (stays : x.enable = true ∧ s.rl[x.remote].state ≠ .off ∨ x.enable = false ∧ s.rl[x.remote].state = .off) :
    applyEnable s x = s.modRl x.remote fun l => { l with enable := x.enable } := by
  unfold applyEnable
  dsimp only
  rcases stays with ⟨on, running⟩ | ⟨out, off⟩
  · rw [if_pos on, if_neg running]
  · rw [if_neg (by simp [out]), if_pos off]

theorem applyEnable_disable (out : x.enable = false) (running : s.rl[x.remote].state ≠ .off) : applyEnable s x =
    ((s.modRl x.remote fun l => { l with enable := x.enable }).unlist x.remote).disable x.remote := by
  unfold applyEnable
  dsimp only
  rw [if_neg (by simp [out]), if_neg running]

theorem applyEnable_writesLink (s : State) (x : LinkSettings) : s.WritesLink (applyEnable s x) x.remote := by
  have stored := modRl_writesLink s x.remote fun l => { l with enable := x.enable }
  by_cases on : x.enable = true <;> by_cases off : s.rl[x.remote].state = .off
  · rw [applyEnable_restart on off]
    exact stored.trans (restart_writesLink _ _)
  · rw [applyEnable_stay (.inl ⟨on, off⟩)]
    exact stored
  · rw [applyEnable_stay (.inr ⟨by simpa using on, off⟩)]
    exact stored
  · rw [applyEnable_disable (by simpa using on) off]
    exact (stored.trans (unlist_writesLink _ _)).trans (disable_writesLink _ _)

theorem applyOffered_again (again : offeredRestarts s.rl[x.remote] x.offered = true) : applyOffered s x =
    (s.modRl x.remote fun l => { l with offered := x.offered }).restart x.remote := if_pos again

theorem applyOffered_stay (stays : offeredRestarts s.rl[x.remote] x.offered = false) : applyOffered s x =
    s.modRl x.remote fun l => { l with offered := x.offered } := if_neg (Bool.eq_false_iff.mp stays)

theorem applyOffered_writesLink (s : State) (x : LinkSettings) : s.WritesLink (applyOffered s x) x.remote := by
  have stored := modRl_writesLink s x.remote fun l => { l with offered := x.offered }
  by_cases again : offeredRestarts s.rl[x.remote] x.offered = true
  · rw [applyOffered_again again]
    exact stored.trans (restart_writesLink _ _)
  · rw [applyOffered_stay (by simpa using again)]
    exact stored

theorem offeredRestarts_iff (l : RemoteLink) (f : FormatSet) : offeredRestarts l f = true ↔
    (l.state = .negotiate ∧ l.phase ≠ .awaitCapability ∧ ∃ c, l.chosen = some c ∧ f.has c = false) ∨
    (l.state = .up ∧ ∃ c, l.format = some c ∧ f.has c = false) ∨ (l.state = .mismatch ∧ f ≠ l.offered) := by
  unfold offeredRestarts
  cases state : l.state <;> simp only [reduceCtorEq, false_and, true_and, false_or, or_false, Bool.false_eq_true]
  case negotiate => cases l.chosen <;> simp
  case up => cases l.format <;> simp
  case mismatch => simp

theorem offeredRestarts_of_idle {l : RemoteLink} (f : FormatSet) (idle : l.state = .off ∨ l.state = .seek) :
    offeredRestarts l f = false := by
  rw [Bool.eq_false_iff, ne_eq, offeredRestarts_iff]
  rcases idle with h | h <;> simp [h]

theorem modRl_modRl (s : State) (r : RemoteId) (f g : RemoteLink → RemoteLink) :
    (s.modRl r f).modRl r g = s.modRl r fun l => g (f l) := by
  unfold modRl
  simp

/-! ## LINK SET taken whole -/

/-- The hub after a LINK SET. -/
def linkSetState (s : State) (x : LinkSettings) : State :=
  (applyOffered (applyEnable s x) x).modRl x.remote fun l => { l with m := min x.m 4096, pmax := max 1 (min x.pmax 4000) }

theorem linkSetState_writesLink (s : State) (x : LinkSettings) : s.WritesLink (linkSetState s x) x.remote :=
  ((applyEnable_writesLink s x).trans (applyOffered_writesLink _ x)).trans (modRl_writesLink _ _ _)

theorem doLinkSet_params {ch : Channel} {ps : List Byte} (read : linkParams ps = some x) :
    doLinkSet ch ps s = answerDone (4096 < x.m || x.pmax < 1 || 4000 < x.pmax) (linkSetState s x) := by
  simp only [doLinkSet, read, withParams, clamp_zero, clamped_eq (Nat.zero_le _), clamped_eq (show 1 ≤ 4000 by omega),
    Nat.not_lt_zero, decide_false, Bool.false_or, Bool.or_assoc]
  rfl

/-- A link that keeps its state has its settings stored alone. -/
theorem linkSetState_stay (stays : x.enable = true ∧ s.rl[x.remote].state ≠ .off ∧ offeredRestarts s.rl[x.remote] x.offered = false ∨
    x.enable = false ∧ s.rl[x.remote].state = .off) : linkSetState s x = s.modRl x.remote fun l =>
      { l with enable := x.enable, offered := x.offered, m := min x.m 4096, pmax := max 1 (min x.pmax 4000) } := by
  have calm : offeredRestarts (s.modRl x.remote fun l => { l with enable := x.enable }).rl[x.remote] x.offered = false := by
    rw [modRl_same]
    rcases stays with ⟨_, _, calm⟩ | ⟨_, off⟩
    · exact calm
    · exact offeredRestarts_of_idle _ (.inl off)
  have enabled := applyEnable_stay (s := s) (x := x)
    (stays.elim (fun ⟨on, running, _⟩ => .inl ⟨on, running⟩) fun ⟨out, off⟩ => .inr ⟨out, off⟩)
  unfold linkSetState
  rw [enabled, applyOffered_stay calm, modRl_modRl, modRl_modRl]

/-- A restart and the settings of the link do not meet. -/
theorem restarted_moved_settings (l : RemoteLink) (e : Bool) (f : FormatSet) :
    restarted (moved { l with enable := e, offered := f } .seek) = { restarted (moved l .seek) with enable := e, offered := f } := by
  by_cases up : l.state = .up
  · rw [moved_of_up (l := { l with enable := e, offered := f }) _ up, moved_of_up _ up]
    rfl
  · rw [moved_of_not_up (l := { l with enable := e, offered := f }) _ up, moved_of_not_up _ up]
    rfl

theorem restarted_moved_enable (l : RemoteLink) (e : Bool) :
    restarted (moved { l with enable := e } .seek) = { restarted (moved l .seek) with enable := e } := by
  have settings := restarted_moved_settings l e l.offered
  obtain ⟨-, offered, -⟩ := moved_kept l .seek
  rw [settings, ← offered]
  rfl

/-- A link that is enabled from OFF, or loses its format, restarts. -/
theorem linkSetState_restart (on : x.enable = true)
    (again : s.rl[x.remote].state = .off ∨ offeredRestarts s.rl[x.remote] x.offered = true) :
    (linkSetState s x).rl[x.remote] = { restarted (moved s.rl[x.remote] .seek) with
        enable := x.enable, offered := x.offered, m := min x.m 4096, pmax := max 1 (min x.pmax 4000) } ∧
      (linkSetState s x).comb.gates[x.remote] = Vector.replicate 24 ⟨false, 0⟩ := by
  unfold linkSetState
  rw [modRl_same, modRl_comb]
  by_cases off : s.rl[x.remote].state = .off
  · have calm : offeredRestarts (applyEnable s x).rl[x.remote] x.offered = false := by
      rw [applyEnable_restart on off]
      exact offeredRestarts_of_idle _ (.inr (restartInto_state _ _ _))
    rw [applyOffered_stay calm, applyEnable_restart on off, modRl_same, modRl_comb]
    refine ⟨?_, restartInto_gates_same _ _ _⟩
    rw [restart, restartInto_rl_same, modRl_same, restarted_moved_enable]
  · have again : offeredRestarts (applyEnable s x).rl[x.remote] x.offered = true := by
      rw [applyEnable_stay (.inl ⟨on, off⟩), modRl_same]
      exact again.resolve_left off
    rw [applyOffered_again again, applyEnable_stay (.inl ⟨on, off⟩), modRl_modRl]
    refine ⟨?_, restartInto_gates_same _ _ _⟩
    rw [restart, restartInto_rl_same, modRl_same]
    exact congrArg (fun l : RemoteLink => { l with m := min x.m 4096, pmax := max 1 (min x.pmax 4000) })
      (restarted_moved_settings s.rl[x.remote] x.enable x.offered)

/-- A link that is disabled goes to OFF and off the isolation list. -/
theorem linkSetState_disable (out : x.enable = false) (running : s.rl[x.remote].state ≠ .off) :
    (linkSetState s x).rl[x.remote].state = .off ∧ (linkSetState s x).rl[x.remote].format = none ∧
      (linkSetState s x).rl[x.remote].chosen = none ∧ (linkSetState s x).rl[x.remote].capability = none ∧
      (linkSetState s x).rl[x.remote].lostCond = false ∧
      (linkSetState s x).comb.gates[x.remote] = Vector.replicate 24 ⟨false, 0⟩ ∧
      (linkSetState s x).mode = (s.unlist x.remote).mode := by
  unfold linkSetState
  rw [modRl_same, modRl_comb]
  have calm : offeredRestarts (applyEnable s x).rl[x.remote] x.offered = false := by
    rw [applyEnable_disable out running]
    exact offeredRestarts_of_idle _ (.inl (by rw [disable_rl_same]; rfl))
  rw [applyOffered_stay calm, applyEnable_disable out running, modRl_same, modRl_comb, disable_rl_same]
  refine ⟨rfl, rfl, rfl, rfl, rfl, disable_gates_same _ _, ?_⟩
  rw [modRl_mode, modRl_mode, disable_frame]
  rfl

theorem applyEnable_settings (s : State) (x : LinkSettings) : (applyEnable s x).rl[x.remote].enable = x.enable ∧
    (applyEnable s x).rl[x.remote].mEff = s.rl[x.remote].mEff ∧ (applyEnable s x).rl[x.remote].pmaxEff = s.rl[x.remote].pmaxEff ∧
    (applyEnable s x).rl[x.remote].negFail = s.rl[x.remote].negFail := by
  by_cases on : x.enable = true <;> by_cases off : s.rl[x.remote].state = .off
  · rw [applyEnable_restart on off, restart, restartInto_rl_same, modRl_same]
    obtain ⟨enable, -, -, -, mEff, pmaxEff, negFail⟩ := moved_kept { s.rl[x.remote] with enable := x.enable } .seek
    exact ⟨enable, mEff, pmaxEff, negFail⟩
  · rw [applyEnable_stay (.inl ⟨on, off⟩), modRl_same]
    exact ⟨rfl, rfl, rfl, rfl⟩
  · rw [applyEnable_stay (.inr ⟨by simpa using on, off⟩), modRl_same]
    exact ⟨rfl, rfl, rfl, rfl⟩
  · rw [applyEnable_disable (by simpa using on) off, disable_rl_same, unlist_rl, modRl_same]
    obtain ⟨enable, -, -, -, mEff, pmaxEff, negFail⟩ := moved_kept { s.rl[x.remote] with enable := x.enable } .off
    exact ⟨enable, mEff, pmaxEff, negFail⟩

theorem applyOffered_settings (s : State) (x : LinkSettings) :
    (applyOffered s x).rl[x.remote].enable = s.rl[x.remote].enable ∧ (applyOffered s x).rl[x.remote].offered = x.offered ∧
    (applyOffered s x).rl[x.remote].mEff = s.rl[x.remote].mEff ∧
    (applyOffered s x).rl[x.remote].pmaxEff = s.rl[x.remote].pmaxEff ∧
    (applyOffered s x).rl[x.remote].negFail = s.rl[x.remote].negFail := by
  by_cases again : offeredRestarts s.rl[x.remote] x.offered = true
  · rw [applyOffered_again again, restart, restartInto_rl_same, modRl_same]
    obtain ⟨enable, offered, -, -, mEff, pmaxEff, negFail⟩ := moved_kept { s.rl[x.remote] with offered := x.offered } .seek
    exact ⟨enable, offered, mEff, pmaxEff, negFail⟩
  · rw [applyOffered_stay (by simpa using again), modRl_same]
    exact ⟨rfl, rfl, rfl, rfl, rfl⟩

theorem linkSetState_trunk (s : State) (x : LinkSettings) : (linkSetState s x).trunk = s.trunk := by
  unfold linkSetState
  rw [modRl_trunk, applyOffered_frame]
  dsimp only
  rw [applyEnable_frame]

/-- The settings that LINK SET stores, and what it leaves of the link. -/
theorem linkSetState_settings (s : State) (x : LinkSettings) :
    (linkSetState s x).rl[x.remote].enable = x.enable ∧ (linkSetState s x).rl[x.remote].offered = x.offered ∧
      (linkSetState s x).rl[x.remote].m = min x.m 4096 ∧ (linkSetState s x).rl[x.remote].pmax = max 1 (min x.pmax 4000) ∧
      (linkSetState s x).rl[x.remote].mEff = s.rl[x.remote].mEff ∧
      (linkSetState s x).rl[x.remote].pmaxEff = s.rl[x.remote].pmaxEff ∧
      (linkSetState s x).rl[x.remote].negFail = s.rl[x.remote].negFail := by
  obtain ⟨enable, mEff, pmaxEff, negFail⟩ := applyEnable_settings s x
  obtain ⟨enable', offered', mEff', pmaxEff', negFail'⟩ := applyOffered_settings (applyEnable s x) x
  unfold linkSetState
  rw [modRl_same]
  exact ⟨enable'.trans enable, offered', rfl, rfl, mEff'.trans mEff, pmaxEff'.trans pmaxEff, negFail'.trans negFail⟩

theorem linkParams_read {r : RemoteId} {e : Bool} {f : FormatSet} {m p : Nat} (some : f ≠ ⟨false, false, false⟩)
    (small : m < 65536) (small' : p < 65536) :
    linkParams (byte r.val :: flagByte e :: formatSetByte f :: (u16 m ++ u16 p)) = .some ⟨r, e, f, m, p⟩ := by
  simp only [u16, List.cons_append, List.nil_append, linkParams, remoteOf_byte, flagOf_flagByte, offeredOf_byte some,
    word16_u16 small, word16_u16 small']

end Sys2Proof.Machine.State
end

section
/-! The statement on LINK SET. -/

namespace Sys2Proof.Proofs

open Sys2Proof.Machine Sys2Proof.Machine.State

/-- Settles O43: the enable and the offered set are applied in turn, and at most one of them restarts or disables the
link. -/
theorem linkSet : Obligations.LinkSet := by
  refine ⟨fun s tag r on f m pmax ready some small small' => ?_, offeredRestarts_iff⟩
  have read := linkParams_read (r := r) (e := on) some small small'
  obtain ⟨others, plan, bal⟩ := linkSetState_writesLink s ⟨r, on, f, m, pmax⟩
  obtain ⟨enable, offered, stored, limit, mEff, pmaxEff, negFail⟩ := linkSetState_settings s ⟨r, on, f, m, pmax⟩
  refine ⟨linkSetState s ⟨r, on, f, m, pmax⟩, ?_, enable, offered, stored, limit, mEff, pmaxEff, negFail, others, plan, bal, fun stays => ?_,
    fun enabled again => ?_, fun out running => ?_⟩
  · exact exec_now (scope := venueScope) (body := doLinkSet) ready (doLinkSet_params read) (linkSetState_trunk s _) rfl rfl
  · exact linkSetState_stay stays
  · obtain ⟨link, gates⟩ := linkSetState_restart (x := ⟨r, on, f, m, pmax⟩) enabled again
    rw [link]
    exact ⟨rfl, rfl, rfl, gates⟩
  · obtain ⟨state, format, chosen, capability, lost, gates, mode⟩ :=
      linkSetState_disable (x := ⟨r, on, f, m, pmax⟩) out running
    refine ⟨state, format, chosen, capability, fun listed => ?_, lost, gates⟩
    exact ((unlist_listed s r r).mp ((Listed.of_mode mode r).mp listed)).2 rfl

end Sys2Proof.Proofs
end

section
/-! SUPPORT. The carrier table's rules (R30 to R32). -/

namespace Sys2Proof.Machine

theorem State.slotHeld_iff (s : State) (c : CarrierId) (o : OpId) (slot : SlotIx) : slotHeld s c o slot = true ↔
    ∃ d p, d ≠ c ∧ (s.carrier d).place = some p ∧ p.op = o ∧ p.slot = slot := by
  simp only [slotHeld, List.any_eq_true, Bool.and_eq_true, decide_eq_true_eq]
  constructor
  · rintro ⟨d, -, other, held⟩
    cases place : (s.carrier d).place with
    | none => simp [place] at held
    | some p =>
      simp only [place, Bool.and_eq_true, decide_eq_true_eq] at held
      exact ⟨d, p, other, place, held⟩
  · rintro ⟨d, p, other, place, held⟩
    refine ⟨d, List.mem_finRange d, other, ?_⟩
    simpa only [place, Bool.and_eq_true, decide_eq_true_eq] using held

theorem Bank.lists_iff (b : Bank) (c : CarrierId) : b.lists c = true ↔ ∃ i : SectorIx, c ∈ b.sectors[i].carriers := by
  simp [lists, allSectorIxs]

theorem State.isListed_iff (s : State) (c : CarrierId) : isListed s c = true ↔
    ∃ (o : OpId) (i : SectorIx), s.plan.owner c = some o ∧
      (c ∈ (s.opPlan o).active.sectors[i].carriers ∨ c ∈ (s.opPlan o).staged.sectors[i].carriers) := by
  unfold isListed
  cases owner : s.plan.owner c with
  | none => simp
  | some o => simp only [Bool.or_eq_true, Bank.lists_iff, Option.some.injEq, exists_or, exists_and_left, exists_eq_left']

theorem clamp_one (hi n : Nat) : clamp 1 hi n = max 1 (min n hi) := rfl

/-- The numeric settings of CARRIER SET are clamped one by one (R30, R184). -/
theorem clampLevels_ne_iff (v : Levels) : clampLevels v ≠ v ↔
    4096 < v.mdl ∨ v.power = 0 ∨ 1000 < v.power ∨ 32767 < v.activity ∨ 32767 < v.gate ∨ 255 < v.hold := by
  obtain ⟨mdl, power, activity, gate, hold⟩ := v
  simp only [clampLevels, clamp, ne_eq, Levels.mk.injEq]
  omega

/-- The settings are read back from the bytes of CARRIER SET (section 10.4). -/
theorem carrierSetParams_read {c : CarrierId} {o : OpId} {slot : SlotIx} {k prio : Nat} {ev : Bool} {v : Levels} (width : k < 256)
    (priority : prio < 256) (mdl : v.mdl < 65536) (power : v.power < 65536) (activity : v.activity < 65536)
    (gate : v.gate < 65536) (hold : v.hold < 65536) :
    carrierSetParams ([byte c.val, byte o.val, byte slot.val, byte k, byte prio, flagByte ev] ++ u16 v.mdl ++ u16 v.power ++
      u16 v.activity ++ u16 v.gate ++ u16 v.hold) = some ⟨c, o, slot, k, prio, ev, v⟩ := by
  simp only [u16, List.cons_append, List.nil_append, carrierSetParams, carrierOf_byte, opOf_byte, slotOf_byte, flagOf_flagByte,
    word16_u16 mdl, word16_u16 power, word16_u16 activity, word16_u16 gate, word16_u16 hold, byte_toNat width,
    byte_toNat priority]

namespace State

variable {s : State}

/-- A carrier whose place changes loses its outputs (R31). -/
def replaced (s : State) (c : CarrierId) (p : CarrierPlace) : State :=
  if (s.carrier c).place = some p then s else s.dropOutputs c

theorem replaced_frame (s : State) (c : CarrierId) (p : CarrierPlace) :
    s.replaced c p = { s with comb := (s.replaced c p).comb } := by
  unfold replaced
  split <;> rfl

theorem replaced_gates (s : State) (c : CarrierId) (p : CarrierPlace) : (s.replaced c p).comb.gates = s.comb.gates := by
  unfold replaced
  split <;> rfl

/-- What CARRIER SET decides of settings that were read (R30, R31). -/
theorem doCarrierSet_params {ch : Channel} {ps : List Byte} {x : CarrierSettings} (read : carrierSetParams ps = some x)
    {place : CarrierPlace} {flag : Bool} (at' : place = ⟨x.op, x.slot, clamp 1 4 x.width⟩)
    (flagged : flag = (clamped 1 4 x.width || clamped 0 7 x.priority || clampLevels x.levels ≠ x.levels)) :
    doCarrierSet ch ps s =
      if slotHeld s x.carrier x.op x.slot then .now .inUse flag [] s
      else if isListed s x.carrier = true ∧ ¬ ((s.carrier x.carrier).place = some place ∧
        (s.carrier x.carrier).priority = clamp 0 7 x.priority ∧ (s.carrier x.carrier).eventOnly = x.eventOnly) then
        .now .inUse flag [] s
      else answerDone flag ((s.replaced x.carrier place).modCarrier x.carrier fun k =>
        { k with place := some place, priority := clamp 0 7 x.priority, eventOnly := x.eventOnly, set := clampLevels x.levels }) := by
  subst at' flagged
  simp only [doCarrierSet, read, withParams, Bool.and_eq_true, Bool.not_eq_true', Bool.eq_false_iff, ne_eq, decide_eq_true_eq, and_assoc]
  rfl

end State

end Sys2Proof.Machine
end

section
/-! The statement on the carrier table. -/

namespace Sys2Proof.Proofs

open Sys2Proof.Machine Sys2Proof.Machine.State

/-- Settles O47: CARRIER SET and CARRIER CLEAR by the slot, the lists and the carrier's present place. -/
theorem carrierTable : Obligations.CarrierTable := by
  refine ⟨fun s tag c ready => ⟨fun o slot k prio ev v width priority mdl power activity gate hold => ?set, fun listed => ?_,
    fun free defined => ?_, fun unused => ?_⟩, slotHeld_iff, isListed_iff⟩
  case set =>
    intro i place stored flag same
    have read := carrierSetParams_read (c := c) (o := o) (slot := slot) (ev := ev) width priority mdl power activity gate hold
    have clamps : clampLevels v = stored := by
      simp only [clampLevels, clamp_zero, clamp_one, stored]
    have flagged : flag = (clamped 1 4 k || clamped 0 7 prio || clampLevels v ≠ v) := by
      rw [clamped_eq (by omega), clamped_eq (by omega), Bool.eq_iff_iff]
      simp only [flag, Bool.or_eq_true, decide_eq_true_eq, clampLevels_ne_iff]
      omega
    have decided := doCarrierSet_params (s := s) (ch := .control) read (place := place) rfl flagged
    dsimp only at decided
    rw [clamps, clamp_zero] at decided
    have now := fun t b (h : doCarrierSet .control _ s = .now b flag [] t) trunk =>
      exec_now (tag := tag) (x := i) (code := 0x30) (scope := ownScope concernsCarrierSet) (body := doCarrierSet) ready h trunk rfl rfl
    refine ⟨fun open' allowed => ?_, fun held => ?_, fun open' listed differs => ?_⟩
    · rw [if_neg (by rw [open']; decide), if_neg (fun h => allowed.elim (fun f => by simp [f] at h) h.2)] at decided
      refine ⟨_, now _ _ decided ?_, ?_, ?_, ?_, ?_, ?_, ?_⟩
      · rw [modCarrier_trunk, replaced_frame]
      · rw [modCarrier_same, replaced_frame]
        rfl
      · intro d other
        rw [modCarrier_other _ _ other, replaced_frame]
        rfl
      · rw [modCarrier_plans, replaced_frame]
      · rw [replaced_frame]
        rfl
      · exact replaced_gates s c place
      · intro unmoved
        rw [modCarrier_comb, replaced, if_pos unmoved]
    · rw [if_pos held] at decided
      exact now _ _ decided rfl
    · rw [if_neg (by rw [open']; decide), if_pos ⟨listed, differs⟩] at decided
      exact now _ _ decided rfl
  all_goals
    have now := fun t b (h : doCarrierClear .control [byte c.val] s = .now b false [] t) trunk =>
      exec_now (tag := tag) (x := .carrierClear 0x01 tag [byte c.val]) (code := 0x31) (scope := ownScope concernsCarrierClear)
        (body := doCarrierClear) ready h trunk rfl rfl
  · refine now _ _ ?_ rfl
    simp only [doCarrierClear, carrierParams, carrierOf_byte, withParams, listed, if_true, refuse]
  · refine ⟨_, now ((s.dropOutputs c).modCarrier c fun _ => CarrierRecord.unused) _ ?_ rfl, ?_, ?_, rfl, rfl⟩
    · simp only [doCarrierClear, carrierParams, carrierOf_byte, withParams, free, Bool.false_eq_true, if_false, defined, if_true,
        answerDone]
    · rw [modCarrier_same]
    · intro d other
      rw [modCarrier_other _ _ other]
      rfl
  · have free : isListed s c = false := by
      have owner : s.plan.owner c = none := by simp only [PlanStore.owner]; exact congrArg _ unused
      simp only [isListed, owner]
    refine now _ _ ?_ rfl
    simp only [doCarrierClear, carrierParams, carrierOf_byte, withParams, free, Bool.false_eq_true, if_false, unused,
      Option.isSome_none, answerDone]

end Sys2Proof.Proofs
end

section
/-! SUPPORT. Edits of a staged bank (R35 to R40), and what the trial placement and the fit test compute (R43, R61). -/

namespace Sys2Proof.Machine

/-! ## Lists read back -/

/-- A list of identifiers is read back item by item. -/
theorem allOf_map {α : Type} {f : Byte → Option α} {g : α → Byte} (back : ∀ a, f (g a) = some a) (l : List α) :
    allOf f (l.map g) = some l := by
  induction l with
  | nil => rfl
  | cons a l ih => simp only [List.map_cons, allOf, back, ih]

theorem homeOf_sectorByte (home : Option SectorIx) : homeOf (sectorByte home) = some home := by
  revert home
  decide

theorem sectorParams_read {o : OpId} {i : SectorIx} {h : Nat} {cs : List CarrierId} (small : h < 256) (few : cs.length ≤ 8)
    (once : cs.Nodup) : sectorParams ([byte o.val, byte i.val, byte h, byte cs.length] ++ cs.map fun c => byte c.val) =
      some ⟨o, i, h, cs⟩ := by
  have length : (byte cs.length).toNat = cs.length := byte_toNat (by omega)
  simp only [List.cons_append, List.nil_append, sectorParams, opOf_byte, sectorIxOf_byte, allOf_map carrierOf_byte, byte_toNat small,
    length, List.length_map, once]
  rw [if_pos ⟨few, trivial, trivial⟩]

theorem zoneParams_read {o : OpId} {r : RemoteId} {home : Option SectorIx} {pin : Bool} {alts : List SectorIx}
    (few : alts.length ≤ 3) (fit : altsFit home alts = true) :
    zoneParams ([byte o.val, byte r.val, sectorByte home, flagByte pin, byte alts.length] ++ alts.map fun i => byte i.val) =
      some ⟨o, r, home, pin, alts⟩ := by
  have length : (byte alts.length).toNat = alts.length := byte_toNat (by omega)
  simp only [List.cons_append, List.nil_append, zoneParams, opOf_byte, remoteOf_byte, homeOf_sectorByte, flagOf_flagByte,
    allOf_map sectorIxOf_byte, length, List.length_map]
  rw [if_pos ⟨few, trivial, fit⟩]

theorem opParams_byte (o : OpId) : opParams [byte o.val] = some o := opOf_byte o

/-! ## Admission by the state of the staged bank (R35) -/

/-- The service channel's own operator, or any on the control channel, is in scope. -/
theorem firstScope_taken {s : State} {ch : Channel} {o : OpId} (own : ch = .service → s.mgmt.scope = some o) (ps : List Byte) :
    ownScope concernsFirst ch (byte o.val :: ps) s = .taken := by
  cases ch with
  | control => rfl
  | service =>
    have small := o.isLt
    simp only [ownScope, own rfl, concernsFirst, names, byte_toNat (show o.val < 256 by omega), if_true]

section
variable {s : State} {ch : Channel} {o : OpId} {flag : Bool} {f : Bank → Bank}

theorem edit_of_free (free : (s.opPlan o).state = .clean ∨ (s.opPlan o).state = .editing ch) :
    edit ch o flag f s = answerDone flag (s.modPlan o fun p => { p with staged := f (s.opPlan o).staged, state := .editing ch }) := by
  rcases free with state | state <;> simp only [edit, state, editRefusal, if_true] <;> rfl

theorem edit_of_armed {origin : Origin} {e : Bool} (armed : (s.opPlan o).state = .armed origin e) :
    edit ch o flag f s = refuse .switchPending s := by simp only [edit, armed, editRefusal]

theorem edit_of_held {holder : Channel} (other : holder ≠ ch) (editing : (s.opPlan o).state = .editing holder) :
    edit ch o flag f s = refuse .held s := by simp only [edit, editing, editRefusal, if_neg other]

end

/-! ## PLAN SECTOR and PLAN HOME -/

theorem editSector_named (x : SectorEdit) (h : Nat) (b : Bank) :
    (editSector x h b).sectors[x.sector] = ⟨allCarriers.filter fun c => x.carriers.contains c, h⟩ :=
  (State.getElem_tab _ x.sector).trans (if_pos rfl)

theorem editSector_other (x : SectorEdit) (h : Nat) (b : Bank) {j : SectorIx} (other : j ≠ x.sector) :
    (editSector x h b).sectors[j] = { b.sectors[j] with
      carriers := b.sectors[j].carriers.filter fun c => !x.carriers.contains c } :=
  (State.getElem_tab _ j).trans (if_neg other)

theorem editHome_sectors (b : Bank) : (editHome b).sectors = b.sectors := by dsimp only [editHome]

theorem editHome_zone (b : Bank) (r : RemoteId) : (editHome b).zones[r] = { b.zones[r] with cur := b.zones[r].home } :=
  State.getElem_tab _ r

/-! ## The routed set of a remote with one operator's list replaced (R43, R61) -/

theorem PlanStore.mem_route_callsWith {ps : PlanStore} {mode : HubMode} {r : RemoteId} {o : OpId} {l : List CarrierId} {c : CarrierId} :
    c ∈ ps.route mode (ps.callsWith r o l) ↔
      (c ∈ l ∨ ∃ p : OpId, p ≠ o ∧ State.Calls ps.plans[p].active r c) ∧ ps.suspended mode c = false := by
  rw [mem_route_iff, and_congr_left_iff]
  intro _
  simp only [callsWith, allOps, List.mem_map, List.mem_finRange, true_and, exists_exists_eq_and]
  constructor
  · rintro ⟨p, mem⟩
    by_cases same : p = o
    · rw [if_pos same] at mem
      exact .inl mem
    · rw [if_neg same] at mem
      exact .inr ⟨p, same, Bank.mem_calls_iff.mp mem⟩
  · rintro (mem | ⟨p, other, calls⟩)
    · exact ⟨o, by rwa [if_pos rfl]⟩
    · exact ⟨p, by rw [if_neg other]; exact Bank.mem_calls_iff.mpr calls⟩

namespace State

variable {s : State} {r : RemoteId} {o : OpId}

theorem routes_callsWith {l : List CarrierId} {called : CarrierId → Prop}
    (calls : ∀ c, called c ↔ c ∈ l ∨ ∃ p : OpId, p ≠ o ∧ Calls (s.opPlan p).active r c) :
    s.Routes called (s.plan.route s.mode.mode (s.plan.callsWith r o l)) :=
  ⟨(s.plan.route_ascending _ _).nodup, fun c => by rw [PlanStore.mem_route_callsWith, calls]; rfl⟩

theorem Routes.perm {called : CarrierId → Prop} {cs ds : List CarrierId} (h : s.Routes called cs) (k : s.Routes called ds) :
    cs.Perm ds := by
  obtain ⟨once, mem⟩ := h
  obtain ⟨once', mem'⟩ := k
  exact (List.perm_ext_iff_of_nodup once once').mpr fun c => (mem c).trans (mem' c).symm

theorem unitsAt_eq (s : State) (f : Format) (cs : List CarrierId) : s.unitsAt f cs = s.plan.units f cs := by
  cases f <;> rfl

theorem unitsAt_perm (f : Format) {cs ds : List CarrierId} (h : cs.Perm ds) : s.unitsAt f cs = s.unitsAt f ds :=
  (h.map _).sum_eq

theorem upFormat_eq_some_iff {f : Format} : s.upFormat r = some f ↔ s.rl[r].state = .up ∧ s.rl[r].format = some f := by
  unfold upFormat
  split
  · next up => exact ⟨fun h => ⟨up, h⟩, And.right⟩
  · next up => exact ⟨fun h => by contradiction, fun h => absurd h.1 up⟩

/-- The units of the fit test are those of the carriers that the staged bank and the others' active banks call for (R43). -/
theorem stagedUnits_eq_some_iff {n : Nat} : s.stagedUnits o r = some n ↔
    ∃ f cs, s.rl[r].state = .up ∧ s.rl[r].format = some f ∧ n = s.unitsAt f cs ∧
      s.Routes (fun c => Calls (s.opPlan o).staged r c ∨ ∃ p : OpId, p ≠ o ∧ Calls (s.opPlan p).active r c) cs := by
  have routes := routes_callsWith (s := s) (r := r) (o := o) (l := (s.opPlan o).staged.calls r)
    (called := fun c => Calls (s.opPlan o).staged r c ∨ ∃ p : OpId, p ≠ o ∧ Calls (s.opPlan p).active r c)
    fun c => or_congr_left Bank.mem_calls_iff.symm
  unfold stagedUnits
  rw [Option.map_eq_some_iff]
  constructor
  · rintro ⟨f, format, rfl⟩
    obtain ⟨up, format⟩ := upFormat_eq_some_iff.mp format
    exact ⟨f, _, up, format, (unitsAt_eq s f _).symm, routes⟩
  · rintro ⟨f, cs, up, format, rfl, named⟩
    exact ⟨f, upFormat_of_up up format, by rw [← unitsAt_eq, unitsAt_perm f (routes.perm named)]⟩

/-- The backoff step is at most k when a step up to k passes, or k is the last step (R56). -/
theorem backoffStep_le_iff {power pmax k : Nat} :
    backoffStep power pmax ≤ k ↔ 8 ≤ k ∨ ∃ b ≤ k, power * stepT b ^ 2 ≤ pmax * 4096 ^ 2 := by
  unfold backoffStep
  cases search : backoffSearch power pmax with
  | some b =>
    obtain ⟨last, passes, least⟩ := backoffSearch_eq_some_iff.mp search
    rw [Option.getD_some]
    refine ⟨fun le => .inr ⟨b, le, passes⟩, ?_⟩
    rintro (le | ⟨a, le, passes'⟩)
    · exact last.trans le
    · exact (Nat.not_lt.mp fun lt => least a lt passes').trans le
  | none =>
    have fails := backoffSearch_eq_none_iff.mp search
    rw [Option.getD_none]
    refine ⟨.inl, ?_⟩
    rintro (le | ⟨a, le, passes⟩)
    · exact le
    · have : ¬ a ≤ 8 := fun small => fails a small passes
      omega

/-- The trial placement passes when the carriers fit and the backoff step is not raised (R61, R122). -/
theorem trialPasses_iff {k : SectorIx} : s.trialPasses r o k = true ↔ s.TrialFits r o k := by
  have routes := routes_callsWith (s := s) (r := r) (o := o) (l := (s.opPlan o).active.sectors[k].carriers)
    (called := fun c => c ∈ (s.opPlan o).active.sectors[k].carriers ∨ ∃ p : OpId, p ≠ o ∧ Calls (s.opPlan p).active r c)
    fun c => .rfl
  unfold trialPasses TrialFits
  cases format : s.upFormat r with
  | none =>
    simp only [trial, format, Bool.false_and, Bool.false_eq_true, false_iff]
    rintro ⟨f, cs, up, format', -⟩
    rw [upFormat_of_up up format'] at format
    contradiction
  | some f =>
    obtain ⟨up, link⟩ := upFormat_eq_some_iff.mp format
    simp only [trial, format, Bool.and_eq_true, decide_eq_true_eq, linkUnits, ← unitsAt_eq, backoffStep_le_iff]
    constructor
    · rintro ⟨fits, backoff⟩
      exact ⟨f, _, up, link, routes, fits, backoff⟩
    · rintro ⟨g, cs, -, link', named, fits, backoff⟩
      have same : g = f := Option.some.inj (link'.symm.trans link)
      have perm := routes.perm named
      rw [same, ← unitsAt_perm f perm] at fits
      rw [← (perm.map fun c => (s.carrier c).eff.power).sum_eq] at backoff
      exact ⟨fits, backoff⟩

theorem inService_iff {mode : HubMode} {b : Bank} {i : SectorIx} : s.plan.inService mode b i = true ↔ s.InService mode b i := by
  simp [PlanStore.inService, InService]

/-- The tests of R129, one by one. -/
theorem adviceHolds_iff {a : Advice} : adviceHolds s o a = true ↔
    (s.opPlan o).active.zones[a.remote].cur = some a.fromSector ∧ (s.opPlan o).active.zones[a.remote].pinned = false ∧
      ((s.opPlan o).active.zones[a.remote].home = some a.toSector ∨ a.toSector ∈ (s.opPlan o).active.zones[a.remote].alts) ∧
      s.InService s.mode.mode (s.opPlan o).active a.toSector ∧ s.bal[o].holdOff[a.remote] = 0 ∧
      (s.opPlan o).state = .clean ∧ s.TrialFits a.remote o a.toSector := by
  unfold adviceHolds
  simp only [Bool.and_eq_true, Bool.or_eq_true, Bool.not_eq_true', decide_eq_true_eq, List.contains_iff_mem, inService_iff,
    trialPasses_iff, and_assoc]

/-- The fit test names the lowest-numbered remote whose units exceed the link (R43). -/
theorem fitFailure_eq_some {n : Nat} (fails : s.fitFailure o = some (r, n)) :
    192 < n ∧ s.stagedUnits o r = some n ∧ ∀ q : RemoteId, q < r → ∀ k, s.stagedUnits o q = some k → k ≤ 192 := by
  obtain ⟨before, q, after, all, here, earlier⟩ := List.findSome?_eq_some_iff.mp fails
  have ascending : allRemotes.Pairwise (· < ·) := List.pairwise_lt_finRange 24
  rw [all] at ascending
  cases units : s.stagedUnits o q with
  | none => simp [units] at here
  | some u =>
    simp only [units] at here
    have large : ¬ u ≤ linkUnits := fun small => by rw [if_pos small] at here; contradiction
    rw [if_neg large] at here
    cases here
    refine ⟨Nat.not_le.mp large, units, fun q' lower k units' => ?_⟩
    have mem : q' ∈ before := by
      have mem : q' ∈ before ++ r :: after := all ▸ List.mem_finRange q'
      rcases List.mem_append.mp mem with mem | mem
      · exact mem
      · rcases List.mem_cons.mp mem with same | later
        · exact absurd lower (same ▸ lt_irrefl _)
        · exact absurd lower (lt_asymm (List.rel_of_pairwise_cons (List.pairwise_append.mp ascending).2.1 later))
    have none := earlier q' mem
    by_contra larger
    have larger : ¬ k ≤ linkUnits := larger
    simp [units', larger] at none

end State

end Sys2Proof.Machine
end

section
/-! The statements on plan edits, commits, reverts, accepted advices and reads. -/

namespace Sys2Proof.Proofs

open Sys2Proof.Machine Sys2Proof.Machine.State

/-- Settles O48: each edit is allowed by the state of the staged bank, and writes that bank alone. -/
theorem planEdits : Obligations.PlanEdits := by
  intro s ch tag o ready own free armed held taken
  have scope := fun ps => firstScope_taken (s := s) own ps
  refine ⟨?sector, ?zone, ?home⟩
  case sector =>
    intro i h cs small few once owned answers
    have body : ∀ a : Answer, edit ch o (4 < h) (editSector ⟨o, i, h, cs⟩ (min h 4)) s = a →
        doPlanSector ch ([byte o.val, byte i.val, byte h, byte cs.length] ++ cs.map fun c => byte c.val) s = a := by
      rintro a rfl
      have mine : (cs.all fun c => s.plan.owner c = some o) = true := by simpa using owned
      simp only [doPlanSector, sectorParams_read small few once, withParams, mine, if_true, clamp_zero,
        clamped_eq (show 0 ≤ 4 by omega), Nat.not_lt_zero, decide_false, Bool.false_or]
    have now : ∀ {result flag t}, doPlanSector ch _ s = .now result flag [] t → t.trunk = s.trunk → answers result flag t :=
      fun {_ _ _} decided trunk => exec_now (scope := ownScope concernsFirst) (body := doPlanSector) ready decided trunk (scope _) rfl
    refine ⟨fun free => ⟨editSector ⟨o, i, h, cs⟩ (min h 4) (s.opPlan o).staged, now (body _ (edit_of_free free)) rfl, rfl, ?_, fun c => ?_,
      ?_, fun j other => ?_⟩, fun ⟨_, _, state⟩ => now (body _ (edit_of_armed state)) rfl,
      fun ⟨_, other, state⟩ => now (body _ (edit_of_held other state)) rfl⟩
    · rw [editSector_named ⟨o, i, h, cs⟩]
    · rw [mem_sector_editSector, if_pos rfl]
    · rw [editSector_named ⟨o, i, h, cs⟩]
      exact (List.pairwise_lt_finRange 24).filter _
    · rw [editSector_other ⟨o, i, h, cs⟩ _ _ other]
      exact ⟨rfl, rfl⟩
  case zone =>
    intro r home pin alts few fit answers
    have body : ∀ a : Answer, edit ch o false (editZone ⟨o, r, home, pin, alts⟩) s = a →
        doPlanZone ch ([byte o.val, byte r.val, sectorByte home, flagByte pin, byte alts.length] ++
          alts.map fun i => byte i.val) s = a := by
      rintro a rfl
      simp only [doPlanZone, zoneParams_read few fit, withParams]
    have now : ∀ {result t}, doPlanZone ch _ s = .now result false [] t → t.trunk = s.trunk → answers result t :=
      fun {_ _} decided trunk => exec_now (scope := ownScope concernsFirst) (body := doPlanZone) ready decided trunk (scope _) rfl
    exact ⟨fun free => now (body _ (edit_of_free free)) rfl, fun ⟨_, _, state⟩ => now (body _ (edit_of_armed state)) rfl,
      fun ⟨_, other, state⟩ => now (body _ (edit_of_held other state)) rfl⟩
  case home =>
    intro answers
    have body : ∀ a : Answer, edit ch o false editHome s = a → doPlanHome ch [byte o.val] s = a := by
      rintro a rfl
      simp only [doPlanHome, opParams_byte, withParams]
    have now : ∀ {result t}, doPlanHome ch _ s = .now result false [] t → t.trunk = s.trunk → answers result t :=
      fun {_ _} decided trunk => exec_now (scope := ownScope concernsFirst) (body := doPlanHome) ready decided trunk (scope _) rfl
    exact ⟨fun free => ⟨editHome (s.opPlan o).staged, now (body _ (edit_of_free free)) rfl, editHome_sectors _, editHome_zone _⟩,
      fun ⟨_, _, state⟩ => now (body _ (edit_of_armed state)) rfl,
      fun ⟨_, other, state⟩ => now (body _ (edit_of_held other state)) rfl⟩

/-- Settles O49: the commit by the fit test, the accept by the tests of the advice, and both tests spelled out. -/
theorem commitRevertAccept : Obligations.CommitRevertAccept := by
  refine ⟨fun s tag o ready => ⟨fun editing fits => ?_, fun r n editing fails => ?_, fun ch editing => ?_,
    fun a normal advice => ⟨fun holds => ?_, fun stale => ?_⟩, fun quiet => ?_⟩, fun s o r n => stagedUnits_eq_some_iff,
    fun s o a => adviceHolds_iff⟩
  · refine exec_later (x := .planCommit 0x01 tag [byte o.val]) (scope := ownScope concernsFirst) (body := doPlanCommit)
      (cmd := .planCommit o) (t := s.modPlan o fun p => { p with state := .armed .control true }) ready ?_ rfl rfl
    simp only [doPlanCommit, opParams_byte, withParams, editing, ne_eq, not_true_eq_false, if_false, fits]
    rfl
  · obtain ⟨large, units, earlier⟩ := fitFailure_eq_some fails
    refine ⟨large, units, earlier, ?_⟩
    refine exec_now (scope := ownScope concernsFirst) (body := doPlanCommit) ready ?_ rfl rfl rfl
    simp only [doPlanCommit, opParams_byte, withParams, editing, ne_eq, not_true_eq_false, if_false, fails]
  · refine exec_now (t := s.modPlan o fun p => { p with staged := p.active, state := .clean }) (scope := ownScope concernsFirst)
      (body := doPlanRevert) ready ?_ rfl rfl rfl
    simp only [doPlanRevert, opParams_byte, withParams, editing, reduceCtorEq, and_false, if_false, answerDone, revert]
  · refine exec_later (x := .balanceAccept 0x01 tag [byte o.val]) (scope := ownScope concernsFirst) (body := doBalanceAccept)
      (cmd := .balanceAccept o a)
      (t := (s.modBal o fun b => { b with advice := none }).stageMove o a.remote a.toSector .control) ready ?_ rfl rfl
    simp only [doBalanceAccept, opParams_byte, withParams, normal, reduceCtorEq, if_false, advice, holds, if_true, Channel.origin]
  · refine exec_now (t := s.modBal o fun b => { b with advice := none }) (scope := ownScope concernsFirst)
      (body := doBalanceAccept) ready ?_ rfl rfl rfl
    simp only [doBalanceAccept, opParams_byte, withParams, normal, reduceCtorEq, if_false, advice, stale, Bool.false_eq_true]
  · refine exec_now (scope := ownScope concernsFirst) (body := doBalanceAccept) ready ?_ rfl rfl rfl
    simp only [doBalanceAccept, opParams_byte, withParams, quiet, if_true, refuse]

end Sys2Proof.Proofs
end

section
/-! SUPPORT. The length of an ALARM LIST's data (R163). -/

namespace Sys2Proof.Machine.State

theorem entryBytes_length (e : AlarmEntry) (position : Nat) : (entryBytes e position).length = 15 := rfl

theorem alarmListData_length_le (s : State) (ch : Channel) (start : Nat) : (s.alarmListData ch start).length ≤ 6 + 12 * 15 := by
  have shown : ((page (s.listFor ch) start).zipIdx start).length ≤ 12 := by
    rw [List.length_zipIdx, page, List.length_take]
    exact min_le_left ..
  have entries (l : List (AlarmEntry × Nat)) : (l.flatMap fun e => entryBytes e.1 e.2).length = l.length * 15 := by
    simp only [List.length_flatMap, entryBytes_length, List.map_const', List.sum_replicate, smul_eq_mul]
  unfold alarmListData
  rw [List.length_append, entries]
  have head : (u16 s.sup.seq.toNat ++ [flagByte s.sup.overflow, byte (s.listFor ch).length, byte start,
    byte (page (s.listFor ch) start).length]).length = 6 := rfl
  rw [head]
  omega

end Sys2Proof.Machine.State

namespace Sys2Proof.Machine

theorem names_byte (o : OpId) : names o (byte o.val) = .taken := by revert o; decide

theorem measureParams_sectors (o : OpId) : measureParams [0x00, byte o.val] = some (.sectors o) := by revert o; decide
theorem measureParams_shares (o : OpId) : measureParams [0x01, byte o.val] = some (.shares o) := by revert o; decide
theorem measureParams_occupancy (r : RemoteId) : measureParams [0x02, byte r.val] = some (.occupancy r) := by revert r; decide

end Sys2Proof.Machine
end

section
/-! The statement on the reads. -/

namespace Sys2Proof.Proofs

open Sys2Proof.Machine Sys2Proof.Machine.State

/-- Settles O50: each read by its parameters and its scope. -/
theorem reads : Obligations.Reads := by
  refine ⟨fun s ch tag o r ready own => ?_, fun s tag ready => ⟨?_, fun x => ?_⟩, fun s tag ready scopeless => ?_, alarmListData_length_le⟩
  · have scope := fun ps => firstScope_taken (s := s) own ps
    have filtered (ps : List Byte) : filteredScope ch ps s = .taken := by
      cases ch with
      | control => rfl
      | service => simp only [filteredScope, own rfl, Option.isSome_some, if_true]
    have measured (ps : List Byte) (taken : concernsMeasure o ps s = .taken) : ownScope concernsMeasure ch ps s = .taken := by
      cases ch with
      | control => rfl
      | service => simp only [ownScope, own rfl, taken]
    have op : opOf (byte o.val) = some o := opOf_byte o
    refine ⟨?_, ?_, fun staged part => ?_, ?_, ?_, ?_, ?_, fun start few => ?_⟩
    · exact exec_now (scope := anyScope) (body := doStatus) ready rfl rfl rfl rfl
    · refine exec_now (scope := filteredScope) (body := doLinkRead) ready ?_ rfl (filtered _) rfl
      simp only [doLinkRead, remoteParams, remoteOf_byte, withParams]
    · refine exec_now (scope := ownScope concernsFirst) (body := doPlanRead) ready ?_ rfl (scope _) rfl
      cases staged <;> cases part <;> simp only [doPlanRead, planReadParams, op, withParams] <;> rfl
    · refine exec_now (scope := ownScope concernsMeasure) (body := doMeasureRead) ready ?_ rfl (measured [0x00, byte o.val] (names_byte o)) rfl
      simp only [doMeasureRead, measureParams_sectors, withParams]
    · refine exec_now (scope := ownScope concernsMeasure) (body := doMeasureRead) ready ?_ rfl (measured [0x01, byte o.val] (names_byte o)) rfl
      simp only [doMeasureRead, measureParams_shares, withParams]
    · refine exec_now (scope := ownScope concernsMeasure) (body := doMeasureRead) ready ?_ rfl (measured _ rfl) rfl
      simp only [doMeasureRead, measureParams_occupancy, withParams]
    · refine exec_now (scope := ownScope concernsFirst) (body := doBalanceRead) ready ?_ rfl (scope _) rfl
      simp only [doBalanceRead, opParams_byte, withParams]
    · refine exec_now (scope := filteredScope) (body := doAlarmList) ready ?_ rfl (filtered _) rfl
      simp only [doAlarmList, startParams, byte_toNat (show start < 256 by omega), alarmCapacity, if_pos few, withParams]
  · exact exec_now (scope := ownScope concernsMeasure) (body := doMeasureRead) ready rfl rfl rfl rfl
  · exact exec_now (scope := ownScope concernsMeasure) (body := doMeasureRead) ready rfl rfl rfl rfl
  · exact exec_now (scope := anyScope) (body := doStatus) ready rfl rfl rfl rfl

end Sys2Proof.Proofs
end

section
/-! SUPPORT. What a request on the service channel can write: its own operator's plan, Balancer and carriers, and the channel
(R185, R186). -/

namespace Sys2Proof.Machine.State

/-- What stays under every request on the service channel but the operator's own and the channel's scope. -/
def SameVenue (s t : State) : Prop :=
  t.ol = s.ol ∧ t.trunk = s.trunk ∧ t.tb = s.tb ∧ t.place = s.place ∧ t.meas = s.meas ∧ t.mode = s.mode ∧
    t.comb.gates = s.comb.gates ∧ t.comb.guard = s.comb.guard ∧ t.mgmt.codes = s.mgmt.codes ∧ t.mgmt.control = s.mgmt.control

theorem SameVenue.trans {s t u : State} (h : s.SameVenue t) (k : t.SameVenue u) : s.SameVenue u := by
  obtain ⟨ol, trunk, tb, place, meas, mode, gates, guard, codes, control⟩ := h
  obtain ⟨ol', trunk', tb', place', meas', mode', gates', guard', codes', control'⟩ := k
  exact ⟨ol'.trans ol, trunk'.trans trunk, tb'.trans tb, place'.trans place, meas'.trans meas, mode'.trans mode, gates'.trans gates,
    guard'.trans guard, codes'.trans codes, control'.trans control⟩

/-- Nothing of another operator than p changes, and nothing of the venue but down latches. -/
structure Confined (p : Option OpId) (s t : State) : Prop where
  ops : ∀ o : OpId, p ≠ some o → t.opPlan o = s.opPlan o ∧ t.bal[o] = s.bal[o]
  carriers : ∀ (c : CarrierId) (o : OpId), s.plan.owner c = some o → p ≠ some o → t.carrier c = s.carrier c
  links : ∀ r : RemoteId, t.rl[r] = { s.rl[r] with downLatch := t.rl[r].downLatch }
  venue : s.SameVenue t

/-- Confined, with every link record and the alarms as they were. -/
structure Own (p : Option OpId) (s t : State) : Prop extends Confined p s t where
  rl : t.rl = s.rl
  sup : t.sup = s.sup

/-- What a request of a code with parameters leaves on the service channel attached to p. -/
def Served (p : Option OpId) (s : State) (code : Byte) (ps : List Byte) (t : State) : Prop :=
  Confined p s t ∧ (code ≠ 0x51 → t.rl = s.rl) ∧
    ((∀ (o : OpId) (k : BitVec 32), code = 0x70 → ps = byte o.val :: u32 k.toNat → s.mgmt.codes[o] = 0 ∨ s.mgmt.codes[o] = k) →
      t.sup = s.sup)

variable {p : Option OpId} {s t u : State} {code : Byte} {ps : List Byte}

theorem Own.served (h : Own p s t) : Served p s code ps t := ⟨h.toConfined, fun _ => h.rl, fun _ => h.sup⟩

theorem Own.refl (p : Option OpId) (s : State) : Own p s s where
  ops _ _ := ⟨rfl, rfl⟩
  carriers _ _ _ _ := rfl
  links _ := rfl
  venue := ⟨rfl, rfl, rfl, rfl, rfl, rfl, rfl, rfl, rfl, rfl⟩
  rl := rfl
  sup := rfl

theorem Own.trans (h : Own p s t) (k : Own p t u) : Own p s u where
  ops o other := ⟨(k.ops o other).1.trans (h.ops o other).1, (k.ops o other).2.trans (h.ops o other).2⟩
  carriers c o owner other := by
    have kept := h.carriers c o owner other
    have owner' : t.plan.owner c = some o := (congrArg (·.place.map (·.op)) kept).trans owner
    exact (k.carriers c o owner' other).trans kept
  links r := by rw [k.rl, h.rl]
  venue := h.venue.trans k.venue
  rl := k.rl.trans h.rl
  sup := k.sup.trans h.sup

/-! ## The operations of the service commands -/

theorem own_modPlan (o : OpId) (f : OperatorPlan → OperatorPlan) : Own (some o) s (s.modPlan o f) where
  ops _ other := ⟨opPlan_modPlan_other s f fun e => other (congrArg some e.symm), rfl⟩
  carriers _ _ _ _ := rfl
  links _ := rfl
  venue := ⟨rfl, rfl, rfl, rfl, rfl, rfl, rfl, rfl, rfl, rfl⟩
  rl := rfl
  sup := rfl

theorem own_modBal (o : OpId) (f : BalancerOp → BalancerOp) : Own (some o) s (s.modBal o f) where
  ops _ other := ⟨rfl, modBal_other s f fun e => other (congrArg some e.symm)⟩
  carriers _ _ _ _ := rfl
  links _ := rfl
  venue := ⟨rfl, rfl, rfl, rfl, rfl, rfl, rfl, rfl, rfl, rfl⟩
  rl := rfl
  sup := rfl

theorem own_dropOutputs (c : CarrierId) : Own p s (s.dropOutputs c) where
  ops _ _ := ⟨rfl, rfl⟩
  carriers _ _ _ _ := rfl
  links _ := rfl
  venue := ⟨rfl, rfl, rfl, rfl, rfl, rfl, rfl, rfl, rfl, rfl⟩
  rl := rfl
  sup := rfl

theorem own_modCarrier {c : CarrierId} {f : CarrierRecord → CarrierRecord}
    (mine : ∀ o : OpId, s.plan.owner c = some o → p = some o) : Own p s (s.modCarrier c f) where
  ops _ _ := ⟨rfl, rfl⟩
  carriers _ o owner other := modCarrier_other s f fun e => other (mine o (e ▸ owner))
  links _ := rfl
  venue := ⟨rfl, rfl, rfl, rfl, rfl, rfl, rfl, rfl, rfl, rfl⟩
  rl := rfl
  sup := rfl

theorem own_scope (x : Option OpId) : Own p s { s with mgmt := { s.mgmt with scope := x } } where
  ops _ _ := ⟨rfl, rfl⟩
  carriers _ _ _ _ := rfl
  links _ := rfl
  venue := ⟨rfl, rfl, rfl, rfl, rfl, rfl, rfl, rfl, rfl, rfl⟩
  rl := rfl
  sup := rfl

/-! ## The operator that a request names -/

theorem op_of_names {q o : OpId} {b : Byte} (named : names q b = .taken) (read : opOf b = some o) : o = q := by
  unfold names at named
  unfold opOf at read
  split at named
  · next same =>
    split at read
    · cases read
      exact Fin.ext same
    · contradiction
  · contradiction

theorem ownScope_taken {concerns : OpId → List Byte → State → ScopeVerdict} (taken : ownScope concerns .service ps s = .taken) :
    ∃ q, s.mgmt.scope = some q ∧ concerns q ps s = .taken := by
  unfold ownScope at taken
  split at taken
  · contradiction
  · contradiction
  · next scope => exact ⟨_, scope, taken⟩

/-- A request whose first byte names its operator is taken for the attached operator alone. -/
theorem scope_of_first {b : Byte} {rest : List Byte} {o : OpId} (taken : ownScope concernsFirst .service (b :: rest) s = .taken)
    (read : opOf b = some o) : s.mgmt.scope = some o := by
  obtain ⟨q, scope, named⟩ := ownScope_taken taken
  rw [scope, op_of_names named read]

theorem sectorParams_op {x : SectorEdit} (h : sectorParams ps = some x) : ∃ b rest, ps = b :: rest ∧ opOf b = some x.op := by
  unfold sectorParams at h
  split at h
  · split at h
    · next op _ _ =>
      split at h
      · cases h
        exact ⟨_, _, rfl, op⟩
      · contradiction
    · contradiction
  · contradiction

theorem zoneParams_op {x : ZoneEdit} (h : zoneParams ps = some x) : ∃ b rest, ps = b :: rest ∧ opOf b = some x.op := by
  unfold zoneParams at h
  split at h
  · split at h
    · next op _ _ _ _ =>
      split at h
      · cases h
        exact ⟨_, _, rfl, op⟩
      · contradiction
    · contradiction
  · contradiction

theorem opParams_op {o : OpId} (h : opParams ps = some o) : ∃ b rest, ps = b :: rest ∧ opOf b = some o := by
  unfold opParams at h
  split at h
  · exact ⟨_, _, rfl, h⟩
  · contradiction

theorem balanceParams_op {x : BalanceSettings} (h : balanceParams ps = some x) :
    ∃ b rest, ps = b :: rest ∧ opOf b = some x.op := by
  unfold balanceParams at h
  split at h
  · split at h
    · next op _ =>
      cases h
      exact ⟨_, _, rfl, op⟩
    · contradiction
  · contradiction

/-! ## The commands one by one -/

theorem withParams_own {α : Type} {x : Option α} {f : α → Answer} (each : ∀ a, x = some a → Own p s (f a).state) :
    Own p s (withParams x s f).state := by
  cases x with
  | none => exact .refl p s
  | some a => exact each a rfl

theorem edit_own {ch : Channel} {o : OpId} {flag : Bool} {f : Bank → Bank} (mine : p = some o) :
    Own p s (edit ch o flag f s).state := by
  subst mine
  unfold edit
  split
  · exact .refl _ s
  · dsimp only [answerDone, Answer.state]
    exact own_modPlan o _

/-- CARRIER SET concerns the operator it names and the owner of the carrier (R30). -/
theorem carrierSet_scope {x : CarrierSettings} (taken : ownScope concernsCarrierSet .service ps s = .taken)
    (read : carrierSetParams ps = some x) (o : OpId) (owner : s.plan.owner x.carrier = some o) : s.mgmt.scope = some o := by
  obtain ⟨q, scope, concerns⟩ := ownScope_taken taken
  unfold carrierSetParams at read
  split at read
  · split at read
    · next carrier _ _ _ =>
      cases read
      simp only [concernsCarrierSet, carrier, Option.bind_some, owner] at concerns
      split at concerns
      · next same => rw [scope, same]
      · contradiction
    · contradiction
  · contradiction

theorem own_carrierSet (taken : ownScope concernsCarrierSet .service ps s = .taken) :
    Own s.mgmt.scope s (doCarrierSet .service ps s).state := by
  refine withParams_own fun x read => ?_
  dsimp only
  split
  · exact .refl _ s
  · split
    · exact .refl _ s
    · dsimp only [answerDone, Answer.state]
      split
      · exact own_modCarrier (carrierSet_scope taken read)
      · exact (own_dropOutputs _).trans (own_modCarrier (carrierSet_scope taken read))

theorem own_carrierClear (taken : ownScope concernsCarrierClear .service ps s = .taken) :
    Own s.mgmt.scope s (doCarrierClear .service ps s).state := by
  obtain ⟨q, scope, concerns⟩ := ownScope_taken taken
  refine withParams_own fun c read => ?_
  split
  · exact .refl _ s
  · split
    · dsimp only [answerDone, Answer.state]
      refine (own_dropOutputs c).trans (own_modCarrier fun o owner => ?_)
      unfold carrierParams at read
      split at read
      · simp only [concernsCarrierClear, read, Option.bind_some] at concerns
        split at concerns
        · next same => exact scope.trans (same.symm.trans owner)
        · contradiction
      · contradiction
    · exact .refl _ s

section
variable (taken : ownScope concernsFirst .service ps s = .taken)
include taken

theorem own_planSector : Own s.mgmt.scope s (doPlanSector .service ps s).state := by
  refine withParams_own fun x read => ?_
  obtain ⟨b, rest, rfl, op⟩ := sectorParams_op read
  split
  · exact edit_own (scope_of_first taken op)
  · exact .refl _ s

theorem own_planZone : Own s.mgmt.scope s (doPlanZone .service ps s).state := by
  refine withParams_own fun x read => ?_
  obtain ⟨b, rest, rfl, op⟩ := zoneParams_op read
  exact edit_own (scope_of_first taken op)

theorem own_planHome : Own s.mgmt.scope s (doPlanHome .service ps s).state := by
  refine withParams_own fun o read => ?_
  obtain ⟨b, rest, rfl, op⟩ := opParams_op read
  exact edit_own (scope_of_first taken op)

theorem own_planCommit : Own s.mgmt.scope s (doPlanCommit .service ps s).state := by
  refine withParams_own fun o read => ?_
  obtain ⟨b, rest, rfl, op⟩ := opParams_op read
  rw [scope_of_first taken op]
  split
  · exact .refl _ s
  · exact .refl _ s
  · split
    · exact .refl _ s
    · split
      · exact .refl _ s
      · dsimp only [Answer.state]
        exact own_modPlan o _

theorem own_planRevert : Own s.mgmt.scope s (doPlanRevert .service ps s).state := by
  refine withParams_own fun o read => ?_
  obtain ⟨b, rest, rfl, op⟩ := opParams_op read
  rw [scope_of_first taken op]
  split
  · exact .refl _ s
  · exact .refl _ s
  · split
    · exact .refl _ s
    · dsimp only [answerDone, Answer.state, revert]
      exact own_modPlan o _

theorem own_balanceSet : Own s.mgmt.scope s (doBalanceSet .service ps s).state := by
  refine withParams_own fun x read => ?_
  obtain ⟨b, rest, rfl, op⟩ := balanceParams_op read
  rw [scope_of_first taken op]
  dsimp only [answerDone, Answer.state]
  exact own_modBal x.op _

theorem own_balanceAccept : Own s.mgmt.scope s (doBalanceAccept .service ps s).state := by
  refine withParams_own fun o read => ?_
  obtain ⟨b, rest, rfl, op⟩ := opParams_op read
  rw [scope_of_first taken op]
  dsimp only
  split
  · exact .refl _ s
  · split
    · exact .refl _ s
    · split
      · dsimp only [Answer.state, stageMove]
        exact (own_modBal o _).trans (own_modPlan o _)
      · dsimp only [Answer.state]
        exact own_modBal o _

end

/-- A read without effect. -/
theorem own_read {α : Type} {x : Option α} {f : α → List Byte} :
    Own p s (withParams x s fun a => .now .done false (f a) s).state := withParams_own fun _ _ => .refl p s

/-- LINK READ clears a down latch and nothing else (R17). -/
theorem served_linkRead : Served p s 0x51 ps (doLinkRead .service ps s).state := by
  unfold doLinkRead
  cases remoteParams ps with
  | none => exact (Own.refl p s).served
  | some r =>
    refine ⟨⟨fun _ _ => ⟨rfl, rfl⟩, fun _ _ _ _ => rfl, fun q => ?_, rfl, rfl, rfl, rfl, rfl, rfl, rfl, rfl, rfl, rfl⟩,
      fun other => absurd rfl other, fun _ => rfl⟩
    dsimp only [withParams, Answer.state]
    by_cases same : q = r
    · subst same
      rw [modRl_same]
    · rw [modRl_other _ _ same]

theorem opOf_eq {b : Byte} {o : OpId} (read : opOf b = some o) : b = byte o.val := by
  unfold opOf at read
  split at read
  · cases read
    simp [byte]
  · contradiction

theorem codeParams_eq {o : OpId} {k : BitVec 32} (read : codeParams ps = some (o, k)) : ps = byte o.val :: u32 k.toNat := by
  unfold codeParams at read
  split at read
  · next b a₃ a₂ a₁ a₀ =>
    obtain ⟨q, op, same⟩ := Option.map_eq_some_iff.mp read
    cases same
    rw [opOf_eq op]
    have small₃ := a₃.isLt
    have small₂ := a₂.isLt
    have small₁ := a₁.isLt
    have small₀ := a₀.isLt
    simp only [u32, byte, unsigned, List.foldl_cons, List.foldl_nil, List.cons.injEq, true_and, and_true, BitVec.toNat_ofNat,
      ← BitVec.toNat_inj]
    omega
  · contradiction

/-- ATTACH changes the scope, and bars the channel when the code differs from the one stored (R187). -/
theorem served_attach : Served p s 0x70 ps (doAttach .service ps s).state := by
  unfold doAttach
  cases read : codeParams ps with
  | none => exact (Own.refl p s).served
  | some x =>
    obtain ⟨o, k⟩ := x
    dsimp only [withParams]
    split
    · exact (Own.refl p s).served
    · next stored =>
      split
      · exact (own_scope _).served
      · next differs =>
        refine ⟨⟨fun _ _ => ⟨rfl, rfl⟩, fun _ _ _ _ => rfl, fun _ => rfl, rfl, rfl, rfl, rfl, rfl, rfl, rfl, rfl, rfl, rfl⟩,
          fun _ => rfl, fun same => ?_⟩
        exact ((same o k rfl (codeParams_eq read)).elim stored differs).elim

/-! ## A request taken on the service channel -/

/-- No venue command is taken on the service channel (R185). -/
theorem served_of_venue {i : Instr} {tag : Byte} (body : Channel → List Byte → State → Answer)
    (own : ∀ s, effect i s = s.request code venueScope body 0x02 tag ps) (isRequest : phase i = requestPhase := by rfl) :
    ∃ scope body, phase i = requestPhase ∧ (∀ s, effect i s = s.request code scope body 0x02 tag ps) ∧
      ∀ s : State, scope .service ps s = .taken → Served s.mgmt.scope s code ps (body .service ps s).state :=
  ⟨venueScope, body, isRequest, own, fun _ taken => nomatch taken⟩

/-- A request of the service channel is served within its scope when its scope test takes it. -/
theorem served_of_request {i : Instr} {tag : Byte} (request : i.request = some (code, 0x02, tag, ps)) (other : code ≠ 0x7F) :
    ∃ scope body, phase i = requestPhase ∧ (∀ s, effect i s = s.request code scope body 0x02 tag ps) ∧
      ∀ s : State, scope .service ps s = .taken → Served s.mgmt.scope s code ps (body .service ps s).state := by
  cases i
  case accessSet => cases request; exact served_of_venue doAccessSet fun _ => rfl
  case release => cases request; exact served_of_venue doRelease fun _ => rfl
  case linkSet => cases request; exact served_of_venue doLinkSet fun _ => rfl
  case linkRestart => cases request; exact served_of_venue doLinkRestart fun _ => rfl
  case timingSet => cases request; exact served_of_venue doTimingSet fun _ => rfl
  case windowSet => cases request; exact served_of_venue doWindowSet fun _ => rfl
  case quietSet => cases request; exact served_of_venue doQuietSet fun _ => rfl
  case modeSet => cases request; exact served_of_venue doModeSet fun _ => rfl
  case isolate => cases request; exact served_of_venue doIsolate fun _ => rfl
  case restore => cases request; exact served_of_venue doRestore fun _ => rfl
  case alertSet => cases request; exact served_of_venue doAlertSet fun _ => rfl
  case alarmAck => cases request; exact served_of_venue doAlarmAck fun _ => rfl
  case warm => cases request; exact served_of_venue doWarm fun _ => rfl
  case cold => cases request; exact served_of_venue doCold fun _ => rfl
  case carrierSet => cases request; exact ⟨_, _, rfl, fun _ => rfl, fun _ taken => (own_carrierSet taken).served⟩
  case carrierClear => cases request; exact ⟨_, _, rfl, fun _ => rfl, fun _ taken => (own_carrierClear taken).served⟩
  case planSector => cases request; exact ⟨_, _, rfl, fun _ => rfl, fun _ taken => (own_planSector taken).served⟩
  case planZone => cases request; exact ⟨_, _, rfl, fun _ => rfl, fun _ taken => (own_planZone taken).served⟩
  case planHome => cases request; exact ⟨_, _, rfl, fun _ => rfl, fun _ taken => (own_planHome taken).served⟩
  case planCommit => cases request; exact ⟨_, _, rfl, fun _ => rfl, fun _ taken => (own_planCommit taken).served⟩
  case planRevert => cases request; exact ⟨_, _, rfl, fun _ => rfl, fun _ taken => (own_planRevert taken).served⟩
  case balanceSet => cases request; exact ⟨_, _, rfl, fun _ => rfl, fun _ taken => (own_balanceSet taken).served⟩
  case balanceAccept => cases request; exact ⟨_, _, rfl, fun _ => rfl, fun _ taken => (own_balanceAccept taken).served⟩
  case status => cases request; exact ⟨anyScope, doStatus, rfl, fun _ => rfl, fun _ _ => own_read.served⟩
  case linkRead => cases request; exact ⟨_, _, rfl, fun _ => rfl, fun _ _ => served_linkRead⟩
  case planRead => cases request; exact ⟨_, doPlanRead, rfl, fun _ => rfl, fun _ _ => own_read.served⟩
  case measureRead => cases request; exact ⟨_, doMeasureRead, rfl, fun _ => rfl, fun _ _ => own_read.served⟩
  case balanceRead => cases request; exact ⟨_, doBalanceRead, rfl, fun _ => rfl, fun _ _ => own_read.served⟩
  case alarmList => cases request; exact ⟨_, doAlarmList, rfl, fun _ => rfl, fun _ _ => own_read.served⟩
  case attach => cases request; exact ⟨attachScope, doAttach, rfl, fun _ => rfl, fun _ _ => served_attach⟩
  case detach =>
    cases request
    exact ⟨_, _, rfl, fun _ => rfl, fun s _ => (withParams_own fun _ _ => own_scope none).served⟩
  case abort => cases request; contradiction
  case unknownCommand =>
    cases request
    exact ⟨anyScope, doUnknown, rfl, fun _ => rfl, fun s _ => (Own.refl _ s).served⟩
  all_goals contradiction

/-- What a request writes of the channels besides does not matter. -/
theorem Served.mgmt {g : Management} (h : Served p s code ps t) (codes : g.codes = t.mgmt.codes)
    (control : g.control = t.mgmt.control) : Served p s code ps { t with mgmt := g } := by
  obtain ⟨⟨ops, carriers, links, ol, trunk, tb, place, meas, mode, gates, guard, codes', control'⟩, rl, sup⟩ := h
  exact ⟨⟨ops, carriers, links, ol, trunk, tb, place, meas, mode, gates, guard, codes.trans codes', control.trans control'⟩, rl, sup⟩

theorem respond_channels (s : State) (x : Response) :
    (s.respond x).mgmt.codes = s.mgmt.codes ∧ (s.respond x).mgmt.control = s.mgmt.control := by
  unfold respond
  split <;> exact ⟨rfl, rfl⟩

theorem carryOut_service_channels (tag code : Byte) (a : Answer) :
    (carryOut .service tag code a).mgmt.codes = a.state.mgmt.codes ∧
      (carryOut .service tag code a).mgmt.control = a.state.mgmt.control := by
  cases a with
  | now result clamped data s => exact respond_channels ..
  | later cmd s => exact ⟨rfl, rfl⟩
  | cold s => exact respond_channels s _

end Sys2Proof.Machine.State
end

section
/-! The statement on the service channel. -/

namespace Sys2Proof.Proofs

open Sys2Proof.Machine Sys2Proof.Machine.State

/-- Settles O59: a request is dropped, refused, or carried out by a rule that its scope test confines. -/
theorem serviceChannelIsConfined : Obligations.ServiceChannelIsConfined := by
  intro s i code tag ps quiet request other
  obtain ⟨scope, body, isRequest, effect_eq, served⟩ := served_of_request request other
  refine ⟨effect i s, exec_request_of_quiet isRequest quiet, ?_⟩
  have all : Served s.mgmt.scope s code ps (effect i s) := by
    have same : Served s.mgmt.scope s code ps s := (Own.refl _ s).served
    rw [effect_eq]
    rcases s.request_cases code scope body 0x02 tag ps with ⟨_, e⟩ | ⟨_, x, e⟩ | ⟨_, c, named, taken, _, e⟩ <;> rw [e]
    · exact same.mgmt rfl rfl
    · obtain ⟨codes, control⟩ := respond_channels s ⟨0x02, tag, code, x, false, [], false⟩
      rw [respond_eq]
      exact same.mgmt codes control
    · have service : c = .service := Option.some.inj (named.symm.trans rfl)
      subst service
      obtain ⟨codes, control⟩ := carryOut_service_channels tag code (body .service ps s)
      rw [carryOut_frame]
      exact (served s taken).mgmt codes control
  obtain ⟨⟨ops, carriers, links, ol, trunk, tb, place, meas, mode, gates, guard, codes, control⟩, rl, sup⟩ := all
  exact ⟨ops, carriers, links, ol, trunk, tb, place, meas, mode, gates, guard, codes, control, rl, sup⟩

end Sys2Proof.Proofs
end

section
/-! SUPPORT. Which parameters each command's reading refuses (R184, R199, R203, section 10.4). -/

namespace Sys2Proof.Machine

/-! ## Fields in range -/

section
variable {b : Byte}

theorem opOf_lt {o : OpId} (h : opOf b = some o) : b.toNat < 4 := by
  by_contra out
  rw [opOf, dif_neg out] at h
  contradiction

theorem remoteOf_lt {r : RemoteId} (h : remoteOf b = some r) : b.toNat < 24 := by
  by_contra out
  rw [remoteOf, dif_neg out] at h
  contradiction

theorem carrierOf_lt {c : CarrierId} (h : carrierOf b = some c) : b.toNat < 24 := by
  by_contra out
  rw [carrierOf, dif_neg out] at h
  contradiction

theorem sectorIxOf_lt {i : SectorIx} (h : sectorIxOf b = some i) : b.toNat < 8 := by
  by_contra out
  rw [sectorIxOf, dif_neg out] at h
  contradiction

theorem slotOf_lt {i : SlotIx} (h : slotOf b = some i) : b.toNat < 8 := by
  by_contra out
  rw [slotOf, dif_neg out] at h
  contradiction

theorem flagOf_lt {x : Bool} (h : flagOf b = some x) : b.toNat < 2 := by
  unfold flagOf at h
  split at h
  · next zero => subst zero; decide
  · split at h
    · next one => subst one; decide
    · contradiction

theorem bankOf_lt {x : Bool} (h : bankOf b = some x) : b.toNat < 2 := flagOf_lt h

theorem hubModeOf_lt {m : HubMode} (h : hubModeOf b = some m) : b.toNat < 2 := by
  unfold hubModeOf at h
  split at h
  · next zero => subst zero; decide
  · split at h
    · next one => subst one; decide
    · contradiction

theorem balancerModeOf_lt {m : BalancerMode} (h : balancerModeOf b = some m) : b.toNat < 3 := by
  unfold balancerModeOf at h
  split at h
  · next zero => subst zero; decide
  · split at h
    · next one => subst one; decide
    · split at h
      · next two => subst two; decide
      · contradiction

theorem planPartOf_lt {p : PlanPart} (h : planPartOf b = some p) : b.toNat < 3 := by
  unfold planPartOf at h
  split at h
  · next zero => subst zero; decide
  · split at h
    · next one => subst one; decide
    · split at h
      · next two => subst two; decide
      · contradiction

theorem referenceOf_lt {x : Reference} (h : referenceOf b = some x) : b.toNat < 6 := by
  unfold referenceOf at h
  split at h
  case h_7 => contradiction
  all_goals omega

theorem offeredOf_range {f : FormatSet} (h : offeredOf b = some f) : b.toNat ≠ 0 ∧ b.toNat < 8 := by
  unfold offeredOf at h
  split at h
  · contradiction
  · omega

theorem homeOf_range {i : Option SectorIx} (h : homeOf b = some i) : b.toNat < 8 ∨ b = 0xFF := by
  unfold homeOf at h
  split at h
  · next none => exact .inr none
  · obtain ⟨j, read, -⟩ := Option.map_eq_some_iff.mp h
    exact .inl (sectorIxOf_lt read)

end

/-! ## Parameter parts of another length -/

/-- A reading refuses every parameter part of another length. -/
def TakesLength {α : Type} (params : List Byte → Option α) (n : Nat) : Prop := ∀ ps, ps.length ≠ n → params ps = none

theorem noParams_length : TakesLength noParams 0 := fun _ other => if_neg (mt List.length_eq_zero_iff.mpr other)
theorem codeParams_length : TakesLength codeParams 5 := fun ps other => by unfold codeParams; split; exacts [absurd rfl other, rfl]
theorem linkParams_length : TakesLength linkParams 7 := fun ps other => by unfold linkParams; split; exacts [absurd rfl other, rfl]
theorem remoteParams_length : TakesLength remoteParams 1 := fun ps other => by unfold remoteParams; split; exacts [absurd rfl other, rfl]
theorem referenceParams_length : TakesLength referenceParams 1 := fun ps other => by
  unfold referenceParams; split; exacts [absurd rfl other, rfl]
theorem windowParams_length : TakesLength windowParams 4 := fun ps other => by unfold windowParams; split; exacts [absurd rfl other, rfl]
theorem quietParams_length : TakesLength quietParams 6 := fun ps other => by unfold quietParams; split; exacts [absurd rfl other, rfl]
theorem modeParams_length : TakesLength modeParams 1 := fun ps other => by unfold modeParams; split; exacts [absurd rfl other, rfl]
theorem isolateParams_length : TakesLength isolateParams 4 := fun ps other => by
  unfold isolateParams; split; exacts [absurd rfl other, rfl]
theorem alertParams_length : TakesLength alertParams 3 := fun ps other => by unfold alertParams; split; exacts [absurd rfl other, rfl]
theorem carrierSetParams_length : TakesLength carrierSetParams 16 := fun ps other => by
  unfold carrierSetParams; split; exacts [absurd rfl other, rfl]
theorem carrierParams_length : TakesLength carrierParams 1 := fun ps other => by
  unfold carrierParams; split; exacts [absurd rfl other, rfl]
theorem opParams_length : TakesLength opParams 1 := fun ps other => by unfold opParams; split; exacts [absurd rfl other, rfl]
theorem balanceParams_length : TakesLength balanceParams 7 := fun ps other => by
  unfold balanceParams; split; exacts [absurd rfl other, rfl]
theorem planReadParams_length : TakesLength planReadParams 3 := fun ps other => by
  unfold planReadParams; split; exacts [absurd rfl other, rfl]
theorem measureParams_length : TakesLength measureParams 2 := fun ps other => by
  unfold measureParams; split; exacts [absurd rfl other, rfl]
theorem startParams_length : TakesLength startParams 1 := fun ps other => by unfold startParams; split; exacts [absurd rfl other, rfl]

/-! ## What the parameters read have in common -/

/-- A reading that takes only parameters in range refuses the others. -/
theorem none_of_range {α : Type} {x : Option α} {P : Prop} (range : ∀ a, x = some a → P) (bad : ¬ P) : x = none :=
  Option.eq_none_iff_forall_ne_some.mpr fun a read => bad (range a read)

section
variable {ps : List Byte}

theorem codeParams_range (x) (h : codeParams ps = some x) : (ps.getD 0 0).toNat < 4 ∧ ps.length = 5 := by
  unfold codeParams at h
  split at h
  · obtain ⟨o, read, -⟩ := Option.map_eq_some_iff.mp h
    exact ⟨opOf_lt read, rfl⟩
  · contradiction

theorem opParams_range (o) (h : opParams ps = some o) : (ps.getD 0 0).toNat < 4 := by
  unfold opParams at h
  split at h
  · exact opOf_lt h
  · contradiction

theorem remoteParams_range (r) (h : remoteParams ps = some r) : (ps.getD 0 0).toNat < 24 := by
  unfold remoteParams at h
  split at h
  · exact remoteOf_lt h
  · contradiction

theorem carrierParams_range (c) (h : carrierParams ps = some c) : (ps.getD 0 0).toNat < 24 := by
  unfold carrierParams at h
  split at h
  · exact carrierOf_lt h
  · contradiction

theorem referenceParams_range (x) (h : referenceParams ps = some x) : (ps.getD 0 0).toNat < 6 := by
  unfold referenceParams at h
  split at h
  · exact referenceOf_lt h
  · contradiction

theorem modeParams_range (m) (h : modeParams ps = some m) : (ps.getD 0 0).toNat < 2 := by
  unfold modeParams at h
  split at h
  · exact hubModeOf_lt h
  · contradiction

theorem quietParams_range (x) (h : quietParams ps = some x) : (ps.getD 0 0).toNat < 2 := by
  unfold quietParams at h
  split at h
  · obtain ⟨e, read, -⟩ := Option.map_eq_some_iff.mp h
    exact flagOf_lt read
  · contradiction

theorem startParams_range (n) (h : startParams ps = some n) : (ps.getD 0 0).toNat < 64 := by
  unfold startParams at h
  split at h
  · split at h
    · next few => exact few
    · contradiction
  · contradiction

theorem linkParams_range (x) (h : linkParams ps = some x) : (ps.getD 0 0).toNat < 24 ∧ (ps.getD 1 0).toNat < 2 ∧
    (ps.getD 2 0).toNat ≠ 0 ∧ (ps.getD 2 0).toNat < 8 := by
  unfold linkParams at h
  split at h
  · split at h
    · next remote enable offered => exact ⟨remoteOf_lt remote, flagOf_lt enable, offeredOf_range offered⟩
    · contradiction
  · contradiction

theorem isolateParams_range (x) (h : isolateParams ps = some x) : (ps.getD 0 0).toNat < 24 ∧ (ps.getD 3 0).toNat < 2 := by
  unfold isolateParams at h
  split at h
  · split at h
    · next remote force => exact ⟨remoteOf_lt remote, flagOf_lt force⟩
    · contradiction
  · contradiction

theorem alertParams_range (x) (h : alertParams ps = some x) : (ps.getD 0 0).toNat < 2 ∧ (ps.getD 2 0).getLsbD 0 = false := by
  unfold alertParams at h
  split at h
  · split at h
    · next enable =>
      split at h
      · contradiction
      · next clear => exact ⟨flagOf_lt enable, Bool.eq_false_iff.mpr clear⟩
    · contradiction
  · contradiction

theorem carrierSetParams_range (x) (h : carrierSetParams ps = some x) : (ps.getD 0 0).toNat < 24 ∧ (ps.getD 1 0).toNat < 4 ∧
    (ps.getD 2 0).toNat < 8 ∧ (ps.getD 5 0).toNat < 2 := by
  unfold carrierSetParams at h
  split at h
  · split at h
    · next carrier op slot event => exact ⟨carrierOf_lt carrier, opOf_lt op, slotOf_lt slot, flagOf_lt event⟩
    · contradiction
  · contradiction

theorem balanceParams_range (x) (h : balanceParams ps = some x) : (ps.getD 0 0).toNat < 4 ∧ (ps.getD 1 0).toNat < 3 := by
  unfold balanceParams at h
  split at h
  · split at h
    · next op mode => exact ⟨opOf_lt op, balancerModeOf_lt mode⟩
    · contradiction
  · contradiction

theorem planReadParams_range (x) (h : planReadParams ps = some x) : (ps.getD 0 0).toNat < 4 ∧ (ps.getD 1 0).toNat < 2 ∧
    (ps.getD 2 0).toNat < 3 := by
  unfold planReadParams at h
  split at h
  · split at h
    · next op bank part => exact ⟨opOf_lt op, bankOf_lt bank, planPartOf_lt part⟩
    · contradiction
  · contradiction

theorem measureParams_range (x) (h : measureParams ps = some x) : (ps.getD 0 0).toNat < 4 ∧
    ((ps.getD 0 0).toNat = 0 → (ps.getD 1 0).toNat < 4 ∨ ps.getD 1 0 = 0xFF) ∧
    ((ps.getD 0 0).toNat = 1 → (ps.getD 1 0).toNat < 4) ∧ ((ps.getD 0 0).toNat = 2 → (ps.getD 1 0).toNat < 24) := by
  unfold measureParams at h
  split at h
  · next p b =>
    change p.toNat < 4 ∧ (p.toNat = 0 → b.toNat < 4 ∨ b = 0xFF) ∧ (p.toNat = 1 → b.toNat < 4) ∧ (p.toNat = 2 → b.toNat < 24)
    split at h
    · next part =>
      refine ⟨by omega, fun _ => ?_, by omega, by omega⟩
      split at h
      · next all => exact .inr all
      · obtain ⟨o, read, -⟩ := Option.map_eq_some_iff.mp h
        exact .inl (opOf_lt read)
    · obtain ⟨o, read, -⟩ := Option.map_eq_some_iff.mp h
      exact ⟨by omega, by omega, fun _ => opOf_lt read, by omega⟩
    · obtain ⟨r, read, -⟩ := Option.map_eq_some_iff.mp h
      exact ⟨by omega, by omega, by omega, fun _ => remoteOf_lt read⟩
    · exact ⟨by omega, by omega, by omega, by omega⟩
    · contradiction
  · contradiction

end

/-! ## Lists -/

/-- A list that is read holds the bytes of its items. -/
theorem allOf_eq_map {α : Type} {f : Byte → Option α} {g : α → Byte} (back : ∀ b a, f b = some a → b = g a) {l : List Byte}
    {ys : List α} (h : allOf f l = some ys) : l = ys.map g := by
  induction l generalizing ys with
  | nil => cases h; rfl
  | cons b l ih =>
    unfold allOf at h
    split at h
    · next y zs item rest =>
      cases h
      rw [back b y item, ih rest, List.map_cons]
    · contradiction

theorem carrierOf_eq (b : Byte) (c : CarrierId) (h : carrierOf b = some c) : b = byte c.val := by
  unfold carrierOf at h
  split at h
  · cases h
    simp [byte]
  · contradiction

theorem byte_inj {m n : Nat} (small : m < 256) (small' : n < 256) (same : byte m = byte n) : m = n := by
  have := congrArg BitVec.toNat same
  rwa [byte_toNat small, byte_toNat small'] at this

theorem sectorIxOf_eq (b : Byte) (i : SectorIx) (h : sectorIxOf b = some i) : b = byte i.val := by
  unfold sectorIxOf at h
  split at h
  · cases h
    simp [byte]
  · contradiction

/-- The bytes that PLAN SECTOR takes: a list of distinct carriers in range, as long as it says (R38). -/
theorem sectorParams_range {ps : List Byte} {x : SectorEdit} (h : sectorParams ps = some x) :
    ∃ o i h n rest, ps = o :: i :: h :: n :: rest ∧ opOf o = some x.op ∧ i.toNat < 8 ∧ n.toNat ≤ 8 ∧ rest.length = n.toNat ∧
      x.carriers.Nodup ∧ rest = x.carriers.map fun c => byte c.val := by
  unfold sectorParams at h
  split at h
  · split at h
    · next op sector list =>
      split at h
      · next fits =>
        obtain ⟨few, all, once⟩ := fits
        cases h
        exact ⟨_, _, _, _, _, rfl, op, sectorIxOf_lt sector, few, all, once, allOf_eq_map carrierOf_eq list⟩
      · contradiction
    · contradiction
  · contradiction

theorem nodup_bytes {n : Nat} (small : n ≤ 256) {l : List (Fin n)} (once : l.Nodup) : (l.map fun c => byte c.val).Nodup :=
  once.map fun a b same => Fin.ext (byte_inj (by omega) (by omega) same)

/-- The bytes that PLAN ZONE takes: distinct alternates in range, none of them the home, and none without a home (R39). -/
theorem zoneParams_range {ps : List Byte} {x : ZoneEdit} (h : zoneParams ps = some x) :
    ∃ o r i p n rest, ps = o :: r :: i :: p :: n :: rest ∧ o.toNat < 4 ∧ r.toNat < 24 ∧ homeOf i = some x.home ∧ p.toNat < 2 ∧
      n.toNat ≤ 3 ∧ rest.length = n.toNat ∧ altsFit x.home x.alts = true ∧ rest = x.alts.map fun i => byte i.val := by
  unfold zoneParams at h
  split at h
  · split at h
    · next op remote home pin list =>
      split at h
      · next fits =>
        obtain ⟨few, all, fit⟩ := fits
        cases h
        exact ⟨_, _, _, _, _, _, rfl, opOf_lt op, remoteOf_lt remote, home, flagOf_lt pin, few, all, fit,
          allOf_eq_map sectorIxOf_eq list⟩
      · contradiction
    · contradiction
  · contradiction

/-! ## Keys -/

theorem kindOfCode_eq {b : Byte} {k : Kind} (h : kindOfCode b = some k) : k ∈ Kind.all ∧ b = byte k.code := by
  have code := List.find?_some h
  refine ⟨List.mem_of_find?_eq_some h, ?_⟩
  rw [show k.code = b.toNat by simpa using code]
  simp [byte]

theorem objOfCode_eq {b : Byte} {x : Obj} (h : objOfCode b = some x) : b = x.code ∧ x ∈ x.type.objects := by
  have small := b.isLt
  unfold objOfCode at h
  split at h
  · cases h
    exact ⟨by simp [Obj.code, byte], by simp [Obj.type, ObjType.objects, allRemotes]⟩
  · split at h
    · next range =>
      cases h
      refine ⟨?_, by simp [Obj.type, ObjType.objects, allOps]⟩
      simp only [Obj.code, byte]
      rw [Nat.add_sub_cancel' range.1]
      simp
    · split at h
      · next range =>
        cases h
        refine ⟨?_, by simp [Obj.type, ObjType.objects, allSectors]⟩
        simp only [Obj.code, byte]
        rw [Nat.add_sub_cancel' range.1]
        simp
      · split at h
        · next device =>
          cases h
          exact ⟨device, by simp [Obj.type, ObjType.objects]⟩
        · contradiction

/-- Two bytes that name a key are the codes of a key of the catalogue (R202). -/
theorem keyOfCodes_eq {k o : Byte} {key : Key} (h : keyOfCodes k o = some key) :
    key ∈ catalogue ∧ k = byte key.kind.code ∧ o = key.obj.code := by
  unfold keyOfCodes at h
  split at h
  · next kind obj kindOf objOf =>
    split at h
    · next type =>
      cases h
      obtain ⟨known, kindCode⟩ := kindOfCode_eq kindOf
      obtain ⟨objCode, object⟩ := objOfCode_eq objOf
      exact ⟨List.mem_flatMap.mpr ⟨kind, known, List.mem_map.mpr ⟨obj, type ▸ object, rfl⟩⟩, kindCode, objCode⟩
    · contradiction
  · contradiction

/-- Key pairs that are read name a key each. -/
theorem keyPairs_named {l : List Byte} {keys : List Key} (h : keyPairs l = some keys) {i : Nat} (inside : 2 * i + 1 < l.length) :
    ∃ key ∈ catalogue, l.getD (2 * i) 0 = byte key.kind.code ∧ l.getD (2 * i + 1) 0 = key.obj.code := by
  induction l using keyPairs.induct generalizing keys i with
  | case1 => simp at inside
  | case2 k o rest key keys' later first ih =>
    cases i with
    | zero =>
      obtain ⟨mem, kind, obj⟩ := keyOfCodes_eq first
      exact ⟨key, mem, kind, obj⟩
    | succ i =>
      obtain ⟨key, mem, kind, obj⟩ := ih later (i := i) (by simp only [List.length_cons] at inside; omega)
      exact ⟨key, mem, by rw [← kind]; rfl, by rw [← obj]; rfl⟩
  | case3 k o rest fails ih =>
    unfold keyPairs at h
    split at h
    · next key keys' first later => exact absurd later (fails key keys' first)
    · contradiction
  | case4 => simp at inside

end Sys2Proof.Machine
end

section
/-! SUPPORT. Admission (R179): the tests in order, whatever command a code names. -/

namespace Sys2Proof.Machine.State

variable {s : State} {code ch tag : Byte} {ps : List Byte}

/-! ## The command that a code names -/

/-- The scope test of each code's command (R185, R199). -/
def scopeOf (code : Byte) : Channel → List Byte → State → ScopeVerdict :=
  let n := code.toNat
  if 0x10 ≤ n ∧ n ≤ 0x1B ∨ n = 0x1E ∨ n = 0x1F then venueScope
  else if n = 0x30 then ownScope concernsCarrierSet
  else if n = 0x31 then ownScope concernsCarrierClear
  else if 0x32 ≤ n ∧ n ≤ 0x38 ∨ n = 0x52 ∨ n = 0x54 then ownScope concernsFirst
  else if n = 0x51 ∨ n = 0x55 then filteredScope
  else if n = 0x53 then ownScope concernsMeasure
  else if n = 0x70 then attachScope
  else if n = 0x71 then detachScope
  else anyScope

theorem byte_of_toNat {b : Byte} {n : Nat} (same : b.toNat = n) : b = BitVec.ofNat 8 n := by
  rw [← same]
  simp

theorem phase_decodeRequest (code ch tag : Byte) (ps : List Byte) : phase (decodeRequest code ch tag ps) = requestPhase := by
  unfold decodeRequest
  split <;> rfl

theorem effect_decodeRequest (code ch tag : Byte) (ps : List Byte) :
    ∃ body, ∀ s, effect (decodeRequest code ch tag ps) s = s.request code (scopeOf code) body ch tag ps := by
  unfold decodeRequest
  split
  case h_33 =>
    refine ⟨doUnknown, fun s => ?_⟩
    simp only [imp_false] at *
    dsimp only [scopeOf]
    rw [if_neg (by omega), if_neg (by omega), if_neg (by omega), if_neg (by omega), if_neg (by omega), if_neg (by omega),
      if_neg (by omega), if_neg (by omega)]
    rfl
  all_goals
    next same =>
      obtain rfl := byte_of_toNat same
      exact ⟨_, fun s => rfl⟩

theorem exec_decodeRequest (quiet : s.Quiet) (code ch tag : Byte) (ps : List Byte) :
    ∃ body, exec (decodeRequest code ch tag ps) s = .next (s.request code (scopeOf code) body ch tag ps) := by
  obtain ⟨body, own⟩ := effect_decodeRequest code ch tag ps
  exact ⟨body, by rw [exec_request_of_quiet (phase_decodeRequest ..) quiet, own]⟩

/-! ## The tests before the scope (R179, R180) -/

variable {scope : Channel → List Byte → State → ScopeVerdict} {body : Channel → List Byte → State → Answer}

theorem request_of_full (full : s.mgmt.free = 0) : s.request code scope body ch tag ps =
    s.withMgmt fun g => { g with dropped := min (g.dropped + 1) 4294967295 } := if_pos full

theorem request_of_unnamed (free : 0 < s.mgmt.free) (up : s.trunk.state = .up) (control : ch ≠ 0x01) (service : ch ≠ 0x02) :
    s.request code scope body ch tag ps = s.answering ⟨ch, tag, code, .badParameter, false, [], false⟩ := by
  have unnamed : channelOfCode ch = none := by rw [channelOfCode, if_neg control, if_neg service]
  simp only [request, if_neg free.ne', unnamed, respond_up _ _ up]

theorem request_of_barred (free : 0 < s.mgmt.free) (up : s.trunk.state = .up) (barred : s.mgmt.barred = true) :
    s.request code scope body 0x02 tag ps = s.answering ⟨0x02, tag, code, .barred, false, [], false⟩ := by
  have named : channelOfCode 0x02 = some .service := rfl
  simp only [request, if_neg free.ne', named, barred, true_and, if_true, respond_up _ _ up]

theorem request_of_busy {c : Channel} (free : 0 < s.mgmt.free) (up : s.trunk.state = .up)
    (open' : ¬ (c = .service ∧ s.mgmt.barred = true)) (busy : (s.mgmt.busy c).isSome = true) (other : code ≠ 0x7F) :
    s.request code scope body c.code tag ps = s.answering ⟨c.code, tag, code, .busy, false, [], false⟩ := by
  have named : channelOfCode c.code = some c := by cases c <;> rfl
  simp only [request, if_neg free.ne', named, if_neg open', if_pos (And.intro busy other), respond_up _ _ up]

/-! ## The scope test -/

/-- The scope test of a request on a ready channel answers for it. -/
theorem request_of_refused_scope {c : Channel} {x : Result} (ready : s.Ready c)
    (verdict : scope c ps s = .outOfScope ∧ x = .outOfScope ∨ scope c ps s = .badParameter ∧ x = .badParameter) :
    s.request code scope body c.code tag ps = s.answering ⟨c.code, tag, code, x, false, [], false⟩ := by
  obtain ⟨_, free, up, idle, unbarred⟩ := ready
  have named : channelOfCode c.code = some c := by cases c <;> rfl
  have open' : ¬ (c = .service ∧ s.mgmt.barred = true) := fun ⟨service, barred⟩ => by simp [unbarred service] at barred
  have idle' : ¬ ((s.mgmt.busy c).isSome = true ∧ code ≠ 0x7F) := by simp [idle]
  rcases verdict with ⟨verdict, rfl⟩ | ⟨verdict, rfl⟩ <;>
    simp only [request, if_neg free.ne', named, if_neg open', if_neg idle', verdict, respond_up _ _ up]

theorem scopeOf_venue (venue : 0x10 ≤ code.toNat ∧ code.toNat ≤ 0x1B ∨ code = 0x1E ∨ code = 0x1F) : scopeOf code = venueScope := by
  dsimp only [scopeOf]
  rw [if_pos]
  rcases venue with range | rfl | rfl
  · exact .inl range
  · decide
  · decide

theorem scopeOf_first (first : 0x32 ≤ code.toNat ∧ code.toNat ≤ 0x38 ∨ code = 0x52 ∨ code = 0x54) :
    scopeOf code = ownScope concernsFirst := by
  rcases first with range | rfl | rfl
  · dsimp only [scopeOf]
    rw [if_neg (by omega), if_neg (by omega), if_neg (by omega), if_pos (.inl range)]
  · rfl
  · rfl

/-- Without scope nothing that needs one is taken on the service channel (R185). -/
theorem scopeOf_scopeless (scopeless : s.mgmt.scope = none) (needs : 0x30 ≤ code.toNat ∧ code.toNat ≤ 0x38 ∨
    0x51 ≤ code.toNat ∧ code.toNat ≤ 0x55 ∨ code = 0x71) (ps : List Byte) : scopeOf code .service ps s = .outOfScope := by
  have own (concerns : OpId → List Byte → State → ScopeVerdict) : ownScope concerns .service ps s = .outOfScope := by
    simp only [ownScope, scopeless]
  have filtered : filteredScope .service ps s = .outOfScope := by
    simp only [filteredScope, scopeless, Option.isSome_none, Bool.false_eq_true, if_false]
  by_cases detach : code = 0x71
  · subst detach
    show detachScope .service ps s = _
    simp only [detachScope, scopeless, Option.isSome_none, Bool.false_eq_true, if_false]
  · have range : 0x30 ≤ code.toNat ∧ code.toNat ≤ 0x38 ∨ 0x51 ≤ code.toNat ∧ code.toNat ≤ 0x55 := by
      rcases needs with range | range | same
      · exact .inl range
      · exact .inr range
      · exact absurd same detach
    dsimp only [scopeOf]
    rw [if_neg (by omega)]
    split
    · exact own _
    · split
      · exact own _
      · split
        · exact own _
        · split
          · exact filtered
          · rw [if_pos (by omega)]
            exact own _

/-- A scope test that the control channel always passes. -/
theorem scopeOf_control (code : Byte) (ps : List Byte) (attach : code ≠ 0x70) (detach : code ≠ 0x71) :
    scopeOf code .control ps s = .taken := by
  have attach' : code.toNat ≠ 0x70 := fun same => attach (byte_of_toNat same)
  have detach' : code.toNat ≠ 0x71 := fun same => detach (byte_of_toNat same)
  dsimp only [scopeOf]
  rw [if_neg attach', if_neg detach']
  split_ifs <;> rfl

/-! ## The parameters -/

/-- A request whose own rule refuses its parameters. -/
theorem exec_refused {c : Channel} (ready : s.Ready c) (taken : scopeOf code c ps s = .taken)
    (own : effect (decodeRequest code c.code tag ps) s = s.request code (scopeOf code) body c.code tag ps)
    (refused : body c ps s = refuse .badParameter s) :
    exec (decodeRequest code c.code tag ps) s = .next (s.answering ⟨c.code, tag, code, .badParameter, false, [], false⟩) :=
  exec_now ready refused rfl taken own (phase_decodeRequest ..)

theorem withParams_none {α : Type} {x : Option α} {f : α → Answer} (none : x = none) :
    withParams x s f = refuse .badParameter s := by
  rw [none]
  rfl

/-- A parameter part of another length than the command's is refused on the control channel (R199). -/
theorem exec_of_length {α : Type} {params : List Byte → Option α} {f : α → Answer} {n : Nat} (ready : s.Ready .control)
    (length : TakesLength params n) (short : ps.length ≠ n) (attach : code ≠ 0x70) (detach : code ≠ 0x71)
    (own : effect (decodeRequest code 0x01 tag ps) s = s.request code (scopeOf code) body 0x01 tag ps)
    (reads : body .control ps s = withParams (params ps) s f) :
    exec (decodeRequest code 0x01 tag ps) s = .next (s.answering ⟨0x01, tag, code, .badParameter, false, [], false⟩) :=
  exec_refused ready (scopeOf_control code ps attach detach) own (reads.trans (withParams_none (length ps short)))

end Sys2Proof.Machine.State
end

section
/-! SUPPORT. The parameters that each command refuses once its scope test has taken it (R184, R199, section 10.4). -/

namespace Sys2Proof.Machine.State

variable {s : State} {c : Channel} {code tag : Byte} {ps : List Byte} {body : Channel → List Byte → State → Answer}

/-- A request that reaches the test of its parameters: on the control channel, or on the service channel within its scope. -/
def Admitted (s : State) (c : Channel) (code : Byte) (ps : List Byte) : Prop :=
  s.Ready c ∧ (c = .service → code = 0x70 ∨ ∃ o : OpId, s.mgmt.scope = some o ∧
    (code = 0x51 ∨ code = 0x55 ∨ code ∈ [0x32, 0x33, 0x37, 0x52] ∧ ps.head? = some (byte o.val)))

/-- The request is answered BAD_PARAMETER and changes nothing else. -/
def AnswersBad (s : State) (c : Channel) (code tag : Byte) (ps : List Byte) : Prop :=
  exec (decodeRequest code c.code tag ps) s = .next (s.answering ⟨c.code, tag, code, .badParameter, false, [], false⟩)

theorem Admitted.taken (h : s.Admitted c code ps) (venue : c = .control → code ≠ 0x70 ∧ code ≠ 0x71) :
    scopeOf code c ps s = .taken := by
  obtain ⟨_, own⟩ := h
  cases c with
  | control => exact scopeOf_control code ps (venue rfl).1 (venue rfl).2
  | service =>
    rcases own rfl with rfl | ⟨o, scope, rfl | rfl | ⟨mem, head⟩⟩
    · rfl
    · show filteredScope .service ps s = _
      simp only [filteredScope, scope, Option.isSome_some, if_true]
    · show filteredScope .service ps s = _
      simp only [filteredScope, scope, Option.isSome_some, if_true]
    · rw [scopeOf_first (by revert mem; simp only [List.mem_cons, List.not_mem_nil, or_false]; rintro (rfl | rfl | rfl | rfl) <;> decide)]
      obtain ⟨b, rest, rfl⟩ : ∃ b rest, ps = b :: rest := by
        cases ps with
        | nil => contradiction
        | cons b rest => exact ⟨b, rest, rfl⟩
      cases head
      exact firstScope_taken (fun _ => scope) rest

/-- A command that reads its parameters refuses those that it cannot read. -/
theorem Admitted.bad {α : Type} {x : Option α} {f : α → Answer} (h : s.Admitted c code ps) (none : x = none)
    (reads : body c ps s = withParams x s f)
    (own : effect (decodeRequest code c.code tag ps) s = s.request code (scopeOf code) body c.code tag ps)
    (venue : c = .control → code ≠ 0x70 ∧ code ≠ 0x71) : s.AnswersBad c code tag ps :=
  exec_refused h.1 (h.taken venue) own (reads.trans (withParams_none none))

/-! ## One parameter -/

theorem Admitted.bad_op (h : s.Admitted c code ps) (mem : code ∈ [0x10, 0x34, 0x35, 0x36, 0x38, 0x54])
    (out : 4 ≤ (ps.getD 0 0).toNat) : s.AnswersBad c code tag ps := by
  have none : opParams ps = none := none_of_range opParams_range (Nat.not_lt.mpr out)
  simp only [List.mem_cons, List.not_mem_nil, or_false] at mem
  rcases mem with rfl | rfl | rfl | rfl | rfl | rfl
  · exact h.bad (body := doAccessSet) (none_of_range codeParams_range fun ⟨lt, _⟩ => Nat.not_lt.mpr out lt) rfl rfl fun _ => by decide
  · exact h.bad (body := doPlanHome) none rfl rfl fun _ => by decide
  · exact h.bad (body := doPlanCommit) none rfl rfl fun _ => by decide
  · exact h.bad (body := doPlanRevert) none rfl rfl fun _ => by decide
  · exact h.bad (body := doBalanceAccept) none rfl rfl fun _ => by decide
  · exact h.bad (body := doBalanceRead) none rfl rfl fun _ => by decide

theorem Admitted.bad_remote (h : s.Admitted c code ps) (mem : code ∈ [0x13, 0x19, 0x31, 0x51])
    (out : 24 ≤ (ps.getD 0 0).toNat) : s.AnswersBad c code tag ps := by
  have none : remoteParams ps = none := none_of_range remoteParams_range (Nat.not_lt.mpr out)
  simp only [List.mem_cons, List.not_mem_nil, or_false] at mem
  rcases mem with rfl | rfl | rfl | rfl
  · exact h.bad (body := doLinkRestart) none rfl rfl fun _ => by decide
  · exact h.bad (body := doRestore) none rfl rfl fun _ => by decide
  · exact h.bad (body := doCarrierClear) (none_of_range carrierParams_range (Nat.not_lt.mpr out)) rfl rfl fun _ => by decide
  · exact h.bad (body := doLinkRead) none rfl rfl fun _ => by decide

theorem Admitted.bad_attach (h : s.Admitted .service 0x70 ps) (out : 4 ≤ (ps.getD 0 0).toNat ∨ ps.length ≠ 5) :
    s.AnswersBad .service 0x70 tag ps := by
  refine h.bad (body := doAttach) (none_of_range codeParams_range fun ⟨lt, all⟩ => ?_) rfl rfl nofun
  exact out.elim (Nat.not_le.mpr lt) fun other => other all

theorem Admitted.bad_reference (h : s.Admitted c 0x14 ps) (out : 6 ≤ (ps.getD 0 0).toNat) : s.AnswersBad c 0x14 tag ps :=
  h.bad (body := doTimingSet) (none_of_range referenceParams_range (Nat.not_lt.mpr out)) rfl rfl fun _ => by decide

theorem Admitted.bad_mode (h : s.Admitted c code ps) (mem : code ∈ [0x16, 0x17]) (out : 2 ≤ (ps.getD 0 0).toNat) :
    s.AnswersBad c code tag ps := by
  simp only [List.mem_cons, List.not_mem_nil, or_false] at mem
  rcases mem with rfl | rfl
  · exact h.bad (body := doQuietSet) (none_of_range quietParams_range (Nat.not_lt.mpr out)) rfl rfl fun _ => by decide
  · exact h.bad (body := doModeSet) (none_of_range modeParams_range (Nat.not_lt.mpr out)) rfl rfl fun _ => by decide

theorem Admitted.bad_start (h : s.Admitted c 0x55 ps) (out : 64 ≤ (ps.getD 0 0).toNat) : s.AnswersBad c 0x55 tag ps :=
  h.bad (body := doAlarmList) (none_of_range startParams_range (Nat.not_lt.mpr out)) rfl rfl fun _ => by decide

/-! ## Several parameters -/

theorem Admitted.bad_link (h : s.Admitted c 0x12 ps) (out : 24 ≤ (ps.getD 0 0).toNat ∨ 2 ≤ (ps.getD 1 0).toNat ∨
    (ps.getD 2 0).toNat = 0 ∨ 8 ≤ (ps.getD 2 0).toNat) : s.AnswersBad c 0x12 tag ps :=
  h.bad (body := doLinkSet) (none_of_range linkParams_range (by omega)) rfl rfl fun _ => by decide

theorem Admitted.bad_isolate (h : s.Admitted c 0x18 ps) (out : 24 ≤ (ps.getD 0 0).toNat ∨ 2 ≤ (ps.getD 3 0).toNat) :
    s.AnswersBad c 0x18 tag ps :=
  h.bad (body := doIsolate) (none_of_range isolateParams_range (by omega)) rfl rfl fun _ => by decide

theorem Admitted.bad_alert (h : s.Admitted c 0x1A ps) (out : 2 ≤ (ps.getD 0 0).toNat ∨ (ps.getD 2 0).getLsbD 0 = true) :
    s.AnswersBad c 0x1A tag ps := by
  refine h.bad (body := doAlertSet) (none_of_range alertParams_range fun ⟨lt, clear⟩ => ?_) rfl rfl fun _ => by decide
  exact out.elim (Nat.not_le.mpr lt) fun set => Bool.eq_false_iff.mp clear set

theorem Admitted.bad_carrier (h : s.Admitted c 0x30 ps) (out : 24 ≤ (ps.getD 0 0).toNat ∨ 4 ≤ (ps.getD 1 0).toNat ∨
    8 ≤ (ps.getD 2 0).toNat ∨ 2 ≤ (ps.getD 5 0).toNat) : s.AnswersBad c 0x30 tag ps :=
  h.bad (body := doCarrierSet) (none_of_range carrierSetParams_range (by omega)) rfl rfl fun _ => by decide

theorem Admitted.bad_balance (h : s.Admitted c 0x37 ps) (out : 4 ≤ (ps.getD 0 0).toNat ∨ 3 ≤ (ps.getD 1 0).toNat) :
    s.AnswersBad c 0x37 tag ps :=
  h.bad (body := doBalanceSet) (none_of_range balanceParams_range (by omega)) rfl rfl fun _ => by decide

theorem Admitted.bad_planRead (h : s.Admitted c 0x52 ps) (out : 4 ≤ (ps.getD 0 0).toNat ∨ 2 ≤ (ps.getD 1 0).toNat ∨
    3 ≤ (ps.getD 2 0).toNat) : s.AnswersBad c 0x52 tag ps :=
  h.bad (body := doPlanRead) (none_of_range planReadParams_range (by omega)) rfl rfl fun _ => by decide

theorem Admitted.bad_measure (h : s.Admitted c 0x53 ps) (out : 4 ≤ (ps.getD 0 0).toNat ∨
    (ps.getD 0 0 = 0x00 ∧ 4 ≤ (ps.getD 1 0).toNat ∧ ps.getD 1 0 ≠ 0xFF) ∨ (ps.getD 0 0 = 0x01 ∧ 4 ≤ (ps.getD 1 0).toNat) ∨
    (ps.getD 0 0 = 0x02 ∧ 24 ≤ (ps.getD 1 0).toNat)) : s.AnswersBad c 0x53 tag ps := by
  refine h.bad (body := doMeasureRead) (none_of_range measureParams_range fun ⟨known, sectors, shares, occupancy⟩ => ?_) rfl rfl
    fun _ => by decide
  rcases out with large | ⟨part, large, other⟩ | ⟨part, large⟩ | ⟨part, large⟩
  · exact Nat.not_le.mpr known large
  · exact (sectors (by rw [part]; rfl)).elim (Nat.not_lt.mpr large) other
  · exact Nat.not_lt.mpr large (shares (by rw [part]; rfl))
  · exact Nat.not_lt.mpr large (occupancy (by rw [part]; rfl))

/-! ## Lists -/

/-- ALARM ACK: up to 16 keys, two bytes each, every one of them a key of the catalogue (R165). -/
theorem Admitted.bad_ack {n : Byte} {rest : List Byte} (h : s.Admitted c 0x1B (n :: rest)) (out : 16 < n.toNat ∨
    rest.length ≠ 2 * n.toNat ∨ ∃ i < n.toNat, ∀ k ∈ catalogue,
      ¬ (rest.getD (2 * i) 0 = byte k.kind.code ∧ rest.getD (2 * i + 1) 0 = k.obj.code)) :
    s.AnswersBad c 0x1B tag (n :: rest) := by
  refine h.bad (body := doAlarmAck) (Option.eq_none_iff_forall_ne_some.mpr fun keys read => ?_) rfl rfl fun _ => by decide
  rw [ackParams] at read
  split at read
  · next fits =>
    obtain ⟨few, all⟩ := fits
    rcases out with many | other | ⟨i, inside, unnamed⟩
    · omega
    · exact other all
    · obtain ⟨key, mem, kind, obj⟩ := keyPairs_named read (i := i) (by omega)
      exact unnamed key mem ⟨kind, obj⟩
  · contradiction

/-- PLAN SECTOR: up to 8 distinct carriers of the operator (R38). -/
theorem Admitted.bad_sector {a : Byte} {rest : List Byte} (h : s.Admitted c 0x32 (a :: rest)) {list : List Byte}
    (rest_eq : list = rest.drop 3) (out : rest.length < 3 ∨ 4 ≤ a.toNat ∨ 8 ≤ (rest.getD 0 0).toNat ∨
      8 < (rest.getD 2 0).toNat ∨ list.length ≠ (rest.getD 2 0).toNat ∨ ¬ list.Nodup ∨ ∃ x ∈ list, 24 ≤ x.toNat ∨
        ∃ y : CarrierId, y.val = x.toNat ∧ ∀ p : OpId, p.val = a.toNat → s.plan.owner y ≠ some p) :
    s.AnswersBad c 0x32 tag (a :: rest) := by
  refine exec_refused h.1 (h.taken fun _ => by decide) (body := doPlanSector) rfl ?_
  unfold doPlanSector
  cases read : sectorParams (a :: rest) with
  | none => rfl
  | some x =>
    obtain ⟨o, i, k, n, cs, all, op, sector, few, length, once, bytes⟩ := sectorParams_range read
    cases all
    have list_eq : list = x.carriers.map fun c => byte c.val := rest_eq.trans bytes
    refine if_neg fun owned => ?_
    rw [List.all_eq_true] at owned
    have mine : a = byte x.op.val := opOf_eq op
    rcases out with short | large | large | many | other | again | ⟨b, mem, unknown⟩
    · simp only [List.length_cons] at short; omega
    · exact Nat.not_lt.mpr large (opOf_lt op)
    · exact Nat.not_lt.mpr large sector
    · exact Nat.not_lt.mpr few many
    · exact other (by rw [rest_eq]; exact length)
    · exact again (by rw [list_eq]; exact nodup_bytes (by omega) once)
    · rw [list_eq] at mem
      obtain ⟨y, listed, rfl⟩ := List.mem_map.mp mem
      have value : (byte y.val).toNat = y.val := byte_toNat (by omega)
      rcases unknown with large | ⟨z, same, foreign⟩
      · omega
      · obtain rfl : z = y := Fin.ext (same.trans value)
        exact foreign x.op (by rw [mine, byte_toNat (by omega)]) (by simpa using owned z listed)

/-- PLAN ZONE: up to 3 distinct alternates, none of them the home, and none without a home (R34, R39). -/
theorem Admitted.bad_zone {a : Byte} {rest : List Byte} (h : s.Admitted c 0x33 (a :: rest)) {list : List Byte} {n : Byte}
    (rest_eq : list = rest.drop 4) (count : n = rest.getD 3 0) (out : rest.length < 4 ∨ 4 ≤ a.toNat ∨
      24 ≤ (rest.getD 0 0).toNat ∨ (8 ≤ (rest.getD 1 0).toNat ∧ rest.getD 1 0 ≠ 0xFF) ∨ 2 ≤ (rest.getD 2 0).toNat ∨
      3 < n.toNat ∨ list.length ≠ n.toNat ∨ ¬ list.Nodup ∨ (∃ x ∈ list, 8 ≤ x.toNat ∨ x = rest.getD 1 0) ∨
      (rest.getD 1 0 = 0xFF ∧ list ≠ [])) : s.AnswersBad c 0x33 tag (a :: rest) := by
  refine h.bad (body := doPlanZone) (Option.eq_none_iff_forall_ne_some.mpr fun x read => ?_) rfl rfl fun _ => by decide
  obtain ⟨o, r, i, p, m, alts, all, op, remote, home, pin, few, length, fit, bytes⟩ := zoneParams_range read
  cases all
  have list_eq : list = x.alts.map fun i => byte i.val := rest_eq.trans bytes
  have count : n = m := count
  subst count
  have apart : x.home = none ∧ x.alts = [] ∨ ∃ j, x.home = some j ∧ x.alts.Nodup ∧ j ∉ x.alts := by
    unfold altsFit at fit
    split at fit
    · next none => exact .inl ⟨none, by simpa using fit⟩
    · next j some =>
      simp only [Bool.and_eq_true, decide_eq_true_eq, Bool.not_eq_true', List.contains_eq_mem, decide_eq_false_iff_not] at fit
      exact .inr ⟨j, some, fit⟩
  have homeByte : i = sectorByte x.home := by
    unfold homeOf at home
    split at home
    · next none =>
      rw [← Option.some.inj home]
      exact none
    · obtain ⟨j, index, same⟩ := Option.map_eq_some_iff.mp home
      rw [← same, sectorIxOf_eq _ _ index]
      rfl
  rcases out with short | large | large | ⟨large, other⟩ | large | many | other | again | ⟨b, mem, unfit⟩ | ⟨none, some⟩
  · simp only [List.length_cons] at short; omega
  · exact Nat.not_lt.mpr large op
  · exact Nat.not_lt.mpr large remote
  · exact (homeOf_range home).elim (Nat.not_lt.mpr large) other
  · exact Nat.not_lt.mpr large pin
  · exact Nat.not_lt.mpr few many
  · exact other (by rw [rest_eq]; exact length)
  · refine again ?_
    rw [list_eq]
    rcases apart with ⟨-, empty⟩ | ⟨-, -, once, -⟩
    · rw [empty]
      exact .nil
    · exact nodup_bytes (by omega) once
  · rw [list_eq] at mem
    obtain ⟨y, listed, rfl⟩ := List.mem_map.mp mem
    have value : (byte y.val).toNat = y.val := byte_toNat (by omega)
    rcases unfit with large | same
    · omega
    · have same : byte y.val = i := same
      rcases apart with ⟨-, empty⟩ | ⟨j, some, -, absent⟩
      · rw [empty] at listed
        contradiction
      · rw [homeByte, some] at same
        exact absent (Fin.ext (byte_inj (by omega) (by omega) same) ▸ listed)
  · refine some ?_
    have none : i = 0xFF := none
    rw [list_eq]
    rcases apart with ⟨-, empty⟩ | ⟨j, home', -, -⟩
    · rw [empty]
      rfl
    · have value : (byte j.val).toNat = j.val := byte_toNat (by omega)
      have same : byte j.val = 0xFF := by rw [← none, homeByte, home']; rfl
      rw [same] at value
      have := j.isLt
      exact absurd value (by simp; omega)

end Sys2Proof.Machine.State
end

section
/-! The statement on admission. -/

namespace Sys2Proof.Machine.State

variable {s : State} {code tag : Byte} {ps : List Byte}

/-- The commands of one length, each with its parameter reading (section 10.4). -/
theorem exec_other_length (ready : s.Ready .control) {n : Nat} (mem : (code.toNat, n) ∈ [(0x10, 5), (0x11, 0), (0x12, 7), (0x13, 1),
      (0x14, 1), (0x15, 4), (0x16, 6), (0x17, 1), (0x18, 4), (0x19, 1), (0x1A, 3), (0x1E, 0), (0x1F, 0), (0x30, 16), (0x31, 1),
      (0x34, 1), (0x35, 1), (0x36, 1), (0x37, 7), (0x38, 1), (0x50, 0), (0x51, 1), (0x52, 3), (0x53, 2), (0x54, 1), (0x55, 1),
      (0x7F, 0)]) (other : ps.length ≠ n) :
    exec (decodeRequest code 0x01 tag ps) s = .next (s.answering ⟨0x01, tag, code, .badParameter, false, [], false⟩) := by
  have of {k : Nat} {l : Nat} (same : (code.toNat, n) = (k, l)) : code = BitVec.ofNat 8 k ∧ n = l :=
    ⟨byte_of_toNat (congrArg Prod.fst same), congrArg Prod.snd same⟩
  simp only [List.mem_cons, List.not_mem_nil, or_false] at mem
  rcases mem with e | e | e | e | e | e | e | e | e | e | e | e | e | e | e | e | e | e | e | e | e | e | e | e | e | e | e <;>
    obtain ⟨rfl, rfl⟩ := of e
  · exact exec_of_length (body := doAccessSet) ready codeParams_length other (by decide) (by decide) rfl rfl
  · exact exec_of_length (body := doRelease) ready noParams_length other (by decide) (by decide) rfl rfl
  · exact exec_of_length (body := doLinkSet) ready linkParams_length other (by decide) (by decide) rfl rfl
  · exact exec_of_length (body := doLinkRestart) ready remoteParams_length other (by decide) (by decide) rfl rfl
  · exact exec_of_length (body := doTimingSet) ready referenceParams_length other (by decide) (by decide) rfl rfl
  · exact exec_of_length (body := doWindowSet) ready windowParams_length other (by decide) (by decide) rfl rfl
  · exact exec_of_length (body := doQuietSet) ready quietParams_length other (by decide) (by decide) rfl rfl
  · exact exec_of_length (body := doModeSet) ready modeParams_length other (by decide) (by decide) rfl rfl
  · exact exec_of_length (body := doIsolate) ready isolateParams_length other (by decide) (by decide) rfl rfl
  · exact exec_of_length (body := doRestore) ready remoteParams_length other (by decide) (by decide) rfl rfl
  · exact exec_of_length (body := doAlertSet) ready alertParams_length other (by decide) (by decide) rfl rfl
  · exact exec_of_length (body := doWarm) ready noParams_length other (by decide) (by decide) rfl rfl
  · exact exec_of_length (body := doCold) ready noParams_length other (by decide) (by decide) rfl rfl
  · exact exec_of_length (body := doCarrierSet) ready carrierSetParams_length other (by decide) (by decide) rfl rfl
  · exact exec_of_length (body := doCarrierClear) ready carrierParams_length other (by decide) (by decide) rfl rfl
  · exact exec_of_length (body := doPlanHome) ready opParams_length other (by decide) (by decide) rfl rfl
  · exact exec_of_length (body := doPlanCommit) ready opParams_length other (by decide) (by decide) rfl rfl
  · exact exec_of_length (body := doPlanRevert) ready opParams_length other (by decide) (by decide) rfl rfl
  · exact exec_of_length (body := doBalanceSet) ready balanceParams_length other (by decide) (by decide) rfl rfl
  · exact exec_of_length (body := doBalanceAccept) ready opParams_length other (by decide) (by decide) rfl rfl
  · exact exec_of_length (body := doStatus) ready noParams_length other (by decide) (by decide) rfl rfl
  · exact exec_of_length (body := doLinkRead) ready remoteParams_length other (by decide) (by decide) rfl rfl
  · exact exec_of_length (body := doPlanRead) ready planReadParams_length other (by decide) (by decide) rfl rfl
  · exact exec_of_length (body := doMeasureRead) ready measureParams_length other (by decide) (by decide) rfl rfl
  · exact exec_of_length (body := doBalanceRead) ready opParams_length other (by decide) (by decide) rfl rfl
  · exact exec_of_length (body := doAlarmList) ready startParams_length other (by decide) (by decide) rfl rfl
  · exact exec_of_length (body := doAbort) ready noParams_length other (by decide) (by decide) rfl rfl

end Sys2Proof.Machine.State

namespace Sys2Proof.Proofs

open Sys2Proof.Machine Sys2Proof.Machine.State

/-- Settles O52: the tests of R179 in order, and what each command's parameter reading refuses. -/
theorem admission : Obligations.Admission := by
  intro s code ch tag ps quiet answered
  obtain ⟨body, run⟩ := exec_decodeRequest quiet code ch tag ps
  have by_request {x : Result} (request : s.request code (scopeOf code) body ch tag ps =
      s.answering ⟨ch, tag, code, x, false, [], false⟩) : answered x := run.trans (congrArg _ request)
  refine ⟨fun full => run.trans (congrArg _ (request_of_full full)), fun free up => ⟨fun control service => ?_, fun named barred => ?_,
    fun named busy other => ?_, fun named unbarred busy other => ?_, fun ready named => ⟨fun low venue => ?_, fun scopeless needs => ?_,
    fun o scope first => ⟨fun empty => ?_, fun b rest all foreign => ?_⟩⟩, fun ready named => ⟨fun attach => ?_, fun n mem other => ?_⟩,
    fun taken a rest all => ?_⟩⟩
  · exact by_request (request_of_unnamed free up control service)
  · subst named
    exact by_request (request_of_barred free up barred)
  · subst named
    exact by_request (request_of_busy (c := .control) free up nofun busy other)
  · subst named
    exact by_request (request_of_busy (c := .service) free up (fun ⟨_, barred⟩ => by simp [unbarred] at barred) busy other)
  · subst named
    refine by_request (request_of_refused_scope (c := .service) ready (.inl ⟨?_, rfl⟩))
    rw [scopeOf_venue (venue.imp_left fun high => ⟨low, high⟩)]
    rfl
  · subst named
    exact by_request (request_of_refused_scope (c := .service) ready (.inl ⟨scopeOf_scopeless scopeless needs ps, rfl⟩))
  · subst named
    refine by_request (request_of_refused_scope (c := .service) ready (.inr ⟨?_, rfl⟩))
    simp only [scopeOf_first first, ownScope, scope, empty, concernsFirst]
  · subst named
    refine by_request (request_of_refused_scope (c := .service) ready (.inl ⟨?_, rfl⟩))
    simp only [scopeOf_first first, ownScope, scope, all, concernsFirst, names, if_neg foreign]
  · subst named
    refine by_request (request_of_refused_scope (c := .control) ready (.inl ⟨?_, rfl⟩))
    rcases attach with rfl | rfl <;> rfl
  · subst named
    exact exec_other_length ready mem other
  · obtain ⟨c, named, h⟩ : ∃ c : Channel, ch = c.code ∧ s.Admitted c code ps := by
      rcases taken with ⟨ready, named⟩ | ⟨ready, named, own⟩
      · exact ⟨.control, named, ready, nofun⟩
      · exact ⟨.service, named, ready, fun _ => own⟩
    subst named all
    intro b c' d
    refine ⟨h.bad_op, h.bad_remote, fun attach service out => ?_, fun same out => ?_, h.bad_mode, fun same out => ?_,
      fun same out => ?_, fun same out => ?_, fun same out => ?_, fun same out => ?_, fun same out => ?_, fun same out => ?_,
      fun same out => ?_, fun same out => ?_, fun same list list_eq out => ?_, fun same list n list_eq count out => ?_⟩
    · obtain rfl : c = .service := by
        cases c with
        | control => contradiction
        | service => rfl
      subst attach
      exact h.bad_attach (out.imp_right fun other all => other (by simpa using all))
    all_goals subst same
    · exact h.bad_reference out
    · exact h.bad_start out
    · exact h.bad_link out
    · exact h.bad_isolate out
    · exact h.bad_alert out
    · exact h.bad_ack out
    · exact h.bad_carrier out
    · exact h.bad_balance out
    · exact h.bad_planRead out
    · exact h.bad_measure out
    · exact h.bad_sector list_eq out
    · exact h.bad_zone list_eq count out

end Sys2Proof.Proofs
end

section
/-! SUPPORT. The arithmetic of the uplink sum (R86, R87), and the shares and loads of a snapshot (R104, R105). -/

namespace Sys2Proof.Machine

/-! ## The uplink sum -/

theorem scaleDown_eq (h : Nat) (a : Int) : scaleDown h a = (a + 2 ^ (11 + h)) / 2 ^ (12 + h) := rfl

theorem outputValue_eq (h : Nat) (a : Int) : outputValue h a = max (-32768) (min 32767 (scaleDown h a)) := by
  rw [outputValue, saturate]
  norm_num [min_comm]

theorem saturated_of_within {h : Nat} {a : Int} (low : -32768 ≤ scaleDown h a) (high : scaleDown h a ≤ 32767) :
    outputValue h a = scaleDown h a ∧ saturated h a = 0 := by
  have exact' : outputValue h a = scaleDown h a := by rw [outputValue_eq]; omega
  exact ⟨exact', if_pos exact'⟩

theorem saturated_of_outside {h : Nat} {a : Int} (out : scaleDown h a < -32768 ∨ 32767 < scaleDown h a) : saturated h a = 1 :=
  if_neg (by rw [outputValue_eq]; omega)

/-- A value that is a multiple of the scale, and less than half a step besides, is scaled down exactly. -/
theorem scaleDown_mul (h : Nat) (x : Int) : scaleDown h (x * 2 ^ (12 + h)) = x := by
  have half : (0 : Int) ≤ 2 ^ (11 + h) ∧ (2 : Int) ^ (11 + h) < 2 ^ (12 + h) :=
    ⟨by positivity, pow_lt_pow_right₀ (by norm_num) (by omega)⟩
  rw [scaleDown_eq, Int.add_comm, Int.add_mul_ediv_right _ _ (by positivity), Int.ediv_eq_zero_of_lt half.1 half.2, zero_add]

/-- Up to the width of the headroom every sum of full-scale members fits, and one more saturates (R87). -/
theorem scaleDown_fullScale {h : Nat} (few : h ≤ 4) :
    scaleDown h (2 ^ h * (32767 * 4096)) = 32767 ∧ 32767 < scaleDown h ((2 ^ h + 1) * (32767 * 4096)) := by
  interval_cases h <;> decide

theorem saturations_eq {q : UplinkSum} (some : q.contributors ≠ 0) : q.saturations =
    (q.acc.map fun a => saturated q.h a.i).sum + (q.acc.map fun a => saturated q.h a.q).sum := by
  rw [UplinkSum.saturations, if_neg some]
  exact List.sum_map_add

/-! ## Shares and loads -/

@[simp] theorem sectorOp_sectorOf (o : OpId) (i : SectorIx) : sectorOp (sectorOf o i) = o := Fin.ext (by
  show (8 * o.val + i.val) / 8 = o.val
  omega)

@[simp] theorem sectorIx_sectorOf (o : OpId) (i : SectorIx) : sectorIx (sectorOf o i) = i := Fin.ext (by
  show (8 * o.val + i.val) % 8 = i.val
  omega)

section
variable (closing : Count) (m : Measurement) (banks : Vector Bank 4) (sat : Vector Nat 32) (o : OpId)

theorem formSnapshot_share (r : RemoteId) : (formSnapshot closing m banks sat).share[o][r] =
    demandShare banks[o] r (formSnapshot closing m banks sat).occ[r] := by
  simp only [formSnapshot, State.getElem_tab]

theorem formSnapshot_load (i : SectorIx) : (formSnapshot closing m banks sat).load[sectorOf o i] =
    sectorLoad banks[o] i (formSnapshot closing m banks sat).share[o] := by
  have entry : ∀ (x : SectorId) (p : OpId) (j : SectorIx), sectorOp x = p → sectorIx x = j →
      (formSnapshot closing m banks sat).load[x] = sectorLoad banks[p] j (formSnapshot closing m banks sat).share[p] := by
    rintro x _ _ rfl rfl
    simp only [formSnapshot, State.getElem_tab]
  exact entry _ o i (sectorOp_sectorOf o i) (sectorIx_sectorOf o i)

end

theorem demandShare_of_none {b : Bank} {r : RemoteId} (nowhere : b.zones[r].cur = none) (occ : Vector Nat 24) :
    demandShare b r occ = 0 := by simp only [demandShare, Bank.calls, nowhere]

theorem demandShare_of_sector {b : Bank} {r : RemoteId} {j : SectorIx} (here : b.zones[r].cur = some j) (occ : Vector Nat 24) :
    demandShare b r occ = (b.sectors[j].carriers.map fun c : CarrierId => occ[c]).sum / b.sectors[j].carriers.length := by
  simp only [demandShare, Bank.calls, here]
  cases b.sectors[j].carriers with
  | nil => simp
  | cons c cs => rfl

/-- The mean of values up to a bound is up to that bound. -/
theorem mean_le {α : Type} {f : α → Nat} {n : Nat} (cs : List α) (bounded : ∀ c, f c ≤ n) : (cs.map f).sum / cs.length ≤ n := by
  have total : (cs.map f).sum ≤ n * cs.length := by
    have := List.sum_le_card_nsmul (cs.map f) n (by simpa using fun c _ => bounded c)
    simpa [Nat.mul_comm] using this
  exact Nat.div_le_of_le_mul (by rwa [Nat.mul_comm])

end Sys2Proof.Machine
end

section
/-! The statements on the uplink sum and on shares and loads. -/

namespace Sys2Proof.Proofs

open Sys2Proof.Machine

/-- Settles O29: by the value scaled down and where it lies. -/
theorem uplinkRounding : Obligations.UplinkRounding := by
  refine ⟨outputValue_eq, fun x low high => ?_, fun h few => ?_, fun h a => ⟨fun ⟨low, high⟩ => ?_, fun out => ?_⟩,
    fun q some => ⟨if_neg some, saturations_eq some⟩, fun q none => ⟨?_, if_pos none⟩⟩
  · have scaled : scaleDown 0 (4096 * x) = x := by
      rw [Int.mul_comm]
      exact scaleDown_mul 0 x
    obtain ⟨value, count⟩ := saturated_of_within (scaled.symm ▸ low) (scaled.symm ▸ high)
    exact ⟨value.trans scaled, count⟩
  · obtain ⟨full, more⟩ := scaleDown_fullScale few
    obtain ⟨value, count⟩ := saturated_of_within (h := h) (a := 2 ^ h * (32767 * 4096)) (by omega) (by omega)
    exact ⟨value.trans full, count, saturated_of_outside (.inr more)⟩
  · exact (saturated_of_within low high).2
  · exact saturated_of_outside out
  · rw [UplinkSum.samples, if_pos none]
    rfl

/-- Settles O31: the entries of the snapshot that is formed. -/
theorem shareAndLoad : Obligations.ShareAndLoad := by
  rintro closing m banks sat o i n rfl
  refine ⟨fun r => ⟨fun nowhere => ?_, fun j here => ?_⟩, ?_⟩
  · rw [formSnapshot_share, demandShare_of_none nowhere]
  · rw [formSnapshot_share, demandShare_of_sector here]
    exact ⟨rfl, fun empty => by rw [empty, List.length_nil, Nat.div_zero], mean_le _⟩
  · rw [formSnapshot_load]
    rfl

end Sys2Proof.Proofs
end

section
/-! SUPPORT. Frames on the operator links and the trunk (R2, R5, R22, R24 to R26, R65). -/

namespace Sys2Proof.Machine

/-- A parsed word is bad when its number is not the one that follows in the far end's numbering (R2). -/
theorem followsTerm_eq_false_iff (l : TermLink) (w : Word) : followsTerm l w = false ↔
    ∃ n, l.lastGood = some n ∧ w.lf ≠ (n + 1) % 80 ∧ ¬ (l.state = .seek ∧ l.seekRun = 0) := by
  unfold followsTerm
  cases l.lastGood with
  | none => simp
  | some n =>
    simp only [Bool.or_eq_false_iff, Bool.and_eq_false_imp, decide_eq_true_eq, decide_eq_false_iff_not, wrapNext, Option.some.injEq,
      exists_eq_left', not_and, ne_eq]
    rw [and_comm, and_congr_left_iff]
    exact fun _ => decide_eq_false_iff_not

namespace State

variable {s t : State} {l : TermLinkId} {w : Word}

/-! ## Bad frames -/

theorem operatorFrame_of_bad {o : OpId} {f : TermFrame} (bad : ∀ w, parseWord f.word = some w → followsTerm s.ol[o] w = false) :
    s.operatorFrame o f = s.termBad (.op o) := by
  unfold operatorFrame
  split
  · next w parsed => rw [if_neg (Bool.eq_false_iff.mp (bad w parsed))]
  · rfl

theorem trunkFrame_of_bad {f : TermFrame} (bad : ∀ w, parseWord f.word = some w → followsTerm s.trunk w = false) :
    s.trunkFrame f = s.termBad .trunk := by
  unfold trunkFrame
  split
  · next w parsed => rw [if_neg (Bool.eq_false_iff.mp (bad w parsed))]
  · rfl

theorem termBad_of_seek (seek : (s.term l).state = .seek) : s.termBad l = s.modTerm l fun k => { k with seekRun := 0 } := by
  unfold termBad
  rw [seek]

theorem termBad_of_lost (lost : (s.term l).state = .lost) : s.termBad l = s := by
  unfold termBad
  rw [lost]

/-- The record of an UP link after a bad frame. -/
def countBad (k : TermLink) : TermLink :=
  { k with alignErr := min (k.alignErr + 1) 4294967295, badRun := min (k.badRun + 1) 8 }

/-- On the trunk the message in assembly is cut off (R176). -/
def cutIfTrunk (s : State) (l : TermLinkId) : State :=
  match l with
  | .trunk => s.cutOff
  | .op _ => s

theorem cutIfTrunk_frame (s : State) (l : TermLinkId) : s.cutIfTrunk l = { s with mgmt := (s.cutIfTrunk l).mgmt } := by
  cases l with
  | op o => rfl
  | trunk => exact cutOff_frame s

theorem termBad_of_up (up : (s.term l).state = .up) : s.termBad l = { (s.modTerm l countBad).cutIfTrunk l with
    due := s.due ++ if 7 ≤ (s.term l).badRun then [.linkUpToLost l] else [] } := by
  have record : (s.modTerm l fun t => { t with alignErr := satInc max32 t.alignErr, badRun := min ((s.term l).badRun + 1) badRunLimit })
      = s.modTerm l countBad := by cases l <;> rfl
  have due : ((s.modTerm l countBad).cutIfTrunk l).due = s.due := by rw [cutIfTrunk_frame, modTerm_eq]
  have limit : badRunLimit ≤ min ((s.term l).badRun + 1) badRunLimit ↔ 7 ≤ (s.term l).badRun := by
    rw [badRunLimit]
    omega
  unfold termBad
  rw [up]
  dsimp only
  rw [record]
  show (if _ then ((s.modTerm l countBad).cutIfTrunk l).owe _ else (s.modTerm l countBad).cutIfTrunk l) = _
  generalize (s.modTerm l countBad).cutIfTrunk l = u at *
  simp only [limit]
  split
  · rw [owe, due]
  · rw [List.append_nil, ← due]

theorem cutOff_mgmt (s : State) : s.cutOff.mgmt = { s.mgmt with
    assembly := none
    discards := if s.mgmt.assembly.isSome then min (s.mgmt.discards + 1) 4294967295 else s.mgmt.discards } := by
  unfold cutOff
  split
  · rfl
  · next none =>
    have none : s.mgmt.assembly = Option.none := by simpa using none
    rw [← none]

/-! ## Good frames -/

/-- The record of an operator link or the trunk after a good frame. -/
def countTerm (w : Word) (t : TermLink) : TermLink :=
  { t with
    framesRx := satInc max32 t.framesRx
    lastGood := some w.lf
    seekRun := if t.state = .seek then t.seekRun + 1 else t.seekRun
    badRun := if t.state = .up then 0 else t.badRun }

theorem countTerm_of_up {t : TermLink} (up : t.state = .up) : countTerm w t = { t with
    framesRx := min (t.framesRx + 1) 4294967295, lastGood := some w.lf, badRun := 0 } := by
  rw [countTerm, if_neg (by rw [up]; decide), if_pos up]
  rfl

theorem countTerm_of_not_up {t : TermLink} (down : t.state ≠ .up) : countTerm w t = { t with
    framesRx := min (t.framesRx + 1) 4294967295, lastGood := some w.lf
    seekRun := if t.state = .seek then t.seekRun + 1 else t.seekRun } := by
  rw [countTerm, if_neg down]
  rfl

theorem termGood_eq (s : State) (l : TermLinkId) (w : Word) : s.termGood l w = { s.modTerm l (countTerm w) with
    due := s.due ++ if (s.term l).state = .seek ∧ 3 ≤ (s.term l).seekRun then [.linkSeekToUp l] else [] } := by
  have limit : seekRunLimit ≤ (s.term l).seekRun + 1 ↔ 3 ≤ (s.term l).seekRun := by
    rw [seekRunLimit]
    omega
  unfold termGood
  simp only [limit]
  split
  · cases l <;> rfl
  · rw [List.append_nil]
    cases l <;> rfl

/-- The Timebase at a good frame of an UP link (R25, R26). -/
theorem referenceStart_result (up : (s.term l).state = .up) (b : Bool) :
    s.TimebaseFollows (s.referenceStart l w b) l w b ∧ s.referenceStart l w b = { s with
      tb := (s.referenceStart l w b).tb, sup := (s.referenceStart l w b).sup, due := s.due ++ s.relockOwed l w b } := by
  unfold referenceStart TimebaseFollows relockOwed
  by_cases first : s.isReference l = true ∧ w.lf = 0
  · obtain ⟨reference, zero⟩ := first
    simp only [reference, up, zero, and_self, if_true, true_and]
    cases state : s.tb.state with
    | locked =>
      simp only [reduceCtorEq, if_false, List.append_nil, true_and]
      cases b with
      | true => exact ⟨⟨nofun, fun _ => ⟨rfl, rfl⟩⟩, rfl⟩
      | false =>
        simp only [Bool.false_eq_true, if_false]
        have fault : timingFault s.tb.state = false := by rw [state]; rfl
        refine ⟨⟨fun _ => ⟨setTimebase_tb s _, ?_⟩, fun other => absurd trivial other⟩,
          by rw [setTimebase_tb]; exact setTimebase_eq s _⟩
        unfold setTimebase
        rw [fault]
        exact hand_begin_recorded _ _
    | relocking =>
      simp only [reduceCtorEq, if_true, false_and]
      exact ⟨⟨nofun, fun _ => ⟨rfl, rfl⟩⟩, rfl⟩
    | free => exact ⟨⟨nofun, fun _ => ⟨rfl, rfl⟩⟩, by simp⟩
    | holdover => exact ⟨⟨nofun, fun _ => ⟨rfl, rfl⟩⟩, by simp⟩
  · rw [if_neg fun ⟨reference, _, zero⟩ => first ⟨reference, zero⟩, if_neg fun ⟨reference, zero, _⟩ => first ⟨reference, zero⟩,
      List.append_nil]
    exact ⟨⟨fun ⟨reference, zero, _⟩ => absurd ⟨reference, zero⟩ first, fun _ => ⟨rfl, rfl⟩⟩, rfl⟩

theorem referenceStart_of_not_up (down : (s.term l).state ≠ .up) (b : Bool) : s.referenceStart l w b = s :=
  if_neg fun ⟨_, up, _⟩ => down up

/-! ## Source blocks (R65) -/

/-- The block that an operator's frame brings for a carrier, when it is one of its own. -/
def slotFor (s : State) (o : OpId) (slots : List Byte) (c : CarrierId) : Option SourceBlock :=
  match (s.carrier c).place with
  | some p => if p.op = o then some ⟨c, slotBlock p.slot p.width slots⟩ else none
  | none => none

theorem slotFor_carrier {o : OpId} {slots : List Byte} {c : CarrierId} {b : SourceBlock} (h : s.slotFor o slots c = some b) :
    b.carrier = c := by
  unfold slotFor at h
  split at h
  · split at h
    · cases h
      rfl
    · contradiction
  · contradiction

/-- Of blocks formed one for each carrier, those of one carrier. -/
theorem filter_filterMap_carrier {f : CarrierId → Option SourceBlock} (own : ∀ c b, f c = some b → b.carrier = c)
    {l : List CarrierId} (once : l.Nodup) {c : CarrierId} (mem : c ∈ l) :
    (l.filterMap f).filter (fun b => b.carrier = c) = (f c).toList := by
  have none_of {ds : List CarrierId} (absent : c ∉ ds) : (ds.filterMap f).filter (fun b => b.carrier = c) = [] := by
    rw [List.filter_eq_nil_iff]
    intro b mem
    obtain ⟨d, listed, formed⟩ := List.mem_filterMap.mp mem
    rw [own d b formed]
    simpa using fun same : d = c => absent (same ▸ listed)
  induction l with
  | nil => contradiction
  | cons d ds ih =>
    obtain ⟨absent, once⟩ := List.nodup_cons.mp once
    rw [List.filterMap_cons]
    by_cases same : d = c
    · subst same
      cases formed : f d with
      | none => simpa using none_of absent
      | some b => simpa [own d b formed] using none_of absent
    · have rest := ih once ((List.mem_cons.mp mem).resolve_left fun e => same e.symm)
      cases formed : f d with
      | none => exact rest
      | some b => simpa [own d b formed, same] using rest

theorem takeSlots_incoming (s : State) (o : OpId) (slots : List Byte) : (s.takeSlots o slots).dist.incoming =
    (s.dist.incoming.filter fun b => s.plan.owner b.carrier ≠ some o) ++ allCarriers.filterMap (s.slotFor o slots) := rfl

/-- The carrier's own slot replaces what its operator brought before. -/
theorem takeSlots_own {o : OpId} {c : CarrierId} {p : CarrierPlace} (place : (s.carrier c).place = some p) (own : p.op = o)
    (slots : List Byte) : (s.takeSlots o slots).dist.incoming.filter (fun b => b.carrier = c) =
      [⟨c, slotBlock p.slot p.width slots⟩] := by
  have owner : s.plan.owner c = some o := by rw [PlanStore.owner, ← own]; exact congrArg _ place
  have others : ((s.dist.incoming.filter fun b => s.plan.owner b.carrier ≠ some o).filter fun b => b.carrier = c) = [] := by
    rw [List.filter_eq_nil_iff]
    intro b mem same
    have foreign := (List.mem_filter.mp mem).2
    rw [show b.carrier = c by simpa using same, owner] at foreign
    simp at foreign
  have formed : s.slotFor o slots c = some ⟨c, slotBlock p.slot p.width slots⟩ := by simp only [slotFor, place, own, if_true]
  rw [takeSlots_incoming, List.filter_append, others,
    filter_filterMap_carrier (l := allCarriers) (fun _ _ => slotFor_carrier (s := s) (o := o) (slots := slots))
      (List.nodup_finRange 24) (List.mem_finRange c), formed]
  rfl

/-- A carrier of no or another operator keeps its blocks. -/
theorem takeSlots_foreign {o : OpId} {c : CarrierId} (foreign : s.plan.owner c ≠ some o) (slots : List Byte) :
    (s.takeSlots o slots).dist.incoming.filter (fun b => b.carrier = c) =
      s.dist.incoming.filter fun b => b.carrier = c := by
  have formed : s.slotFor o slots c = none := by
    unfold slotFor
    split
    · next p place =>
      refine if_neg fun own => foreign ?_
      rw [PlanStore.owner, ← own]
      exact congrArg _ place
    · rfl
  rw [takeSlots_incoming, List.filter_append,
    filter_filterMap_carrier (l := allCarriers) (fun _ _ => slotFor_carrier (s := s) (o := o) (slots := slots))
      (List.nodup_finRange 24) (List.mem_finRange c), formed,
    Option.toList_none, List.append_nil, List.filter_filter]
  refine List.filter_congr fun b _ => ?_
  by_cases same : b.carrier = c
  · simp [same, foreign]
  · simp [same]

end State

end Sys2Proof.Machine
end

section
/-! The statements on frames of the operator links and on bad frames of the trunk. -/

namespace Sys2Proof.Proofs

open Sys2Proof.Machine Sys2Proof.Machine.State

/-- Settles O14: a frame that cannot be read or does not follow is a bad frame, and a bad frame acts by the link's state. -/
theorem termBadFrame : Obligations.TermBadFrame := by
  refine ⟨fun s o f quiet bad => ?_, fun s f quiet bad => ?_, followsTerm_eq_false_iff, fun s l quiet => ?_⟩
  · rw [exec_operatorFrame_of_quiet o f quiet, exec_missingTerm_of_quiet _ quiet, operatorFrame_of_bad bad]
  · rw [exec_trunkFrame_of_quiet f quiet, exec_missingTerm_of_quiet _ quiet, trunkFrame_of_bad bad]
  · refine ⟨s.termBad l, exec_missingTerm_of_quiet l quiet, ?_, termBad_of_seek, termBad_of_lost, fun up => ?_⟩
    · cases state : (s.term l).state with
      | seek => rw [termBad_of_seek state, modTerm_same, state]
      | lost => rw [termBad_of_lost state, state]
      | up =>
        have same : (s.termBad l).term l = (s.modTerm l countBad).term l := by
          rw [termBad_of_up state, cutIfTrunk_frame]
          exact term_congr rfl rfl l
        rw [same, modTerm_same, countBad, state]
    · have terms (k : TermLinkId) : (s.termBad l).term k = (s.modTerm l countBad).term k := by
        rw [termBad_of_up up, cutIfTrunk_frame]
        exact term_congr rfl rfl k
      have due : (s.termBad l).due = if 7 ≤ (s.term l).badRun then [.linkUpToLost l] else [] := by
        rw [termBad_of_up up]
        dsimp only
        rw [quiet.2.1, List.nil_append]
      have mgmt : (s.termBad l).mgmt = ((s.modTerm l countBad).cutIfTrunk l).mgmt := by rw [termBad_of_up up]
      refine ⟨fun k other => ?_, ?_, due, ?_, ?_, ?_⟩
      · rw [terms, modTerm_other _ _ other]
      · rw [terms, modTerm_same]
        rfl
      · rintro o rfl
        exact mgmt
      · rintro rfl
        rw [mgmt]
        exact cutOff_mgmt _
      · rw [termBad_of_up up, cutIfTrunk_frame, modTerm_eq]

/-- Settles O13: a good frame on a link that is not UP is counted; on an UP link it brings its slots and may move the
Timebase. -/
theorem operatorFrame : Obligations.OperatorFrame := by
  refine ⟨fun s o f w quiet down parsed follows => ?_, fun s o f w quiet up parsed follows => ?_⟩
  · have down' : (s.term (.op o)).state ≠ .up := down
    have heard : s.operatorFrame o f = s.termGood (.op o) w := by
      unfold State.operatorFrame
      rw [parsed]
      dsimp only
      rw [if_pos follows, if_neg down, referenceStart_of_not_up down']
    rw [exec_operatorFrame_of_quiet o f quiet, heard, termGood_eq, quiet.2.1, List.nil_append, ← countTerm_of_not_up down]
    rfl
  · have up' : (s.term (.op o)).state = .up := up
    have heard : s.operatorFrame o f = ((s.referenceStart (.op o) w f.atBoundary).termGood (.op o) w).takeSlots o f.slots := by
      unfold State.operatorFrame
      rw [parsed]
      dsimp only
      rw [if_pos follows, if_pos up]
    obtain ⟨timebase, frame⟩ := referenceStart_result (w := w) up' f.atBoundary
    have idle : (s.term (.op o)).state ≠ .seek := by rw [up']; decide
    refine ⟨_, exec_operatorFrame_of_quiet o f quiet, ?_⟩
    rw [heard]
    generalize s.referenceStart (.op o) w f.atBoundary = u at *
    have term : u.term (.op o) = s.term (.op o) := by rw [frame]; exact term_congr rfl rfl _
    have links : u.ol = s.ol := by rw [frame]
    have dist : u.dist = s.dist := by rw [frame]
    have plan : u.plan = s.plan := by rw [frame]
    have due : u.due = s.relockOwed (.op o) w f.atBoundary := by rw [frame, quiet.2.1]; rfl
    have counted : u.termGood (.op o) w = { u with ol := s.ol.set o { s.ol[o] with
        framesRx := min (s.ol[o].framesRx + 1) 4294967295, lastGood := some w.lf, badRun := 0 } } := by
      rw [termGood_eq, term, if_neg fun ⟨seek, _⟩ => idle seek, List.append_nil]
      show { u with ol := u.ol.set o (countTerm w u.ol[o]) } = _
      rw [links, countTerm_of_up up]
    rw [counted]
    generalize record : { s.ol[o] with framesRx := min (s.ol[o].framesRx + 1) 4294967295, lastGood := some w.lf, badRun := 0 } = k
    refine ⟨timebase, ?_, fun c p place own => ?_, fun c foreign => ?_, fun p other => ?_, ?_⟩
    · show (s.ol.set o k)[o] = k
      simp
    · exact takeSlots_own (s := { u with ol := s.ol.set o k }) (by rw [carrier, plan]; exact place) own f.slots
    · rw [takeSlots_foreign (s := { u with ol := s.ol.set o k }) (by rw [plan]; exact foreign), dist]
    · have ne : o.val ≠ p.val := fun same => other (Fin.ext same.symm)
      show (s.ol.set o k)[p] = s.ol[p]
      simp [ne]
    · rw [takeSlots, frame, quiet.2.1]
      rfl

end Sys2Proof.Proofs
end

section
/-! SUPPORT. The message assembly (R24, R176, R177). -/

namespace Sys2Proof.Machine

/-- Two bytes are the value that they are read as. -/
theorem unsigned_two {l : List Byte} (two : l.length = 2) {n : Nat} (small : n < 65536) : unsigned l = n ↔ l = u16 n := by
  obtain ⟨a, b, rfl⟩ := List.length_eq_two.mp two
  have smallA := a.isLt
  have smallB := b.isLt
  simp only [unsigned, List.foldl_cons, List.foldl_nil, u16, List.cons.injEq, and_true, ← BitVec.toNat_inj, byte, BitVec.toNat_ofNat]
  omega

namespace State

variable {s : State} {bytes : List Byte} {w : Word}

/-- The channels without their message in assembly, which is counted as discarded (R177). -/
def discarded (g : Management) : Management := { g with assembly := none, discards := min (g.discards + 1) 4294967295 }

/-- The check value of a message whose bytes are all there is right (R177). -/
def CheckRight (bytes : List Byte) : Prop :=
  (bytes.drop ((bytes.getD 3 0).toNat + 4)).take 2 = u16 (crc (bytes.take ((bytes.getD 3 0).toNat + 4))).toNat

theorem getD_of_short (short : bytes.length < 4) : (bytes.getD 3 0).toNat = 0 := by
  rw [List.getD_eq_default _ _ (by omega)]
  rfl

theorem assemble_of_partial (short : bytes.length < (bytes.getD 3 0).toNat + 6) (fits : (bytes.getD 3 0).toNat + 6 ≤ 256) :
    s.assemble bytes = { s with mgmt := { s.mgmt with assembly := some bytes } } := by
  unfold assemble
  split
  · rfl
  · dsimp only
    rw [if_neg (by omega), if_pos short]

theorem assemble_of_oversized (large : 256 < (bytes.getD 3 0).toNat + 6) : s.assemble bytes = { s with mgmt := discarded s.mgmt } := by
  unfold assemble
  rw [if_neg fun short => by rw [getD_of_short short] at large; omega]
  dsimp only
  rw [if_pos large]
  rfl

section
variable (all : (bytes.getD 3 0).toNat + 6 ≤ bytes.length) (fits : (bytes.getD 3 0).toNat + 6 ≤ 256)
include all

theorem checkRight_iff : (crc (bytes.take ((bytes.getD 3 0).toNat + 4))).toNat =
    unsigned ((bytes.drop ((bytes.getD 3 0).toNat + 4)).take 2) ↔ CheckRight bytes := by
  rw [eq_comm, unsigned_two _ (crc _).isLt, CheckRight]
  rw [List.length_take, List.length_drop]
  omega

include fits

theorem assemble_of_wrong (wrong : ¬ CheckRight bytes) : s.assemble bytes = { s with mgmt := discarded s.mgmt } := by
  unfold assemble
  rw [if_neg (by omega)]
  dsimp only
  rw [if_neg (by omega), if_neg (by omega), if_neg (mt (checkRight_iff all).mp wrong)]
  rfl

theorem assemble_of_right (right : CheckRight bytes) : s.assemble bytes = { s with
    mgmt := { s.mgmt with assembly := none }
    due := s.due ++ [decodeRequest (bytes.getD 2 0) (bytes.getD 0 0) (bytes.getD 1 0)
      ((bytes.drop 4).take (bytes.getD 3 0).toNat)] } := by
  unfold assemble
  rw [if_neg (by omega)]
  dsimp only
  rw [if_neg (by omega), if_neg (by omega), if_pos ((checkRight_iff all).mpr right)]
  rfl

end

/-! ## Delivery (R176) -/

/-- The channels once a message in assembly has been cut off. -/
def cut (g : Management) : Management := if g.assembly.isSome then discarded g else g

theorem cutOff_eq (s : State) : s.cutOff = { s with mgmt := cut s.mgmt } := by
  unfold cutOff cut
  split <;> rfl

theorem deliver_of_start (start : w.type = typeMgmtStart) : s.deliver w = { s with mgmt := cut s.mgmt }.assemble w.payload := by
  rw [deliver, if_pos start, cutOff_eq]

theorem deliver_of_cont (cont : w.type = typeMgmtCont) (inside : s.mgmt.assembly = some bytes) :
    s.deliver w = s.assemble (bytes ++ w.payload) := by
  unfold deliver
  rw [if_neg (by rw [cont]; decide), if_pos cont]
  simp only [inside]

theorem deliver_of_stray (cont : w.type = typeMgmtCont) (outside : s.mgmt.assembly = none) : s.deliver w = s := by
  unfold deliver
  rw [if_neg (by rw [cont]; decide), if_pos cont]
  simp only [outside]

theorem deliver_of_other (start : w.type ≠ typeMgmtStart) (cont : w.type ≠ typeMgmtCont) :
    s.deliver w = { s with mgmt := cut s.mgmt } := by
  rw [deliver, if_neg start, if_neg cont, cutOff_eq]

theorem cut_assembly (g : Management) : { cut g with assembly := none } = cut g := by
  unfold cut
  split
  · rfl
  · next none =>
    have none : g.assembly = Option.none := by simpa using none
    rw [← none]

/-- A whole ABORT in one word has the right check value, and names ABORT. -/
theorem abort_whole (ch tag : Byte) : CheckRight (withCheck [ch, tag, 0x7F, 0x00] ++ [0, 0, 0, 0]) := by
  simp [CheckRight, withCheck, u16]

end State

end Sys2Proof.Machine
end

section
/-! The statement on good frames of the trunk. -/

namespace Sys2Proof.Proofs

open Sys2Proof.Machine Sys2Proof.Machine.State

/-- Settles O6: a good frame is counted and may move the Timebase, and an UP trunk delivers its word by type, message in
assembly, length and check value. -/
theorem trunkFrame : Obligations.TrunkFrame := by
  refine ⟨fun s f w quiet down parsed follows => ?_, fun s f w quiet up parsed follows => ?_⟩
  · have down' : (s.term .trunk).state ≠ .up := down
    have heard : s.trunkFrame f = s.termGood .trunk w := by
      unfold State.trunkFrame
      rw [parsed]
      dsimp only
      rw [if_pos follows, if_neg down, referenceStart_of_not_up down']
    rw [exec_trunkFrame_of_quiet f quiet, heard, termGood_eq, quiet.2.1, List.nil_append, ← countTerm_of_not_up down]
    rfl
  · intro discarded' cut' leaves assembled
    have up' : (s.term .trunk).state = .up := up
    have heard : s.trunkFrame f = ((s.referenceStart .trunk w f.atBoundary).termGood .trunk w).deliver w := by
      unfold State.trunkFrame
      rw [parsed]
      dsimp only
      rw [if_pos follows, if_pos up]
    obtain ⟨timebase, frame⟩ := referenceStart_result (w := w) up' f.atBoundary
    have run := exec_trunkFrame_of_quiet f quiet
    rw [heard] at run
    generalize s.referenceStart .trunk w f.atBoundary = u at *
    have counted : u.termGood .trunk w = { u with trunk := { s.trunk with
        framesRx := min (s.trunk.framesRx + 1) 4294967295, lastGood := some w.lf, badRun := 0 } } := by
      have trunk : u.trunk = s.trunk := by rw [frame]
      have idle : (u.term .trunk).state ≠ .seek := by
        show u.trunk.state ≠ .seek
        rw [trunk, up]
        decide
      rw [termGood_eq, if_neg fun ⟨seek, _⟩ => idle seek, List.append_nil]
      show { u with trunk := countTerm w u.trunk } = _
      rw [trunk, countTerm_of_up up]
    rw [counted] at run
    generalize record : { s.trunk with framesRx := min (s.trunk.framesRx + 1) 4294967295, lastGood := some w.lf, badRun := 0 } = k at *
    have mgmt : u.mgmt = s.mgmt := by rw [frame]
    have due : u.due = s.relockOwed .trunk w f.atBoundary := by rw [frame, quiet.2.1]; rfl
    have left {g : Management} {taken : List Instr}
        (delivered : { u with trunk := k }.deliver w = { u with trunk := k, mgmt := g, due := u.due ++ taken }) : leaves g taken := by
      refine ⟨_, run.trans (congrArg _ delivered), timebase, ?_⟩
      rw [due, frame, ← record]
    have assembles {g : Management} {bytes : List Byte}
        (delivered : { u with trunk := k }.deliver w = { u with trunk := k, mgmt := g }.assemble bytes) : assembled g bytes := by
      refine ⟨fun fits short => left ?_, fun large => left ?_, fun fits all wrong => left ?_, fun fits all right => left ?_⟩
      · rw [delivered, assemble_of_partial short fits, List.append_nil]
      · rw [delivered, assemble_of_oversized large, List.append_nil]
        rfl
      · rw [delivered, assemble_of_wrong all fits wrong, List.append_nil]
        rfl
      · rw [delivered, assemble_of_right all fits right]
    have cut_eq : cut u.mgmt = cut' := by rw [mgmt]; rfl
    have start (begins : w.type = typeMgmtStart) : assembled cut' w.payload :=
      assembles (by rw [deliver_of_start begins, ← cut_eq])
    refine ⟨fun noStart noCont => left ?_, start, fun cont outside => left ?_, fun bytes cont inside => assembles ?_,
      fun ch tag begins whole => ?_⟩
    · rw [deliver_of_other noStart noCont, List.append_nil, ← cut_eq]
    · rw [deliver_of_stray cont (by rw [mgmt]; exact outside), List.append_nil, ← mgmt]
    · rw [deliver_of_cont cont (bytes := bytes) (by rw [mgmt]; exact inside), ← mgmt]
    · obtain ⟨-, -, -, taken⟩ := start begins
      rw [whole] at taken
      have taken := taken (by show 0 + 6 ≤ 256; decide) (by show 0 + 6 ≤ 10; decide) (abort_whole ch tag)
      rwa [show { cut' with assembly := none } = cut' from cut_assembly s.mgmt] at taken

end Sys2Proof.Proofs
end

section
/-! SUPPORT. Good frames on a remote link that take no block: in SEEK, NEGOTIATE, LOST, MISMATCH and ISOLATED (R6 to R9, R11,
R13, R16), and what a far-end flag does (R14). -/

namespace Sys2Proof.Machine.State

variable {s : State} {r : RemoteId} {w : Word} {f : RemoteFrame} {p : List Byte}

theorem remoteFrame_of_off (off : s.rl[r].state = .off) : s.remoteFrame r f = s := if_pos off

theorem remoteFrame_of_good (on : s.rl[r].state ≠ .off) (parsed : parseWord f.word = some w)
    (follows : followsRemote s.rl[r] w = true) : s.remoteFrame r f = s.remoteGood r w f.payload := by
  unfold remoteFrame
  rw [if_neg on, parsed]
  exact if_pos follows

theorem remoteBad_of_off (off : s.rl[r].state = .off) : s.remoteBad r = s := by
  unfold remoteBad
  simp only [off]

theorem remoteFrame_of_bad (bad : ∀ w, parseWord f.word = some w → followsRemote s.rl[r] w = false) :
    s.remoteFrame r f = s.remoteBad r := by
  by_cases off : s.rl[r].state = .off
  · rw [remoteFrame_of_off off, remoteBad_of_off off]
  · unfold remoteFrame
    rw [if_neg off]
    split
    · next w parsed => rw [if_neg (Bool.eq_false_iff.mp (bad w parsed))]
    · rfl

theorem followsRemote_eq_false_iff (l : RemoteLink) (w : Word) : followsRemote l w = false ↔
    ∃ g, l.lastGood = some g ∧ w.lf ≠ g.successor ∧ ¬ (l.state = .seek ∧ l.seekRun = 0) := by
  unfold followsRemote
  cases l.lastGood with
  | none => simp
  | some g =>
    simp only [Bool.or_eq_false_iff, Bool.and_eq_false_imp, decide_eq_true_eq, Option.some.injEq, exists_eq_left', not_and, ne_eq]
    rw [and_comm, and_congr decide_eq_false_iff_not]
    exact imp_congr_right fun _ => decide_eq_false_iff_not

/-! ## Counting -/

theorem modRl_self (s : State) (r : RemoteId) : s.modRl r id = s := by
  unfold modRl
  simp

/-- The frame that was due is counted: the next one answers some later hub link frame. -/
theorem countAnswer_eq (s : State) (r : RemoteId) : ∃ n, s.countAnswer r = s.modRl r fun l => { l with nextAnswer := n } := by
  unfold countAnswer
  split
  · exact ⟨s.rl[r].nextAnswer + 1, rfl⟩
  · refine ⟨s.rl[r].nextAnswer, ?_⟩
    exact (modRl_self s r).symm

theorem hearGood_eq (s : State) (r : RemoteId) (w : Word) : s.hearGood r w = { s.modRl r (countGood s.tb w) with
    due := s.due ++ if s.rl[r].state = .seek ∧ 3 ≤ s.rl[r].seekRun then [.seekRunComplete r] else [] } := by
  have limit : seekRunLimit ≤ s.rl[r].seekRun + 1 ↔ 3 ≤ s.rl[r].seekRun := by
    rw [seekRunLimit]
    omega
  unfold hearGood
  simp only [limit]
  split
  · rfl
  · rw [List.append_nil]
    rfl

theorem hearGood_history (s : State) (r : RemoteId) (w : Word) : (s.hearGood r w).tb = s.tb := by rw [hearGood_frame]

theorem countGood_of_idle {l : RemoteLink} (idle : l.state ≠ .negotiate ∧ l.state ≠ .up) (tb : Timebase) (w : Word) :
    countGood tb w l = { l with
      framesRx := min (l.framesRx + 1) 4294967295, lastGood := some (tb.goodFrame w)
      seekRun := if l.state = .seek then l.seekRun + 1 else l.seekRun } := by
  rw [countGood, if_neg (c := _ ∨ _) fun h => h.elim idle.1 idle.2]
  rfl

theorem countGood_of_open {l : RemoteLink} (open' : l.state = .negotiate ∨ l.state = .up) (tb : Timebase) (w : Word) :
    countGood tb w l = { l with
      framesRx := min (l.framesRx + 1) 4294967295, lastGood := some (tb.goodFrame w), badRun := 0 } := by
  rw [countGood, if_pos open', if_neg fun h => by simp [h] at open']
  rfl

/-- A good frame on a link that neither negotiates nor is UP is counted, and changes nothing else. -/
theorem remoteGood_of_idle (idle : s.rl[r].state ≠ .negotiate ∧ s.rl[r].state ≠ .up) : ∃ n, s.remoteGood r w p =
    { s.modRl r fun l => { countGood s.tb w l with nextAnswer := n } with
      due := s.due ++ if s.rl[r].state = .seek ∧ 3 ≤ s.rl[r].seekRun then [.seekRunComplete r] else [] } := by
  have counted (n : Nat) : ((s.hearGood r w).modRl r fun l => { l with nextAnswer := n }) =
      { s.modRl r fun l => { countGood s.tb w l with nextAnswer := n } with
        due := s.due ++ if s.rl[r].state = .seek ∧ 3 ≤ s.rl[r].seekRun then [.seekRunComplete r] else [] } := by
    have both := modRl_modRl s r (countGood s.tb w) fun l => { l with nextAnswer := n }
    rw [hearGood_eq, ← both]
    rfl
  rw [remoteGood_eq]
  split
  · obtain ⟨n, e⟩ := countAnswer_eq (s.hearGood r w) r
    exact ⟨n, e.trans (counted n)⟩
  · next a _ =>
    have read : (s.hearGood r w).readWord r s.rl[r].state w a p = s.hearGood r w := by
      unfold readWord
      split
      · next state => exact absurd state idle.1
      · next state => exact absurd state idle.2
      · rfl
    rw [read]
    exact ⟨a.label + 1, counted _⟩

/-- A good frame in NEGOTIATE that answers a hub link frame with link frame 0: its word is read (R7, R8). -/
theorem remoteGood_of_negotiate {a : HubFrame} (negotiate : s.rl[r].state = .negotiate) (first : w.lf = 0)
    (answers : answered s.tb.history w.low 0 = some a) : s.remoteGood r w p =
      ((s.modRl r (countGood s.tb w)).negotiateWord r w).modRl r fun l => { l with nextAnswer := a.label + 1 } := by
  have heard : s.hearGood r w = s.modRl r (countGood s.tb w) := by
    rw [hearGood_eq, if_neg fun ⟨seek, _⟩ => by rw [negotiate] at seek; contradiction, List.append_nil]
    rfl
  have answers : answered (s.hearGood r w).tb.history w.low w.lf = some a := by rw [hearGood_history, first, answers]
  rw [remoteGood_eq, answers, negotiate]
  dsimp only [readWord]
  rw [if_pos first, heard]

/-! ## The words of NEGOTIATE -/

theorem formatOfCode_eq_some_iff {b : Byte} {c : Format} : formatOfCode b = some c ↔ b = formatCode (some c) := by
  unfold formatOfCode
  constructor
  · intro h
    split at h
    · next one => cases h; exact one
    · split at h
      · next two => cases h; exact two
      · split at h
        · next three => cases h; exact three
        · contradiction
  · rintro rfl
    cases c <;> rfl

/-- A STATUS word in ORDERED confirms the chosen format when it echoes it (R8). -/
theorem negotiateWord_of_ordered {c : Format} (ordered : s.rl[r].phase = .ordered) (chosen : s.rl[r].chosen = some c)
    (status : w.type = typeStatus) : s.negotiateWord r w = s.modRl r fun l =>
      { l with phase := if w.payload.getD 2 0 = formatCode (some c) then .confirmed else .ordered } := by
  unfold negotiateWord
  rw [ordered]
  simp only [status, chosen, true_and, ne_eq, reduceCtorEq, not_false_eq_true, formatOfCode_eq_some_iff]
  split
  · rfl
  · rw [← ordered]
    exact (modRl_self s r).symm

/-- The fields of a CAPABILITY word (R197). -/
def capabilityOf (w : Word) : Capability where
  formats := formatSetOf (w.payload.getD 0 0)
  serial := BitVec.ofNat 32 (unsigned ((w.payload.drop 1).take 4))
  hint := clamp 1 4000 (unsigned ((w.payload.drop 5).take 2))

theorem negotiateWord_of_capability (awaits : s.rl[r].phase = .awaitCapability) (capability : w.type = typeCapability) :
    s.negotiateWord r w = s.capabilityWord r w := by
  unfold negotiateWord
  rw [awaits]
  exact if_pos capability

theorem capabilityWord_of_format {c : Format} (common : (capabilityOf w).formats.choose s.rl[r].offered = some c) :
    s.capabilityWord r w = s.modRl r fun l => { l with capability := some (capabilityOf w), phase := .ordered, chosen := some c } := by
  unfold capabilityWord
  dsimp only [capabilityOf] at *
  rw [common]

theorem capabilityWord_of_mismatch (none : (capabilityOf w).formats.choose s.rl[r].offered = Option.none) :
    s.capabilityWord r w = (s.modRl r fun l =>
      { l with capability := some (capabilityOf w), state := .mismatch, phase := .none, chosen := Option.none }).raise
        ⟨.linkMismatch, .remote r⟩ := by
  unfold capabilityWord
  dsimp only [capabilityOf] at *
  rw [none]

theorem unsigned_lt (l : List Byte) : unsigned l < 256 ^ l.length := by
  have run : ∀ (l : List Byte) (n : Nat), l.foldl (fun n (b : Byte) => 256 * n + b.toNat) n < (n + 1) * 256 ^ l.length := by
    intro l
    induction l with
    | nil => simp
    | cons b l ih =>
      intro n
      have small := b.isLt
      calc _ < (256 * n + b.toNat + 1) * 256 ^ l.length := ih _
        _ ≤ ((n + 1) * 256) * 256 ^ l.length := Nat.mul_le_mul_right _ (by omega)
        _ = (n + 1) * 256 ^ (b :: l).length := by rw [List.length_cons, Nat.pow_succ, Nat.mul_assoc, Nat.mul_comm 256]
  have whole := run l 0
  rwa [Nat.zero_add, Nat.one_mul] at whole

/-! ## A far-end flag changes (R14) -/

theorem holds_farKind (s : State) (r : RemoteId) (i : Fin 4) : s.holds ⟨farKind i, .remote r⟩ = s.rl[r].flags[i].present := by
  revert i
  rw [Fin.forall_fin_succ, Fin.forall_fin_succ, Fin.forall_fin_succ, Fin.forall_fin_one]
  exact ⟨rfl, rfl, rfl, rfl⟩

theorem hand_not (s : State) (key : Key) (b : Bool) : s.hand key b (!b) = if !b then s.raise key else s.clear key := by
  cases b <;> rfl

theorem farFlagChange_of_due {i : Fin 4} (up : s.rl[r].state = .up) (run : 3 ≤ s.rl[r].flags[i].run) : s.farFlagChange r i =
    (s.modRl r fun l => { l with flags := l.flags.set i ⟨!s.rl[r].flags[i].present, 0⟩ }).hand ⟨farKind i, .remote r⟩
      s.rl[r].flags[i].present (!s.rl[r].flags[i].present) := by
  unfold farFlagChange
  dsimp only [FarFlag.change]
  rw [if_pos ⟨up, run⟩]
  exact (hand_not _ _ _).symm

end Sys2Proof.Machine.State
end

section
/-! The statements on frames in SEEK and on CAPABILITY words. -/

namespace Sys2Proof.Proofs

open Sys2Proof.Machine Sys2Proof.Machine.State

/-- Settles O11: a link in OFF hears nothing; any other that does not negotiate and is not UP counts the frame. -/
theorem seekFrame : Obligations.SeekFrame := by
  intro s r f quiet
  have heard (w : Word) (idle : s.rl[r].state ≠ .negotiate ∧ s.rl[r].state ≠ .up) (on : s.rl[r].state ≠ .off)
      (parsed : parseWord f.word = some w) (follows : followsRemote s.rl[r] w = true) : ∃ n, s.remoteFrame r f =
        { s.modRl r fun l => { countGood s.tb w l with nextAnswer := n } with
          due := if s.rl[r].state = .seek ∧ 3 ≤ s.rl[r].seekRun then [.seekRunComplete r] else [] } := by
    obtain ⟨n, e⟩ := remoteGood_of_idle (w := w) (p := f.payload) idle
    rw [quiet.2.1, List.nil_append] at e
    exact ⟨n, (remoteFrame_of_good on parsed follows).trans e⟩
  refine ⟨fun off => ?_, fun w seek parsed follows => ?_, fun w states parsed follows => ?_⟩
  · rw [exec_remoteFrame_of_quiet r f quiet, remoteFrame_of_off off]
  · have idle : s.rl[r].state ≠ .negotiate ∧ s.rl[r].state ≠ .up := by rw [seek]; decide
    obtain ⟨n, e⟩ := heard w idle (by rw [seek]; decide) parsed follows
    refine ⟨_, exec_remoteFrame_of_quiet r f quiet, ?_⟩
    rw [e]
    refine ⟨?_, ?_, fun q other => by dsimp only; exact modRl_other s _ other, rfl⟩
    · rw [modRl_same, countGood_of_idle idle, if_pos seek]
    · simp only [seek, true_and]
  · have idle : s.rl[r].state ≠ .negotiate ∧ s.rl[r].state ≠ .up := by rcases states with h | h | h <;> rw [h] <;> decide
    have notSeek : s.rl[r].state ≠ .seek := by rcases states with h | h | h <;> rw [h] <;> decide
    obtain ⟨n, e⟩ := heard w idle (by rcases states with h | h | h <;> rw [h] <;> decide) parsed follows
    refine ⟨_, exec_remoteFrame_of_quiet r f quiet, ?_⟩
    rw [e, if_neg fun ⟨seek, _⟩ => notSeek seek]
    refine ⟨?_, fun q other => by dsimp only; exact modRl_other s _ other, by rw [← quiet.2.1]; rfl⟩
    rw [modRl_same, countGood_of_idle idle, if_neg notSeek]

/-- Settles O12: by whether the two sets have a format in common. -/
theorem capabilityChoosesFormat : Obligations.CapabilityChoosesFormat := by
  intro s r f w quiet negotiate awaits parsed capability first follows answers
  obtain ⟨a, answers⟩ := Option.isSome_iff_exists.mp answers
  have heard : s.remoteFrame r f = ((s.modRl r (countGood s.tb w)).capabilityWord r w).modRl r fun l =>
      { l with nextAnswer := a.label + 1 } := by
    rw [remoteFrame_of_good (by rw [negotiate]; decide) parsed follows, remoteGood_of_negotiate negotiate first answers,
      negotiateWord_of_capability (by rw [modRl_same]; exact awaits) capability]
  have offered : (s.modRl r (countGood s.tb w)).rl[r].offered = s.rl[r].offered := by rw [modRl_same]; rfl
  have serial : (capabilityOf w).serial.toNat = unsigned ((w.payload.drop 1).take 4) := by
    have bound : unsigned ((w.payload.drop 1).take 4) < 2 ^ 32 :=
      (unsigned_lt _).trans_le (Nat.pow_le_pow_right (n := 256) (by omega) (List.length_take_le ..))
    exact Nat.mod_eq_of_lt bound
  refine ⟨_, capabilityOf w, exec_remoteFrame_of_quiet r f quiet, ?_⟩
  rw [heard]
  cases common : (capabilityOf w).formats.choose s.rl[r].offered with
  | some c =>
    rw [capabilityWord_of_format (by rw [offered]; exact common), modRl_modRl, modRl_modRl]
    refine ⟨by rw [modRl_same], rfl, serial, rfl, fun d same => ?_, nofun, fun q other => modRl_other s _ other, rfl⟩
    rw [modRl_same]
    exact ⟨negotiate, rfl, same, rfl⟩
  | none =>
    rw [capabilityWord_of_mismatch (by rw [offered]; exact common), modRl_modRl]
    refine ⟨by rw [modRl_same, raise_rl, modRl_same], rfl, serial, rfl, nofun, fun _ => ⟨?_, ?_, ?_⟩, fun q other => ?_, rfl⟩
    · rw [modRl_same, raise_rl, modRl_same]
    · refine decide_eq_true ?_
      rw [modRl_same, raise_rl, modRl_same]
    · exact (raise_recorded _ _).of_sup rfl
    · rw [modRl_other _ _ other, raise_rl, modRl_other _ _ other]

end Sys2Proof.Proofs
end

section
/-! SUPPORT. Settling blocks one by one (R77, R78, R80, R81, R83): what a block does besides the sums, and what it does to the
sum that waits for it. -/

namespace Sys2Proof.Machine

/-- A block that is settled: the sum and the remote it belongs to, and its samples, none when it is missing. -/
structure Block where
  sum : UplinkSum
  source : Expected
  samples : Option (List IQ)

/-- The level of a block (R80). -/
def Block.level (x : Block) : Nat :=
  match x.samples with
  | some xs => blockLevel (expandBlock x.source.format xs)
  | none => 0

/-- The block comes to the gate of a remote and carrier. -/
def Block.At (x : Block) (r : RemoteId) (c : CarrierId) : Prop := x.source.remote = r ∧ x.sum.carrier = c

/-- The update of a gate with a block's level. -/
def Block.update (x : Block) (g : Gate) : GateStep := g.update x.level x.sum.levels.gate x.sum.levels.hold

namespace State

/-- A block is counted: its activity and peak, or that it is missing. -/
def noteBlock (s : State) (x : Block) : State :=
  match x.samples with
  | some _ => s.measureBlock x.sum x.source.remote x.level
  | none => s.modRl x.source.remote fun l => { l with missing := satInc max32 l.missing }

/-- What a block does to its gate, an expiry that is owed coming first. -/
def gateStep (s : State) (x : Block) : GateStep :=
  x.update ((s.takeExpiry x.source.remote x.sum.carrier).gate x.source.remote x.sum.carrier)

/-- Everything that settling a block does besides the sums. -/
def countBlock (s : State) (x : Block) : State :=
  let t := ((s.takeExpiry x.source.remote x.sum.carrier).noteBlock x).setGate x.source.remote x.sum.carrier (s.gateStep x).gate
  if (s.gateStep x).expires then t.owe [.gateHoldExpiry x.source.remote x.sum.carrier] else t

/-- A state without its sums, their outputs and saturation counts. -/
def besideSums (s : State) : State :=
  { s with comb := { s.comb with sums := [], outputs := [], sat := reset.comb.sat } }

/-! ## What settling does besides the sums does not look at them -/

theorem noteBlock_comb (s : State) (x : Block) : (s.noteBlock x).comb = s.comb := by
  unfold noteBlock measureBlock
  cases x.samples with
  | none => rfl
  | some xs => dsimp only; split <;> rfl

theorem takeExpiry_besideSums (s : State) (r : RemoteId) (c : CarrierId) :
    (s.takeExpiry r c).besideSums = s.besideSums.takeExpiry r c := by
  unfold takeExpiry
  have due : s.besideSums.due = s.due := rfl
  rw [due]
  split <;> rfl

theorem noteBlock_besideSums (s : State) (x : Block) : (s.noteBlock x).besideSums = s.besideSums.noteBlock x := by
  have held : s.besideSums.heldOver x.sum = s.heldOver x.sum := rfl
  unfold noteBlock measureBlock
  rw [held]
  cases x.samples with
  | none => rfl
  | some xs => dsimp only; split <;> rfl

theorem gateStep_besideSums (s : State) (x : Block) : s.besideSums.gateStep x = s.gateStep x := by
  unfold gateStep
  rw [← takeExpiry_besideSums]
  rfl

theorem countBlock_besideSums (s : State) (x : Block) : (s.countBlock x).besideSums = s.besideSums.countBlock x := by
  unfold countBlock
  rw [gateStep_besideSums, ← takeExpiry_besideSums, ← noteBlock_besideSums]
  dsimp only
  split <;> rfl

theorem countBlock_sums (s : State) (x : Block) : (s.countBlock x).comb.sums = s.comb.sums ∧
    (s.countBlock x).comb.outputs = s.comb.outputs ∧ (s.countBlock x).comb.sat = s.comb.sat := by
  have expired (r : RemoteId) (c : CarrierId) : (s.takeExpiry r c).comb.sums = s.comb.sums ∧
      (s.takeExpiry r c).comb.outputs = s.comb.outputs ∧ (s.takeExpiry r c).comb.sat = s.comb.sat := by
    unfold takeExpiry
    split <;> exact ⟨rfl, rfl, rfl⟩
  have noted := expired x.source.remote x.sum.carrier
  rw [← noteBlock_comb _ x] at noted
  unfold countBlock
  dsimp only
  split <;> exact noted

/-! ## The sum that waits for a block -/

/-- Saturations are counted into the sectors' counts (R87, R88). -/
def countSaturations (v : Vector Nat 32) (formed : List UplinkSum) : Vector Nat 32 :=
  formed.foldl (fun v q => v.set q.sector (min (v[q.sector] + q.saturations) max16)) v

/-- The output of a formed sum. -/
def outputOf (q : UplinkSum) : SumOutput := ⟨q.label, q.carrier, q.place, q.samples⟩

/-- Among sums of different carriers or link frames, the one found by its own is itself. -/
theorem find_sum {l : List UplinkSum} {q : UplinkSum} {e : Expected} (once : (l.map fun q => (q.label, q.carrier)).Nodup)
    (mem : q ∈ l) (waits : e ∈ q.waiting) :
    (l.find? fun p => p.is q.label q.carrier && p.waiting.any fun x => x.remote = e.remote) = some q := by
  have some' : (l.find? fun p => p.is q.label q.carrier && p.waiting.any fun x => x.remote = e.remote).isSome = true := by
    refine List.find?_isSome.mpr ⟨q, mem, ?_⟩
    simp only [Bool.and_eq_true, UplinkSum.is_iff, List.any_eq_true, decide_eq_true_eq, and_self, true_and]
    exact ⟨e, waits, rfl⟩
  obtain ⟨p, found⟩ := Option.isSome_iff_exists.mp some'
  have is := List.find?_some found
  rw [Bool.and_eq_true] at is
  obtain ⟨label, carrier⟩ := (p.is_iff ..).mp is.1
  rw [found, List.inj_on_of_nodup_map once (List.mem_of_find?_eq_some found) mem (Prod.ext label carrier)]

theorem find_source {q : UplinkSum} {e : Expected} (once : (q.waiting.map (·.remote)).Nodup) (mem : e ∈ q.waiting) :
    (q.waiting.find? fun x => x.remote = e.remote) = some e := by
  have some' : (q.waiting.find? fun x => x.remote = e.remote).isSome = true :=
    List.find?_isSome.mpr ⟨e, mem, decide_eq_true rfl⟩
  obtain ⟨x, found⟩ := Option.isSome_iff_exists.mp some'
  have same := List.find?_some found
  rw [found, List.inj_on_of_nodup_map once (List.mem_of_find?_eq_some found) mem (of_decide_eq_true same)]

/-- Blocks settled one after another, in all but the sums. -/
def Beside (s t : State) (blocks : List Block) : Prop := t.besideSums = blocks.foldl countBlock s.besideSums

/-- Blocks that are settled leave their sums in their place, and those that wait for no block any more are formed. -/
structure Settles (s t : State) (pre qs post : List UplinkSum) (blocks : List Block) : Prop where
  sums : t.comb.sums = pre ++ (qs.filter fun p => !p.waiting.isEmpty) ++ post
  outputs : t.comb.outputs = s.comb.outputs ++ (qs.filter fun p => p.waiting.isEmpty && !p.discard).map outputOf
  sat : t.comb.sat = countSaturations s.comb.sat (qs.filter fun p => p.waiting.isEmpty)
  rest : Beside s t blocks

variable {s : State} {x : Block} {pre post : List UplinkSum}

theorem SumsFormed.mem_once (formed : s.SumsFormed) {q : UplinkSum} (mem : q ∈ s.comb.sums) :
    (q.waiting.map (·.remote)).Nodup := (formed.2.1 q mem).2.1

theorem SumsFormed.waits (formed : s.SumsFormed) {l : List UplinkSum} (sub : l ⊆ s.comb.sums) :
    (l.filter fun p => !p.waiting.isEmpty) = l ∧ (l.filter fun p => p.waiting.isEmpty) = [] := by
  have waits : ∀ p ∈ l, p.waiting.isEmpty = false := fun p h => by simpa using (formed.2.1 p (sub h)).1
  exact ⟨List.filter_eq_self.mpr fun p h => by rw [waits p h]; rfl,
    List.filter_eq_nil_iff.mpr fun p h => by rw [waits p h]; decide⟩

/-- Settling a block that is found counts it, replaces its sum, and forms it when it waits for no other. -/
theorem settleBlock_of_found
    (sum : (s.comb.sums.find? fun p => p.is x.sum.label x.sum.carrier && p.waiting.any fun e => e.remote = x.source.remote) =
      some x.sum)
    (source : (x.sum.waiting.find? fun e => e.remote = x.source.remote) = some x.source) :
    s.settleBlock x.sum.label x.sum.carrier x.source.remote x.samples = formReady { s.countBlock x with
      comb := { (s.countBlock x).comb with
        sums := s.comb.sums.map fun p =>
          if p.is x.sum.label x.sum.carrier then settledSum x.sum x.source (s.gateStep x).passes x.samples else p } } := by
  have gate : ((s.takeExpiry x.source.remote x.sum.carrier).noteBlock x).gate x.source.remote x.sum.carrier =
      (s.takeExpiry x.source.remote x.sum.carrier).gate x.source.remote x.sum.carrier := by
    unfold State.gate
    rw [noteBlock_comb]
  rw [← (countBlock_sums s x).1]
  unfold settleBlock
  rw [sum]
  dsimp only
  rw [source]
  unfold countBlock gateStep
  rw [← gate]
  obtain ⟨sum, source, samples⟩ := x
  cases samples <;> rfl

/-- A block that is not found changes nothing. -/
theorem settleBlock_beside (s : State) (n : Nat) (c : CarrierId) (r : RemoteId) (b : Option (List IQ)) :
    ∃ bs, Beside s (s.settleBlock n c r b) bs ∧ ∀ x ∈ bs, x.At r c ∧ x.samples = b := by
  cases sum : s.comb.sums.find? fun q => q.is n c && q.waiting.any fun e => e.remote = r with
  | none =>
    refine ⟨[], ?_, nofun⟩
    unfold settleBlock
    rw [sum]
    rfl
  | some q =>
    have is := List.find?_some sum
    rw [Bool.and_eq_true] at is
    obtain ⟨rfl, rfl⟩ := (q.is_iff ..).mp is.1
    cases source : q.waiting.find? fun e => e.remote = r with
    | none =>
      refine ⟨[], ?_, nofun⟩
      unfold settleBlock
      rw [sum]
      dsimp only
      rw [source]
      rfl
    | some e =>
      have same := List.find?_some source
      obtain rfl : e.remote = r := of_decide_eq_true same
      refine ⟨[⟨q, e, b⟩], ?_, fun x mem => by rw [List.mem_singleton.mp mem]; exact ⟨⟨rfl, rfl⟩, rfl⟩⟩
      rw [settleBlock_of_found (x := ⟨q, e, b⟩) sum source]
      exact countBlock_besideSums s ⟨q, e, b⟩

/-- Among sums of different carriers or link frames, one is replaced in its place. -/
theorem map_replace {q p : UplinkSum} (once : ((pre ++ q :: post).map fun q => (q.label, q.carrier)).Nodup) :
    ((pre ++ q :: post).map fun p' => if p'.is q.label q.carrier then p else p') = pre ++ p :: post := by
  have apart : ∀ p ∈ pre ++ post, p.is q.label q.carrier = false := by
    intro p other
    rw [List.map_append, List.map_cons, List.nodup_middle] at once
    refine Bool.eq_false_iff.mpr fun is => ?_
    obtain ⟨label, carrier⟩ := (p.is_iff ..).mp is
    refine (List.nodup_cons.mp once).1 (List.mem_append.mpr ?_)
    refine (List.mem_append.mp other).imp ?_ ?_ <;> exact fun h => List.mem_map.mpr ⟨p, h, Prod.ext label carrier⟩
  have same (l : List UplinkSum) (sub : l ⊆ pre ++ post) : (l.map fun p' => if p'.is q.label q.carrier then p else p') = l :=
    (List.map_congr_left fun p h => if_neg (Bool.eq_false_iff.mp (apart p (sub h)))).trans (List.map_id l)
  rw [List.map_append, List.map_cons, same pre (by simp), same post (by simp), if_pos ((q.is_iff ..).mpr ⟨rfl, rfl⟩)]

theorem settleBlock_settles (sums : s.comb.sums = pre ++ x.sum :: post) (formed : s.SumsFormed)
    (waits : x.source ∈ x.sum.waiting) :
    Settles s (s.settleBlock x.sum.label x.sum.carrier x.source.remote x.samples) pre
      [settledSum x.sum x.source (s.gateStep x).passes x.samples] post [x] := by
  have mem : x.sum ∈ s.comb.sums := by rw [sums]; simp
  rw [settleBlock_of_found (find_sum formed.1 mem waits) (find_source (formed.mem_once mem) waits), sums, map_replace (sums ▸ formed.1), List.append_cons]
  generalize settledSum x.sum x.source (s.gateStep x).passes x.samples = q
  obtain ⟨keepPre, nonePre⟩ := formed.waits (l := pre) (by rw [sums]; simp)
  obtain ⟨keepPost, nonePost⟩ := formed.waits (l := post) (by rw [sums]; simp)
  obtain ⟨_, outputs, sat⟩ := countBlock_sums s x
  refine ⟨?_, ?_, ?_, countBlock_besideSums s x⟩
  · show (pre ++ [q] ++ post).filter _ = _
    rw [List.filter_append, List.filter_append, keepPre, keepPost]
  · show (s.countBlock x).comb.outputs ++ (((pre ++ [q] ++ post).filter _).filter _).map outputOf = _
    rw [List.filter_append, List.filter_append, List.filter_append, List.filter_append, nonePre, nonePost, List.filter_nil,
      outputs, List.nil_append, List.append_nil, List.filter_filter]
    simp only [Bool.and_comm]
  · show countSaturations (s.countBlock x).comb.sat ((pre ++ [q] ++ post).filter _) = _
    rw [List.filter_append, List.filter_append, nonePre, nonePost, sat, List.nil_append, List.append_nil]

/-! ## One block after another -/

namespace Settles

variable {t u : State} {qs ps : List UplinkSum} {bs cs : List Block} {q p : UplinkSum}

theorem refl (sums : s.comb.sums = pre ++ qs ++ post) (formed : s.SumsFormed) : Settles s s pre qs post [] := by
  obtain ⟨keep, none⟩ := formed.waits (l := qs) (by rw [sums]; simp)
  refine ⟨by rw [keep, sums], ?_, by rw [none]; rfl, rfl⟩
  have nothing : (qs.filter fun p => p.waiting.isEmpty && !p.discard) = [] := by
    simp only [Bool.and_comm]
    rw [← List.filter_filter, none, List.filter_nil]
  rw [nothing, List.map_nil, List.append_nil]

/-- Blocks of some sums, and then blocks of later sums. -/
theorem append {post' : List UplinkSum} (first : Settles s t pre qs post bs)
    (then' : Settles t u (pre ++ qs.filter fun p => !p.waiting.isEmpty) ps post' cs) :
    Settles s u pre (qs ++ ps) post' (bs ++ cs) where
  sums := by rw [then'.sums, List.filter_append, List.append_assoc pre]
  outputs := by rw [then'.outputs, first.outputs, List.filter_append, List.map_append, List.append_assoc]
  sat := by rw [then'.sat, first.sat, List.filter_append]; exact (List.foldl_append ..).symm
  rest := then'.rest.trans (by rw [first.rest, List.foldl_append])

/-- Blocks of a sum that still waits for others, and then others of them. -/
theorem again (waits : q.waiting ≠ []) (first : Settles s t pre [q] post bs) (then' : Settles t u pre [p] post cs) :
    Settles s u pre [p] post (bs ++ cs) := by
  have full : q.waiting.isEmpty = false := by simpa using waits
  obtain ⟨_, outputs, sat, rest⟩ := first
  simp only [List.filter_cons, full, Bool.false_and, Bool.false_eq_true, if_false, List.filter_nil, List.map_nil,
    List.append_nil] at outputs sat
  refine ⟨then'.sums, by rw [then'.outputs, outputs], by rw [then'.sat, sat]; rfl, 
    then'.rest.trans (by rw [rest, List.foldl_append])⟩

end Settles

end State
end Sys2Proof.Machine
end

section
/-! SUPPORT. Settling one block after another: the missing ones of some sums, and those of a received frame (R4, R77, R78). -/

namespace Sys2Proof.Machine.State

variable {s : State} {x : Block} {pre post : List UplinkSum}

/-! ## Missing blocks -/

/-- A sum without some of the blocks it waits for. -/
def without (which : UplinkSum → Expected → Bool) (q : UplinkSum) : UplinkSum :=
  { q with waiting := q.waiting.filter fun e => !which q e }

/-- Blocks of a sum as missing. -/
def missingBlocks (q : UplinkSum) (es : List Expected) : List Block := es.map fun e => ⟨q, e, none⟩

theorem foldl_missingBlocks (q : UplinkSum) (l es : List Expected) (u : State) :
    (missingBlocks { q with waiting := l } es).foldl countBlock u = (missingBlocks q es).foldl countBlock u := by
  unfold missingBlocks
  rw [List.foldl_map, List.foldl_map]
  rfl

/-- Blocks that one sum waits for are settled as missing: they leave it. -/
theorem settleMissing_sum {q : UplinkSum} {es : List Expected} (sums : s.comb.sums = pre ++ q :: post) (formed : s.SumsFormed)
    (sub : es.Sublist q.waiting) : Settles s (es.foldl (fun s e => s.settleBlock q.label q.carrier e.remote none) s) pre
      [{ q with waiting := q.waiting.filter fun x => x.remote ∉ es.map (·.remote) }] post (missingBlocks q es) := by
  induction es generalizing s q with
  | nil =>
    have all : (q.waiting.filter fun x => x.remote ∉ ([] : List Expected).map (·.remote)) = q.waiting := by simp
    rw [all]
    exact .refl (by rw [sums]; simp) formed
  | cons e es ih =>
    have waits : e ∈ q.waiting := sub.subset List.mem_cons_self
    have one := settleBlock_settles (x := ⟨q, e, none⟩) sums formed waits
    have one : Settles s (s.settleBlock q.label q.carrier e.remote none) pre
        [{ q with waiting := q.waiting.filter fun x => x.remote ≠ e.remote }] post [⟨q, e, none⟩] := one
    have others : es.Sublist (q.waiting.filter fun x => x.remote ≠ e.remote) := by
      have once := (sub.map (·.remote)).nodup (formed.mem_once (q := q) (by rw [sums]; simp))
      rw [List.map_cons, List.nodup_cons] at once
      have kept : (es.filter fun x => x.remote ≠ e.remote) = es := List.filter_eq_self.mpr fun x mem =>
        decide_eq_true fun same => once.1 (List.mem_map.mpr ⟨x, mem, same⟩)
      exact kept ▸ (List.sublist_of_cons_sublist sub).filter _
    have both : (q.waiting.filter fun x => x.remote ∉ (e :: es).map (·.remote)) =
        (q.waiting.filter fun x => x.remote ≠ e.remote).filter fun x => x.remote ∉ es.map (·.remote) := by
      rw [List.filter_filter]
      simp only [List.map_cons, List.mem_cons, not_or, Bool.decide_and, Bool.and_comm]
    rw [both]
    by_cases last : (q.waiting.filter fun x => x.remote ≠ e.remote) = []
    · obtain rfl : es = [] := List.sublist_nil.mp (last ▸ others)
      rw [last] at one ⊢
      exact one
    · have keep : ([{ q with waiting := q.waiting.filter fun x => x.remote ≠ e.remote }].filter
          fun p : UplinkSum => !p.waiting.isEmpty) = [{ q with waiting := q.waiting.filter fun x => x.remote ≠ e.remote }] :=
        List.filter_eq_self.mpr fun p mem => by rw [List.mem_singleton.mp mem]; simpa using last
      have left := one.sums
      rw [keep, ← List.append_cons] at left
      have rest := ih left (formed.settleBlock ..) others
      have all := Settles.again last one rest
      refine ⟨all.sums, all.outputs, all.sat, all.rest.trans ?_⟩
      rw [List.foldl_append, foldl_missingBlocks]
      rfl

/-- The blocks that some sums wait for and that a test names, each with its samples. -/
def blocksOf (which : UplinkSum → Expected → Bool) (samples : UplinkSum → Expected → Option (List IQ)) (l : List UplinkSum) :
    List Block :=
  l.flatMap fun q => (q.waiting.filter (which q)).map fun e => ⟨q, e, samples q e⟩

/-- Settles, sum after sum, the blocks that a test names. -/
def settleWhich (which : UplinkSum → Expected → Bool) (samples : UplinkSum → Expected → Option (List IQ)) (l : List UplinkSum)
    (s : State) : State :=
  l.foldl (fun s q => (q.waiting.filter (which q)).foldl
    (fun s e => s.settleBlock q.label q.carrier e.remote (samples q e)) s) s

/-- The samples of a missing block. -/
def noSamples (_ : UplinkSum) (_ : Expected) : Option (List IQ) := none

theorem settleWhich_settles (which : UplinkSum → Expected → Bool) {l : List UplinkSum} (sums : s.comb.sums = pre ++ l)
    (formed : s.SumsFormed) :
    Settles s (settleWhich which noSamples l s) pre (l.map (without which)) [] (blocksOf which noSamples l) := by
  induction l generalizing s pre with
  | nil => exact .refl (by rw [sums]; simp) formed
  | cons q qs ih =>
    have once := formed.mem_once (q := q) (by rw [sums]; simp)
    have first := settleMissing_sum sums formed (List.filter_sublist (p := which q) (l := q.waiting))
    have others : (q.waiting.filter fun x => x.remote ∉ (q.waiting.filter (which q)).map (·.remote)) =
        q.waiting.filter fun e => !which q e := by
      refine List.filter_congr fun x mem => ?_
      rw [Bool.eq_iff_iff, decide_eq_true_eq, Bool.not_eq_true', Bool.eq_false_iff]
      refine not_congr ⟨fun h => ?_, fun h => List.mem_map.mpr ⟨x, List.mem_filter.mpr ⟨mem, h⟩, rfl⟩⟩
      obtain ⟨y, mem', same⟩ := List.mem_map.mp h
      obtain ⟨mem', named⟩ := List.mem_filter.mp mem'
      exact List.inj_on_of_nodup_map once mem' mem same ▸ named
    rw [others] at first
    have formed' := foldl_invariant (P := SumsFormed) (fun _ (e : Expected) h => SumsFormed.settleBlock h q.label q.carrier e.remote none)
      (q.waiting.filter (which q)) formed
    exact first.append (ih first.sums formed')

theorem settleMissing_eq (s : State) (which : Nat × CarrierId × RemoteId → Bool) : s.settleMissing (s.unsettled.filter which) =
    settleWhich (fun q e => which (q.label, q.carrier, e.remote)) noSamples s.comb.sums s := by
  unfold settleMissing unsettled settleWhich
  rw [List.filter_flatMap, List.foldl_flatMap]
  simp only [List.filter_map, List.foldl_map]
  rfl

theorem deadline_settles (formed : s.SumsFormed) (n : Nat) :
    Settles s (s.deadline n) [] (s.comb.sums.map (without fun q _ => q.label ≤ n)) [] (blocksOf (fun q _ => q.label ≤ n) noSamples s.comb.sums) := by
  unfold deadline
  rw [settleMissing_eq]
  exact settleWhich_settles _ rfl formed

theorem settleUpTo_settles (formed : s.SumsFormed) (r : RemoteId) (n : Nat) :
    Settles s (s.settleUpTo r n) [] (s.comb.sums.map (without fun q e => e.remote = r && q.label ≤ n)) []
      (blocksOf (fun q e => e.remote = r && q.label ≤ n) noSamples s.comb.sums) := by
  unfold settleUpTo
  rw [settleMissing_eq]
  exact settleWhich_settles _ rfl formed

/-! ## The blocks of a received frame -/

/-- Of remotes that are each expected once, those that are one are found by it. -/
theorem filter_source {l : List Expected} (once : (l.map (·.remote)).Nodup) (r : RemoteId) :
    (l.filter fun e => e.remote = r) = (l.find? fun e => e.remote = r).toList := by
  induction l with
  | nil => rfl
  | cons e l ih =>
    rw [List.map_cons, List.nodup_cons] at once
    rw [List.filter_cons, List.find?_cons]
    by_cases same : e.remote = r
    · have none : (l.filter fun e => e.remote = r) = [] := List.filter_eq_nil_iff.mpr fun x mem same' =>
        once.1 (List.mem_map.mpr ⟨x, mem, (of_decide_eq_true same').trans same.symm⟩)
      rw [decide_eq_true same, if_pos rfl, none]
      rfl
    · rw [decide_eq_false same, if_neg (by decide), ih once.2]

/-- The block of a remote in a received payload (R4, R77). -/
def received (payload : List Byte) (q : UplinkSum) (e : Expected) : Option (List IQ) :=
  blockFor e.format q.place.width q.carrier payload

theorem takeBlocks_eq (formed : s.SumsFormed) (r : RemoteId) (n : Nat) (payload : List Byte) : s.takeBlocks r n payload =
    settleWhich (fun q e => e.remote = r && q.label = n) (received payload) s.comb.sums s := by
  unfold takeBlocks settleWhich
  rw [List.foldl_filter]
  refine List.foldl_ext _ _ _ fun t q mem => ?_
  have found := filter_source (formed.mem_once mem) r
  have any : (q.waiting.any fun e => e.remote = r) = (q.waiting.find? fun e => e.remote = r).isSome :=
    Bool.eq_iff_iff.mpr (List.any_eq_true.trans List.find?_isSome.symm)
  by_cases label : q.label = n
  · subst label
    simp only [decide_true, Bool.true_and, Bool.and_true, any, found]
    cases h : q.waiting.find? fun e => e.remote = r with
    | none => rfl
    | some e =>
      have same := List.find?_some h
      obtain rfl : e.remote = r := of_decide_eq_true same
      rfl
  · simp only [decide_eq_false label, Bool.false_and, Bool.and_false, List.filter_false]
    rfl

/-! ## What blocks do to their gates -/

/-- A gate as a block finds it, an expiry that is owed coming first. -/
def gateNow (s : State) (r : RemoteId) (c : CarrierId) : Gate := (s.takeExpiry r c).gate r c

theorem gateNow_eq (s : State) (r : RemoteId) (c : CarrierId) :
    s.gateNow r c = if .gateHoldExpiry r c ∈ s.due then ⟨false, 0⟩ else s.gate r c := by
  unfold gateNow takeExpiry
  simp only [List.contains_iff_mem]
  split
  · exact setGate_same _ _ _ _
  · rfl

theorem takeExpiry_other {r q : RemoteId} {c d : CarrierId} (other : ¬ (q = r ∧ d = c)) :
    (s.takeExpiry r c).gate q d = s.gate q d := by
  unfold takeExpiry
  split
  · exact setGate_other _ _ other
  · rfl

theorem mem_takeExpiry_due {y : Instr} {r : RemoteId} {c : CarrierId} (other : y ≠ .gateHoldExpiry r c) :
    y ∈ (s.takeExpiry r c).due ↔ y ∈ s.due := by
  unfold takeExpiry
  split
  · exact mem_dropDue_of_ne other
  · rfl

theorem noteBlock_due (s : State) (x : Block) : (s.noteBlock x).due = s.due := by
  unfold noteBlock measureBlock
  cases x.samples with
  | none => rfl
  | some xs => dsimp only; split <;> rfl

theorem noteBlock_gate (s : State) (x : Block) (r : RemoteId) (c : CarrierId) : (s.noteBlock x).gate r c = s.gate r c := by
  unfold gate
  rw [noteBlock_comb]

theorem countBlock_gate (s : State) (x : Block) (r : RemoteId) (c : CarrierId) : (s.countBlock x).gate r c =
    (((s.takeExpiry x.source.remote x.sum.carrier).noteBlock x).setGate x.source.remote x.sum.carrier
      (s.gateStep x).gate).gate r c := by
  unfold countBlock
  dsimp only
  split <;> rfl

theorem countBlock_due (s : State) (x : Block) : (s.countBlock x).due = (s.takeExpiry x.source.remote x.sum.carrier).due ++
    if (s.gateStep x).expires then [.gateHoldExpiry x.source.remote x.sum.carrier] else [] := by
  rw [← noteBlock_due (s.takeExpiry x.source.remote x.sum.carrier) x]
  unfold countBlock
  dsimp only
  split
  · rfl
  · rw [List.append_nil]
    rfl

/-- A block owes nothing but the expiry of its own gate's hold. -/
theorem mem_countBlock_due {y : Instr} (other : y ≠ .gateHoldExpiry x.source.remote x.sum.carrier) :
    y ∈ (s.countBlock x).due ↔ y ∈ s.due := by
  rw [countBlock_due, List.mem_append, mem_takeExpiry_due other, or_iff_left]
  split
  · simpa using other
  · exact List.not_mem_nil

/-- A block leaves every other gate. -/
theorem countBlock_other {r : RemoteId} {c : CarrierId} (other : ¬ x.At r c) : (s.countBlock x).gate r c = s.gate r c ∧
    (.gateHoldExpiry r c ∈ (s.countBlock x).due ↔ .gateHoldExpiry r c ∈ s.due) := by
  have other : ¬ (r = x.source.remote ∧ c = x.sum.carrier) := fun ⟨remote, carrier⟩ => other ⟨remote.symm, carrier.symm⟩
  refine ⟨?_, mem_countBlock_due fun same => ?_⟩
  · rw [countBlock_gate, setGate_other _ _ other, noteBlock_gate, takeExpiry_other other]
  · injection same with remote carrier
    exact other ⟨remote, carrier⟩

/-- A block updates its own gate (R81). -/
theorem countBlock_at {r : RemoteId} {c : CarrierId} (here : x.At r c) (none : .gateHoldExpiry r c ∉ s.due) :
    (s.countBlock x).gate r c = (x.update (s.gate r c)).gate ∧
      (.gateHoldExpiry r c ∈ (s.countBlock x).due ↔ (x.update (s.gate r c)).expires = true) := by
  obtain ⟨rfl, rfl⟩ := here
  have step : s.gateStep x = x.update (s.gate x.source.remote x.sum.carrier) := by
    refine congrArg x.update ?_
    exact (gateNow_eq ..).trans (if_neg none)
  have noExpiry : s.takeExpiry x.source.remote x.sum.carrier = s := if_neg (by simpa using none)
  rw [countBlock_gate, setGate_same, countBlock_due, step, noExpiry]
  refine ⟨rfl, ?_⟩
  split
  · next expires => simp [expires]
  · next stays => simpa [stays] using none

theorem foldl_countBlock_other {r : RemoteId} {c : CarrierId} {bs : List Block} (other : ∀ x ∈ bs, ¬ x.At r c) (s : State) :
    (bs.foldl countBlock s).gate r c = s.gate r c ∧
      (.gateHoldExpiry r c ∈ (bs.foldl countBlock s).due ↔ .gateHoldExpiry r c ∈ s.due) := by
  induction bs generalizing s with
  | nil => exact ⟨rfl, Iff.rfl⟩
  | cons x bs ih =>
    obtain ⟨gate, due⟩ := ih (fun y mem => other y (List.mem_cons_of_mem _ mem)) (s.countBlock x)
    obtain ⟨gate', due'⟩ := countBlock_other (s := s) (other x List.mem_cons_self)
    exact ⟨gate.trans gate', due.trans due'⟩

/-- Of several blocks that one alone comes to a gate: the gate takes its level. -/
theorem foldl_countBlock_at {r : RemoteId} {c : CarrierId} {as bs : List Block} (here : x.At r c)
    (before : ∀ y ∈ as, ¬ y.At r c) (after : ∀ y ∈ bs, ¬ y.At r c) (none : .gateHoldExpiry r c ∉ s.due) :
    ((as ++ x :: bs).foldl countBlock s).gate r c = (x.update (s.gate r c)).gate ∧
      (.gateHoldExpiry r c ∈ ((as ++ x :: bs).foldl countBlock s).due ↔ (x.update (s.gate r c)).expires = true) := by
  rw [List.foldl_append, List.foldl_cons]
  obtain ⟨gate, due⟩ := foldl_countBlock_other before s
  obtain ⟨gate', due'⟩ := countBlock_at (s := as.foldl countBlock s) here (mt due.mp none)
  obtain ⟨gate'', due''⟩ := foldl_countBlock_other after ((as.foldl countBlock s).countBlock x)
  rw [gate'', gate', due'', due', gate]
  exact ⟨rfl, Iff.rfl⟩

theorem mem_foldl_countBlock_due {y : Instr} (other : ∀ r c, y ≠ .gateHoldExpiry r c) (bs : List Block) (s : State) :
    y ∈ (bs.foldl countBlock s).due ↔ y ∈ s.due := by
  induction bs generalizing s with
  | nil => rfl
  | cons x bs ih => exact (ih _).trans (mem_countBlock_due (other _ _))

/-! ## What blocks count -/

theorem countBlock_rl (s : State) (x : Block) : (s.countBlock x).rl = if x.samples.isNone then
    (s.modRl x.source.remote fun l => { l with missing := satInc max32 l.missing }).rl else s.rl := by
  have expired : (s.takeExpiry x.source.remote x.sum.carrier).rl = s.rl := by
    unfold takeExpiry
    split <;> rfl
  have counted : (s.countBlock x).rl = ((s.takeExpiry x.source.remote x.sum.carrier).noteBlock x).rl := by
    unfold countBlock
    dsimp only
    split <;> rfl
  rw [counted]
  unfold noteBlock measureBlock
  cases x.samples with
  | none =>
    show (modRl _ _ _).rl = (modRl _ _ _).rl
    unfold modRl
    rw [expired]
  | some xs =>
    dsimp only
    split <;> exact expired

/-- The missing blocks of a remote. -/
def missingOf (bs : List Block) (r : RemoteId) : Nat := bs.countP fun x => x.samples.isNone && x.source.remote = r

theorem countBlock_link {r : RemoteId} (bounded : s.rl[r].missing ≤ max32) (x : Block) :
    (s.countBlock x).rl[r] = { s.rl[r] with missing := min (s.rl[r].missing + missingOf [x] r) max32 } := by
  have kept : s.rl[r] = { s.rl[r] with missing := min (s.rl[r].missing + 0) max32 } := by
    rw [Nat.add_zero, Nat.min_eq_left bounded]
  have count : missingOf [x] r = if x.samples.isNone && x.source.remote = r then 1 else 0 := by
    rw [missingOf, List.countP_cons, List.countP_nil, Nat.zero_add]
  rw [countBlock_rl, count]
  by_cases missing : x.samples.isNone = true
  · rw [if_pos missing, missing]
    by_cases same : x.source.remote = r
    · subst same
      rw [modRl_same, Bool.true_and, decide_eq_true rfl]
      rfl
    · rw [modRl_other _ _ fun e => same e.symm, Bool.true_and, decide_eq_false same]
      exact kept
  · rw [if_neg missing, Bool.eq_false_iff.mpr missing]
    exact kept

theorem foldl_countBlock_rl (bs : List Block) {s : State} (r : RemoteId) (bounded : s.rl[r].missing ≤ max32) :
    (bs.foldl countBlock s).rl[r] = { s.rl[r] with missing := min (s.rl[r].missing + missingOf bs r) max32 } := by
  induction bs generalizing s with
  | nil =>
    show s.rl[r] = { s.rl[r] with missing := min s.rl[r].missing max32 }
    rw [Nat.min_eq_left bounded]
  | cons x bs ih =>
    have one := countBlock_link bounded x
    have all : missingOf (x :: bs) r = missingOf [x] r + missingOf bs r := List.countP_append (l₁ := [x])
    have bounded' : (s.countBlock x).rl[r].missing ≤ max32 := by
      rw [one]
      exact Nat.min_le_right ..
    have total : min (min (s.rl[r].missing + missingOf [x] r) max32 + missingOf bs r) max32 =
        min (s.rl[r].missing + (missingOf [x] r + missingOf bs r)) max32 := by omega
    rw [List.foldl_cons, ih bounded', one, all, total]

end Sys2Proof.Machine.State
end

section
/-! SUPPORT. What settled blocks leave in the state: gates, counters and the sums they enter. -/

namespace Sys2Proof.Machine.State

variable {s t : State} {pre qs post : List UplinkSum} {bs : List Block}

namespace Beside

variable (h : Beside s t bs)
include h

theorem gate_eq (r : RemoteId) (c : CarrierId) : t.gate r c = (bs.foldl countBlock s.besideSums).gate r c := by
  rw [← h]
  rfl

theorem due_eq : t.due = (bs.foldl countBlock s.besideSums).due := by
  rw [← h]
  rfl

theorem mem_due {y : Instr} (other : ∀ r c, y ≠ .gateHoldExpiry r c) : y ∈ t.due ↔ y ∈ s.due := by
  rw [h.due_eq]
  exact mem_foldl_countBlock_due other _ _

theorem link {r : RemoteId} (bounded : s.rl[r].missing ≤ max32) :
    t.rl[r] = { s.rl[r] with missing := min (s.rl[r].missing + missingOf bs r) max32 } := by
  have rl : t.rl = (bs.foldl countBlock s.besideSums).rl := by
    rw [← h]
    rfl
  rw [rl]
  exact foldl_countBlock_rl bs r bounded

/-- A gate that no block comes to stays. -/
theorem gate_kept {r : RemoteId} {c : CarrierId} (other : ∀ x ∈ bs, ¬ x.At r c) :
    t.gate r c = s.gate r c ∧ (.gateHoldExpiry r c ∈ t.due ↔ .gateHoldExpiry r c ∈ s.due) := by
  rw [h.gate_eq, h.due_eq]
  exact foldl_countBlock_other other _

/-- A gate that one block alone comes to takes its level. -/
theorem gate_taken {x : Block} {r : RemoteId} {c : CarrierId} (once : bs.Nodup) (mem : x ∈ bs) (here : x.At r c)
    (only : ∀ y ∈ bs, y.At r c → y = x) (none : .gateHoldExpiry r c ∉ s.due) :
    t.gate r c = (x.update (s.gate r c)).gate ∧
      (.gateHoldExpiry r c ∈ t.due ↔ (x.update (s.gate r c)).expires = true) := by
  rw [h.gate_eq, h.due_eq]
  obtain ⟨as, ds, rfl⟩ := List.append_of_mem mem
  have absent := (List.nodup_cons.mp (List.nodup_middle.mp once)).1
  refine foldl_countBlock_at here (fun y mem at' => absent ?_) (fun y mem at' => absent ?_) none
  · exact only y (by simp [mem]) at' ▸ List.mem_append_left _ mem
  · exact only y (by simp [mem]) at' ▸ List.mem_append_right _ mem

/-- A block decides by its gate alone, which earlier blocks at other gates leave. -/
theorem gateStep_kept {x : Block} (other : ∀ y ∈ bs, ¬ y.At x.source.remote x.sum.carrier) : t.gateStep x = s.gateStep x := by
  obtain ⟨gate, due⟩ := h.gate_kept other
  refine congrArg x.update ?_
  show t.gateNow _ _ = s.gateNow _ _
  simp only [gateNow_eq, gate, due]

/-- Blocks of one remote leave every other's gates and link record. -/
theorem others {r q : RemoteId} (one : ∀ x ∈ bs, x.source.remote = r) (other : q ≠ r) :
    t.rl[q] = s.rl[q] ∧ t.comb.gates[q] = s.comb.gates[q] := by
  refine ⟨?_, Vector.ext fun c small => ?_⟩
  · have rl : t.rl = (bs.foldl countBlock s.besideSums).rl := by
      rw [← h]
      rfl
    have kept : ∀ (bs : List Block) (u : State), (∀ x ∈ bs, x.source.remote = r) → (bs.foldl countBlock u).rl[q] = u.rl[q] := by
      intro bs
      induction bs with
      | nil => exact fun _ _ => rfl
      | cons x bs ih =>
        intro u one
        rw [List.foldl_cons, ih _ fun y mem => one y (List.mem_cons_of_mem _ mem), countBlock_rl]
        split
        · exact modRl_other _ _ (one x List.mem_cons_self ▸ other)
        · rfl
    rw [rl]
    exact kept bs _ one
  · exact (h.gate_kept (r := q) (c := ⟨c, small⟩) fun x mem at' => other (at'.1.symm.trans (one x mem))).1

end Beside

theorem foldl_beside {α : Type} {P : Block → Prop} {f : State → α → State} {l : List α}
    (step : ∀ a ∈ l, ∀ s, ∃ bs, Beside s (f s a) bs ∧ ∀ x ∈ bs, P x) (s : State) :
    ∃ bs, Beside s (l.foldl f s) bs ∧ ∀ x ∈ bs, P x := by
  induction l generalizing s with
  | nil => exact ⟨[], rfl, nofun⟩
  | cons a l ih =>
    obtain ⟨as, first, all⟩ := step a List.mem_cons_self s
    obtain ⟨bs, rest, all'⟩ := ih (fun b mem => step b (List.mem_cons_of_mem _ mem)) (f s a)
    refine ⟨as ++ bs, rest.trans ?_, fun x mem => (List.mem_append.mp mem).elim (all x) (all' x)⟩
    rw [show (f s a).besideSums = _ from first, List.foldl_append]

/-- Whatever sums are in progress, a remote's missing blocks concern that remote alone. -/
theorem settleUpTo_beside (s : State) (r : RemoteId) (n : Nat) :
    ∃ bs, Beside s (s.settleUpTo r n) bs ∧ ∀ x ∈ bs, x.source.remote = r ∧ x.samples = none := by
  refine foldl_beside (fun b mem t => ?_) s
  have same := (List.mem_filter.mp mem).2
  rw [Bool.and_eq_true, decide_eq_true_eq] at same
  obtain ⟨bs, beside, all⟩ := settleBlock_beside t b.1 b.2.1 b.2.2 none
  exact ⟨bs, beside, fun x mem => ⟨(all x mem).1.1.trans same.1, (all x mem).2⟩⟩

theorem takeBlocks_beside (s : State) (r : RemoteId) (n : Nat) (payload : List Byte) :
    ∃ bs, Beside s (s.takeBlocks r n payload) bs ∧ ∀ x ∈ bs, x.source.remote = r := by
  refine foldl_beside (fun q mem t => ?_) s
  split
  · obtain ⟨bs, beside, all⟩ := settleBlock_beside t n q.carrier r _
    exact ⟨bs, beside, fun x mem => (all x mem).1.1⟩
  · exact ⟨[], rfl, nofun⟩

section
variable {which : UplinkSum → Expected → Bool} {samples : UplinkSum → Expected → Option (List IQ)} {l : List UplinkSum}

theorem mem_blocksOf {x : Block} : x ∈ blocksOf which samples l ↔
    x.sum ∈ l ∧ x.source ∈ x.sum.waiting ∧ which x.sum x.source = true ∧ x.samples = samples x.sum x.source := by
  unfold blocksOf
  simp only [List.mem_flatMap, List.mem_map, List.mem_filter]
  constructor
  · rintro ⟨q, mem, e, ⟨waits, named⟩, rfl⟩
    exact ⟨mem, waits, named, rfl⟩
  · rintro ⟨mem, waits, named, same⟩
    exact ⟨x.sum, mem, x.source, ⟨waits, named⟩, by rw [← same]⟩

theorem SumsFormed.sums_nodup (formed : s.SumsFormed) : s.comb.sums.Nodup := .of_map _ formed.1

theorem blocksOf_nodup (formed : s.SumsFormed) : (blocksOf which samples s.comb.sums).Nodup := by
  refine List.nodup_flatMap.mpr ⟨fun q mem => ?_, formed.sums_nodup.pairwise_of_forall_ne fun p _ q _ other => ?_⟩
  · have once := (formed.mem_once mem).of_map
    exact (once.filter _).map fun e e' same => by injection same
  · intro x first second
    obtain ⟨e, _, rfl⟩ := List.mem_map.mp first
    obtain ⟨e', _, same⟩ := List.mem_map.mp second
    injection same with same
    exact other same.symm

/-- A sum after the block of a remote, if it waits for one: the gate decides on the samples as it stands before the block (R81,
R83). -/
structure Took (s : State) (which : UplinkSum → Expected → Bool) (samples : UplinkSum → Expected → Option (List IQ))
    (l : List UplinkSum) (q q' : UplinkSum) : Prop where
  mem : q ∈ l
  kept : q.waiting.filter (which q) = [] → q' = q
  taken : ∀ e, q.waiting.filter (which q) = [e] → ∃ passes, q' = settledSum q e passes (samples q e) ∧
    ((∀ x ∈ blocksOf which samples l, x.At e.remote q.carrier → x.sum = q) → passes = (s.gateStep ⟨q, e, samples q e⟩).passes)

theorem settleWhich_took (sums : s.comb.sums = pre ++ l) (formed : s.SumsFormed)
    (single : ∀ q ∈ l, (q.waiting.filter (which q)).length ≤ 1) : ∃ qs,
      Settles s (settleWhich which samples l s) pre qs [] (blocksOf which samples l) ∧
        List.Forall₂ (Took s which samples l) l qs := by
  induction l generalizing s pre with
  | nil => exact ⟨[], .refl (by rw [sums]; simp) formed, .nil⟩
  | cons q qs ih =>
    have first : ∃ q', Settles s ((q.waiting.filter (which q)).foldl
        (fun s e => s.settleBlock q.label q.carrier e.remote (samples q e)) s) pre [q'] qs
          ((q.waiting.filter (which q)).map fun e => ⟨q, e, samples q e⟩) ∧ Took s which samples (q :: qs) q q' := by
      have few := single q List.mem_cons_self
      cases one : q.waiting.filter (which q) with
      | nil =>
        exact ⟨q, .refl (by rw [sums]; simp) formed, List.mem_cons_self, fun _ => rfl, fun e some => by rw [one] at some; contradiction⟩
      | cons e es =>
        obtain rfl : es = [] := by
          rw [one, List.length_cons] at few
          exact List.eq_nil_of_length_eq_zero (by omega)
        have waits : e ∈ q.waiting := List.mem_of_mem_filter (one ▸ List.mem_singleton_self e)
        refine ⟨_, settleBlock_settles (x := ⟨q, e, samples q e⟩) sums formed waits, List.mem_cons_self,
          fun none => by rw [one] at none; contradiction, fun e' some => ?_⟩
        rw [one] at some
        injection some with same
        subst same
        exact ⟨_, rfl, fun _ => rfl⟩
    obtain ⟨q', first, took⟩ := first
    have formed' := foldl_invariant (P := SumsFormed)
      (fun _ (e : Expected) h => SumsFormed.settleBlock h q.label q.carrier e.remote (samples q e))
      (q.waiting.filter (which q)) formed
    obtain ⟨qs', rest, later⟩ := ih first.sums formed' fun p mem => single p (List.mem_cons_of_mem _ mem)
    refine ⟨q' :: qs', first.append rest, .cons took (later.imp fun p p' h => ?_)⟩
    refine ⟨List.mem_cons_of_mem _ h.mem, h.kept, fun e one => ?_⟩
    obtain ⟨passes, sum, decided⟩ := h.taken e one
    refine ⟨passes, sum, fun only => ?_⟩
    have sub {x : Block} (mem : x ∈ blocksOf which samples qs) : x ∈ blocksOf which samples (q :: qs) :=
      List.mem_append_right _ mem
    refine (decided fun x mem => only x (sub mem)).trans
      (congrArg GateStep.passes (first.rest.gateStep_kept fun y mem at' => ?_))
    have same : y.sum = p := only y (List.mem_append_left _ mem) at'
    obtain ⟨_, _, rfl⟩ := List.mem_map.mp mem
    have once : (q :: qs).Nodup := (List.sublist_append_right pre _).nodup (sums ▸ formed.sums_nodup)
    exact (List.nodup_cons.mp once).1 ((show q = p from same) ▸ h.mem)

/-! ## Counts of missing blocks and of saturations -/

theorem missingOf_append (as bs : List Block) (r : RemoteId) : missingOf (as ++ bs) r = missingOf as r + missingOf bs r :=
  List.countP_append

/-- Of remotes that are each expected once, one is counted at most once. -/
theorem countP_source {es : List Expected} (once : (es.map (·.remote)).Nodup) (r : RemoteId) (p : Expected → Bool) :
    (es.countP fun e => p e && e.remote = r) = if es.any fun e => p e && e.remote = r then 1 else 0 := by
  induction es with
  | nil => rfl
  | cons e es ih =>
    rw [List.map_cons, List.nodup_cons] at once
    rw [List.countP_cons, List.any_cons, ih once.2]
    by_cases here : (p e && e.remote = r) = true
    · have none : (es.any fun e => p e && e.remote = r) = false := by
        refine List.any_eq_false.mpr fun x mem found => once.1 (List.mem_map.mpr ⟨x, mem, ?_⟩)
        simp only [Bool.and_eq_true, decide_eq_true_eq] at here found
        exact found.2.trans here.2.symm
      rw [none, here]
      rfl
    · rw [if_neg here, Bool.eq_false_iff.mpr here, Bool.false_or, Nat.add_zero]

/-- Of the blocks of some sums, a remote misses one for each sum that waits for a block of it that is named and has no
samples. -/
theorem missingOf_blocksOf (once : ∀ q ∈ l, (q.waiting.map (·.remote)).Nodup) (r : RemoteId) :
    missingOf (blocksOf which samples l) r =
      (l.filter fun q => q.waiting.any fun e => which q e && (samples q e).isNone && e.remote = r).length := by
  induction l with
  | nil => rfl
  | cons q qs ih =>
    have first : missingOf ((q.waiting.filter (which q)).map fun e => ⟨q, e, samples q e⟩) r =
        if q.waiting.any fun e => which q e && (samples q e).isNone && e.remote = r then 1 else 0 := by
      rw [missingOf, List.countP_map, List.countP_filter,
        ← countP_source (once q List.mem_cons_self) r fun e => which q e && (samples q e).isNone]
      refine List.countP_congr fun e _ => ?_
      simp only [Function.comp_apply, Bool.and_eq_true]
      tauto
    have split : missingOf (blocksOf which samples (q :: qs)) r =
        missingOf ((q.waiting.filter (which q)).map fun e => ⟨q, e, samples q e⟩) r + missingOf (blocksOf which samples qs) r :=
      missingOf_append ..
    rw [split, first, ih fun p mem => once p (List.mem_cons_of_mem _ mem), List.filter_cons]
    split
    · rw [List.length_cons, Nat.add_comm]
    · rw [Nat.zero_add]

theorem countSaturations_eq {v : Vector Nat 32} {x : SectorId} (bounded : v[x] ≤ max16) (formed : List UplinkSum) :
    (countSaturations v formed)[x] =
      min (v[x] + ((formed.filter fun q => q.sector = x).map fun q => q.saturations).sum) max16 := by
  induction formed generalizing v with
  | nil => exact (Nat.min_eq_left bounded).symm
  | cons q qs ih =>
    have step : countSaturations v (q :: qs) = countSaturations (v.set q.sector (min (v[q.sector] + q.saturations) max16)) qs := rfl
    rw [step, List.filter_cons]
    by_cases here : q.sector = x
    · subst here
      have now : (v.set q.sector (min (v[q.sector] + q.saturations) max16))[q.sector] = min (v[q.sector] + q.saturations) max16 := by
        simp
      rw [ih (by rw [now]; exact Nat.min_le_right ..), now, if_pos (decide_eq_true rfl), List.map_cons, List.sum_cons]
      omega
    · have other : (v.set q.sector (min (v[q.sector] + q.saturations) max16))[x] = v[x] :=
        Vector.getElem_set_ne _ _ fun e => here (Fin.ext e)
      rw [ih (by rw [other]; exact bounded), other, if_neg (by simpa using here)]

end

end Sys2Proof.Machine.State
end

section
/-! SUPPORT. What missing blocks do to sums, gates and counters: at the block deadline, and in a bad frame (R10, R77, R78, R80). -/

namespace Sys2Proof.Machine.State

variable {s t : State} {pre : List UplinkSum} {which : UplinkSum → Expected → Bool}

/-- A sum of which every block is settled is formed. -/
theorem without_isEmpty (which : UplinkSum → Expected → Bool) (q : UplinkSum) :
    (without which q).waiting.isEmpty = q.waiting.all (which q) := by
  show (q.waiting.filter fun e => !which q e).isEmpty = _
  rw [Bool.eq_iff_iff, List.isEmpty_iff, List.filter_eq_nil_iff, List.all_eq_true]
  simp

/-- A sum of which no block is settled stays. -/
theorem without_of_none {q : UplinkSum} (none : ∀ e ∈ q.waiting, which q e = false) : without which q = q := by
  have all : (q.waiting.filter fun e => !which q e) = q.waiting :=
    List.filter_eq_self.mpr fun e mem => by rw [none e mem]; rfl
  unfold without
  rw [all]

section
variable (h : Settles s t [] (s.comb.sums.map (without which)) [] (blocksOf which noSamples s.comb.sums))
include h

theorem missing_sums : t.comb.sums = (s.comb.sums.filter fun q => !q.waiting.all (which q)).map (without which) := by
  rw [h.sums, List.nil_append, List.append_nil, List.filter_map]
  simp only [Function.comp_def, without_isEmpty]

theorem missing_outputs : t.comb.outputs = s.comb.outputs ++
    (s.comb.sums.filter fun q => q.waiting.all (which q) && !q.discard).map outputOf := by
  rw [h.outputs, List.filter_map, List.map_map]
  simp only [Function.comp_def, without_isEmpty]
  rfl

theorem missing_sat (formed : s.SumsFormed) (x : SectorId) : t.comb.sat[x] = min (s.comb.sat[x] +
    ((s.comb.sums.filter fun q => q.waiting.all (which q) && q.sector = x).map fun q => q.saturations).sum) max16 := by
  rw [h.sat, countSaturations_eq (formed.2.2.2 x), List.filter_filter, List.filter_map, List.map_map]
  simp only [Function.comp_def, without_isEmpty, Bool.and_comm]
  rfl

theorem missing_link (formed : s.SumsFormed) (r : RemoteId) : t.rl[r] = { s.rl[r] with
    missing := min (s.rl[r].missing +
      (s.comb.sums.filter fun q => q.waiting.any fun e => which q e && e.remote = r).length) max32 } := by
  rw [h.rest.link (formed.2.2.1 r), missingOf_blocksOf fun q mem => formed.mem_once mem]
  simp only [noSamples, Option.isNone_none, Bool.and_true]

/-- A gate of a remote and carrier of which no block is settled stays. -/
theorem missing_gate_kept {r : RemoteId} {c : CarrierId}
    (none : ∀ q ∈ s.comb.sums, q.carrier = c → ∀ e ∈ q.waiting, e.remote = r → which q e = false) : t.gate r c = s.gate r c := by
  refine (h.rest.gate_kept fun x mem ⟨remote, carrier⟩ => ?_).1
  obtain ⟨mem, waits, named, _⟩ := mem_blocksOf.mp mem
  exact Bool.eq_false_iff.mp (none x.sum mem carrier x.source waits remote) named

/-- A gate of which one block alone is settled as missing takes level 0 (R80, R81). -/
theorem missing_gate_taken (formed : s.SumsFormed) {r : RemoteId} {c : CarrierId} {q : UplinkSum} {e : Expected}
    (mem : q ∈ s.comb.sums) (waits : e ∈ q.waiting) (carrier : q.carrier = c) (remote : e.remote = r) (named : which q e = true)
    (only : ∀ p ∈ s.comb.sums, p.carrier = c → ∀ x ∈ p.waiting, x.remote = r → which p x = true → p = q)
    (none : .gateHoldExpiry r c ∉ s.due) : s.GateTakes t r c q 0 := by
  refine h.rest.gate_taken (x := ⟨q, e, noSamples q e⟩) (blocksOf_nodup formed) (mem_blocksOf.mpr ⟨mem, waits, named, rfl⟩)
    ⟨remote, carrier⟩ (fun y mem' ⟨remote', carrier'⟩ => ?_) none
  obtain ⟨sum, source, samples⟩ := y
  obtain ⟨mem', waits', named', same⟩ := mem_blocksOf.mp mem'
  dsimp only at *
  obtain rfl := only sum mem' carrier' source waits' remote' named'
  obtain rfl : source = e := List.inj_on_of_nodup_map (formed.mem_once mem) waits' waits (remote'.trans remote.symm)
  rw [same]

end

/-! ## The blocks of one remote -/

theorem all_of_remote {q : UplinkSum} (waits : q.waiting ≠ []) (r : RemoteId) (n : Nat) :
    (q.waiting.all fun e => e.remote = r && q.label ≤ n) =
      ((q.label ≤ n && q.waiting.any fun e => e.remote = r) && q.waiting.all fun e => e.remote = r) := by
  obtain ⟨e, mem⟩ := List.exists_mem_of_ne_nil _ waits
  rw [Bool.eq_iff_iff]
  simp only [List.all_eq_true, Bool.and_eq_true, decide_eq_true_eq, List.any_eq_true]
  exact ⟨fun all => ⟨⟨(all e mem).2, e, mem, (all e mem).1⟩, fun x h => (all x h).1⟩, fun ⟨⟨le, _⟩, all⟩ x h => ⟨all x h, le⟩⟩

theorem any_of_remote (q : UplinkSum) (r : RemoteId) (n : Nat) :
    (q.waiting.any fun e => (decide (e.remote = r) && decide (q.label ≤ n)) && decide (e.remote = r)) =
      (q.label ≤ n && q.waiting.any fun e => e.remote = r) := by
  rw [Bool.eq_iff_iff]
  simp only [Bool.and_eq_true, decide_eq_true_eq, List.any_eq_true]
  tauto

theorem without_of_remote (q : UplinkSum) (r : RemoteId) (n : Nat) : without (fun q e => e.remote = r && q.label ≤ n) q =
    if (q.label ≤ n && q.waiting.any fun e => e.remote = r) = true then
      { q with waiting := q.waiting.filter fun e => e.remote ≠ r } else q := by
  split
  · next ends =>
    have le : q.label ≤ n := by simpa using ((Bool.and_eq_true ..).mp ends).1
    unfold without
    simp only [le, decide_true, Bool.and_true, decide_not]
  · next stays =>
    refine without_of_none fun e mem => Bool.eq_false_iff.mpr fun named => stays ?_
    simp only [Bool.and_eq_true, decide_eq_true_eq, List.any_eq_true] at named ⊢
    exact ⟨named.2, e, mem, named.1⟩

/-! ## What settled blocks leave of the Measurement Unit -/

theorem countBlock_meas (s : State) (x : Block) : (s.countBlock x).meas =
    if x.samples.isNone then s.meas else (s.measureBlock x.sum x.source.remote x.level).meas := by
  have expired : (s.takeExpiry x.source.remote x.sum.carrier).meas = s.meas ∧
      (s.takeExpiry x.source.remote x.sum.carrier).tb = s.tb := by
    unfold takeExpiry
    split <;> exact ⟨rfl, rfl⟩
  have counted : (s.countBlock x).meas = ((s.takeExpiry x.source.remote x.sum.carrier).noteBlock x).meas := by
    unfold countBlock
    dsimp only
    split <;> rfl
  rw [counted]
  unfold noteBlock measureBlock heldOver
  cases x.samples with
  | none => exact expired.1
  | some xs =>
    dsimp only
    rw [expired.1, expired.2]
    split <;> rfl

/-- Missing blocks count nothing in the Measurement Unit. -/
theorem Beside.meas_of_missing {bs : List Block} (h : Beside s t bs) (missing : ∀ x ∈ bs, x.samples = none) :
    t.meas = s.meas := by
  have kept : ∀ (bs : List Block) (u : State), (∀ x ∈ bs, x.samples = none) → (bs.foldl countBlock u).meas = u.meas := by
    intro bs
    induction bs with
    | nil => exact fun _ _ => rfl
    | cons x bs ih =>
      intro u none
      rw [List.foldl_cons, ih _ fun y mem => none y (List.mem_cons_of_mem _ mem), countBlock_meas, none x List.mem_cons_self]
      rfl
  have meas := congrArg State.meas h
  exact meas.trans (kept _ _ missing)

/-! ## A bad frame -/

/-- A link record after a bad frame (R6, R8, R10, R13, R16). -/
def badRecord (l : RemoteLink) : RemoteLink :=
  match l.state with
  | .seek => { l with seekRun := 0 }
  | .mismatch => { l with alignErr := min (l.alignErr + 1) 4294967295 }
  | .isolated => { l with alignErr := min (l.alignErr + 1) 4294967295 }
  | .negotiate => { l with alignErr := min (l.alignErr + 1) 4294967295, badRun := min (l.badRun + 1) 8 }
  | .up => { l with alignErr := min (l.alignErr + 1) 4294967295, badRun := min (l.badRun + 1) 8 }
  | _ => l

/-- What the eighth bad frame in a row owes (R8, R10). -/
def badOwes (l : RemoteLink) (r : RemoteId) : List Instr :=
  if 7 ≤ l.badRun then
    match l.state with
    | .negotiate => [.negotiateAlignmentLoss r]
    | .up => [.linkLostEntry r]
    | _ => []
  else []

/-- The state after a bad frame is counted and, in UP, the blocks that it would have answered are missing. -/
def badCounted (s : State) (r : RemoteId) : State :=
  if s.rl[r].state = .up ∧ s.rl[r].nextAnswer ≤ s.tb.label then (s.modRl r badRecord).settleUpTo r s.rl[r].nextAnswer
  else s.modRl r badRecord

theorem modRl_congr {f g : RemoteLink → RemoteLink} {r : RemoteId} (same : f s.rl[r] = g s.rl[r]) : s.modRl r f = s.modRl r g := by
  unfold modRl
  rw [same]

theorem remoteBad_of_on {r : RemoteId} (on : s.rl[r].state ≠ .off) : s.remoteBad r =
    { s.badCounted r with due := (s.badCounted r).due ++ badOwes s.rl[r] r }.countAnswer r := by
  have limit : badRunLimit ≤ min (s.rl[r].badRun + 1) badRunLimit ↔ 7 ≤ s.rl[r].badRun := by
    rw [badRunLimit]
    omega
  have owed (t : State) (x : Instr) : (if 7 ≤ s.rl[r].badRun then t.owe [x] else t) =
      { t with due := t.due ++ if 7 ≤ s.rl[r].badRun then [x] else [] } := by
    split
    · rfl
    · rw [List.append_nil]
  have idle {g : RemoteLink → RemoteLink} (states : s.rl[r].state ≠ .negotiate ∧ s.rl[r].state ≠ .up)
      (record : badRecord s.rl[r] = g s.rl[r]) :
      { s.badCounted r with due := (s.badCounted r).due ++ badOwes s.rl[r] r } = s.modRl r g := by
    have none : badOwes s.rl[r] r = [] := by
      unfold badOwes
      split
      · split
        · next state => exact absurd state states.1
        · next state => exact absurd state states.2
        · rfl
      · rfl
    unfold badCounted
    rw [none, List.append_nil, if_neg fun h => states.2 h.1, modRl_congr record]
  unfold remoteBad
  simp only [limit, owed]
  split
  · next off => exact absurd off on
  · next seek => rw [idle (g := fun l => { l with seekRun := 0 }) (by rw [seek]; decide) (by unfold badRecord; rw [seek])]
  · next lost => rw [idle (g := id) (by rw [lost]; decide) (by unfold badRecord; rw [lost]; rfl), modRl_self]
  · next mismatch =>
    rw [idle (g := fun l => { l with alignErr := satInc max32 l.alignErr }) (by rw [mismatch]; decide)
      (by unfold badRecord; rw [mismatch]; rfl)]
  · next isolated =>
    rw [idle (g := fun l => { l with alignErr := satInc max32 l.alignErr }) (by rw [isolated]; decide)
      (by unfold badRecord; rw [isolated]; rfl)]
  · next negotiate =>
    have record : s.modRl r badRecord = s.modRl r fun l =>
        { l with alignErr := satInc max32 l.alignErr, badRun := min (s.rl[r].badRun + 1) badRunLimit } :=
      modRl_congr (by unfold badRecord; rw [negotiate]; rfl)
    have notUp : ¬ (s.rl[r].state = .up ∧ s.rl[r].nextAnswer ≤ s.tb.label) := fun h => by
      rw [negotiate] at h
      exact absurd h.1 (by decide)
    unfold badCounted badOwes
    rw [if_neg notUp, record, negotiate]
  · next up =>
    have record : s.modRl r badRecord = s.modRl r fun l =>
        { l with alignErr := satInc max32 l.alignErr, badRun := min (s.rl[r].badRun + 1) badRunLimit } :=
      modRl_congr (by unfold badRecord; rw [up]; rfl)
    unfold badCounted badOwes
    rw [record, up]
    simp only [true_and]
    rfl

/-- A bad frame is counted, settles what it would have answered, and the next one answers some later link frame. -/
theorem remoteBad_eq (s : State) (r : RemoteId) : ∃ n, s.remoteBad r =
    { (s.badCounted r).modRl r fun l => { l with nextAnswer := n } with
      due := (s.badCounted r).due ++ badOwes s.rl[r] r } := by
  by_cases off : s.rl[r].state = .off
  · refine ⟨s.rl[r].nextAnswer, ?_⟩
    have none : badOwes s.rl[r] r = [] := by
      unfold badOwes
      rw [off]
      exact ite_self _
    have same : s.badCounted r = s := by
      unfold badCounted
      rw [if_neg fun h => by rw [off] at h; exact absurd h.1 (by decide)]
      exact (modRl_congr (g := id) (by unfold badRecord; rw [off]; rfl)).trans (modRl_self s r)
    rw [remoteBad_of_off off, same, none, List.append_nil]
    exact (modRl_self s r).symm
  · rw [remoteBad_of_on off]
    exact countAnswer_eq _ r

theorem badCounted_of_not_up {r : RemoteId} (notUp : s.rl[r].state ≠ .up) : s.badCounted r = s.modRl r badRecord :=
  if_neg fun h => notUp h.1

theorem badCounted_beside (s : State) (r : RemoteId) :
    ∃ bs, Beside (s.modRl r badRecord) (s.badCounted r) bs ∧ ∀ x ∈ bs, x.source.remote = r ∧ x.samples = none := by
  unfold badCounted
  split
  · exact settleUpTo_beside _ _ _
  · exact ⟨[], rfl, nofun⟩

theorem badCounted_restOfSettling (s : State) (r : RemoteId) :
    (s.badCounted r).restOfSettling = (s.modRl r badRecord).restOfSettling := by
  unfold badCounted
  split
  · exact settleUpTo_restOfSettling _ _ _
  · rfl

/-- What a bad frame leaves of the link's record. -/
theorem badCounted_link (s : State) (r : RemoteId) :
    (s.badCounted r).rl[r] = { badRecord s.rl[r] with missing := (s.badCounted r).rl[r].missing } := by
  have link := link_of_restOfSettling (badCounted_restOfSettling s r) r
  rwa [modRl_same] at link

theorem badCounted_frame (s : State) (r : RemoteId) : s.badCounted r = { s with
    rl := (s.badCounted r).rl, due := (s.badCounted r).due
    comb := { s.comb with
      gates := (s.badCounted r).comb.gates, sums := (s.badCounted r).comb.sums, outputs := (s.badCounted r).comb.outputs
      sat := (s.badCounted r).comb.sat } } := by
  obtain ⟨bs, beside, all⟩ := badCounted_beside s r
  have meas : (s.badCounted r).meas = s.meas := beside.meas_of_missing fun x mem => (all x mem).2
  have frame := frame_of_restOfSettling (badCounted_restOfSettling s r)
  rw [meas] at frame
  exact frame

theorem badCounted_others {r q : RemoteId} (other : q ≠ r) :
    (s.badCounted r).rl[q] = s.rl[q] ∧ (s.badCounted r).comb.gates[q] = s.comb.gates[q] := by
  obtain ⟨bs, beside, all⟩ := badCounted_beside s r
  obtain ⟨rl, gates⟩ := beside.others (fun x mem => (all x mem).1) other
  exact ⟨rl.trans (modRl_other _ _ other), gates⟩

/-- A bad frame in UP settles as missing the remote's blocks up to the link frame that it would have answered. -/
theorem badCounted_settles {r : RemoteId} (up : s.rl[r].state = .up) (due : s.rl[r].nextAnswer ≤ s.tb.label)
    (formed : s.SumsFormed) : Settles (s.modRl r badRecord) (s.badCounted r) []
      (s.comb.sums.map (without fun q e => e.remote = r && q.label ≤ s.rl[r].nextAnswer)) []
      (blocksOf (fun q e => e.remote = r && q.label ≤ s.rl[r].nextAnswer) noSamples s.comb.sums) := by
  have formed' : (s.modRl r badRecord).SumsFormed := formed.modRl r fun l => by unfold badRecord; split <;> rfl
  unfold badCounted
  rw [if_pos ⟨up, due⟩]
  exact settleUpTo_settles formed' r s.rl[r].nextAnswer

theorem badRecord_of_up {l : RemoteLink} (up : l.state = .up) :
    badRecord l = { l with alignErr := min (l.alignErr + 1) 4294967295, badRun := min (l.badRun + 1) 8 } := by
  unfold badRecord
  rw [up]

theorem badRecord_missing (l : RemoteLink) : (badRecord l).missing = l.missing := by
  unfold badRecord
  split <;> rfl

/-- What the blocks that are missing with a bad frame in UP leave (R10, R77, R78, R80, R87). -/
structure BadFrameMisses (s t : State) (r : RemoteId) (ends : UplinkSum → Bool) : Prop where
  missing : t.rl[r].missing = min (s.rl[r].missing + (s.comb.sums.filter ends).length) max32
  sums : t.comb.sums = (s.comb.sums.filter fun q => !(ends q && q.waiting.all fun e => e.remote = r)).map (fun q =>
    if ends q then { q with waiting := q.waiting.filter fun e => e.remote ≠ r } else q)
  outputs : t.comb.outputs = s.comb.outputs ++
    (s.comb.sums.filter fun q => (ends q && q.waiting.all fun e => e.remote = r) && !q.discard).map outputOf
  sat : ∀ x : SectorId, t.comb.sat[x] = min (s.comb.sat[x] +
    ((s.comb.sums.filter fun q => (ends q && q.waiting.all fun e => e.remote = r) && q.sector = x).map fun q =>
      q.saturations).sum) max16
  kept : ∀ c : CarrierId, s.NoBlock s.rl[r].nextAnswer r c → t.gate r c = s.gate r c
  taken : ∀ (c : CarrierId) (q : UplinkSum), s.OnlyBlock s.rl[r].nextAnswer r c q → s.GateTakes t r c q 0

theorem badCounted_misses {r : RemoteId} (up : s.rl[r].state = .up) (due : s.rl[r].nextAnswer ≤ s.tb.label)
    (formed : s.SumsFormed) (none : s.due = []) : BadFrameMisses s (s.badCounted r) r fun q =>
      q.label ≤ s.rl[r].nextAnswer && q.waiting.any fun e => e.remote = r := by
  have settles := badCounted_settles up due formed
  have formed' : (s.modRl r badRecord).SumsFormed := formed.modRl r badRecord_missing
  have all : ∀ q ∈ s.comb.sums, _ := fun q mem => all_of_remote (formed.2.1 q mem).1 r s.rl[r].nextAnswer
  constructor
  case missing =>
    rw [missing_link settles formed' r, modRl_same]
    dsimp only
    rw [badRecord_missing]
    simp only [any_of_remote]
    rfl
  case sums =>
    refine (missing_sums settles).trans ?_
    rw [List.map_congr_left fun q _ => without_of_remote q r s.rl[r].nextAnswer]
    refine congrArg _ (List.filter_congr fun q mem => ?_)
    rw [all q mem]
  case outputs =>
    refine (missing_outputs settles).trans (congrArg (fun l => s.comb.outputs ++ l.map outputOf) (List.filter_congr fun q mem => ?_))
    rw [all q mem]
  case sat =>
    intro x
    refine (missing_sat settles formed' x).trans (congrArg (fun l : List UplinkSum =>
      min (s.comb.sat[x] + (l.map fun q => q.saturations).sum) max16) (List.filter_congr fun q mem => ?_))
    rw [all q mem]
  case kept =>
    intro c absent
    refine missing_gate_kept settles fun q mem carrier e waits remote => ?_
    rw [Bool.and_eq_false_iff]
    exact .inr (decide_eq_false fun le => absent q mem le carrier ⟨e, waits, remote⟩)
  case taken =>
    intro c q ⟨mem, le, carrier, ⟨e, waits, remote⟩, only⟩
    refine missing_gate_taken settles formed' mem waits carrier remote ?_ ?_ (by rw [show (s.modRl r badRecord).due = s.due from rfl, none]; exact List.not_mem_nil)
    · rw [decide_eq_true remote, decide_eq_true le]
      rfl
    · intro p mem' carrier' x waits' remote' named
      have le' := ((Bool.and_eq_true ..).mp named).2
      exact only p mem' (of_decide_eq_true le') carrier' ⟨x, waits', remote'⟩

end Sys2Proof.Machine.State
end

section
/-! The statement on a bad frame on a remote link. -/

namespace Sys2Proof.Proofs

open Sys2Proof.Machine Sys2Proof.Machine.State

/-- Settles O10: a bad frame is counted in its state, and in UP settles the blocks that it would have brought. -/
theorem remoteBadFrame : Obligations.RemoteBadFrame := by
  refine ⟨fun s r f quiet bad => ?_, followsRemote_eq_false_iff, fun s r quiet => ⟨_, exec_missingRemote_of_quiet r quiet, ?_⟩⟩
  · rw [exec_remoteFrame_of_quiet r f quiet, exec_missingRemote_of_quiet r quiet, remoteFrame_of_bad bad]
  obtain ⟨n, e⟩ := remoteBad_eq s r
  have off : s.rl[r].state = .off → s.remoteBad r = s := remoteBad_of_off
  have link : (s.remoteBad r).rl[r] =
      { badRecord s.rl[r] with missing := (s.badCounted r).rl[r].missing, nextAnswer := n } := by
    rw [e]
    dsimp only
    rw [modRl_same, badCounted_link]
  have due : (s.remoteBad r).due = (s.badCounted r).due ++ badOwes s.rl[r] r := by rw [e]
  have comb : (s.remoteBad r).comb = (s.badCounted r).comb := by rw [e]; rfl
  have others (q : RemoteId) (other : q ≠ r) : (s.remoteBad r).rl[q] = (s.badCounted r).rl[q] := by
    rw [e]
    dsimp only
    exact modRl_other _ _ other
  have frame := badCounted_frame s r
  have whole : s.remoteBad r = { s.badCounted r with rl := (s.remoteBad r).rl, due := (s.remoteBad r).due } := by
    rw [e]
    rfl
  generalize s.remoteBad r = t at *
  have quietDue (notUp : s.rl[r].state ≠ .up) : t.due = badOwes s.rl[r] r := by
    rw [due, badCounted_of_not_up notUp]
    show s.due ++ _ = _
    rw [quiet.2.1, List.nil_append]
  refine ⟨?_, off, ?_, ?_, ?_, ?_, ?_, ?_, fun q other => ?_, fun notUp => ?_, fun up => ⟨?_, fun later => ?_, fun due' formed => ?_⟩, ?_⟩
  · rw [link]
    unfold badRecord
    split <;> rfl
  · intro seek
    rw [link]
    unfold badRecord
    rw [seek]
    exact ⟨rfl, rfl⟩
  · intro lost
    rw [link]
    unfold badRecord
    rw [lost]
  · intro states
    rw [quietDue (by rcases states with h | h <;> rw [h] <;> decide), link]
    unfold badRecord badOwes
    rcases states with h | h <;> rw [h] <;> exact ⟨rfl, ite_self _⟩
  · intro states
    rw [link]
    unfold badRecord
    rcases states with h | h <;> rw [h] <;> exact ⟨rfl, rfl⟩
  · intro negotiate run
    rw [due]
    unfold badOwes
    rw [negotiate, if_pos run]
    exact List.mem_append_right _ List.mem_cons_self
  · intro up run
    rw [due]
    unfold badOwes
    rw [up, if_pos run]
    exact List.mem_append_right _ List.mem_cons_self
  · rw [others q other, comb]
    exact badCounted_others other
  · rw [badCounted_of_not_up notUp] at whole
    exact whole
  · rw [link, badRecord_of_up up]
  · have kept : s.badCounted r = s.modRl r badRecord := if_neg fun h => absurd h.2 (by omega)
    rw [comb, link, kept]
    refine ⟨?_, rfl⟩
    show ((s.modRl r badRecord).rl[r]).missing = _
    rw [modRl_same, badRecord_missing]
  · have misses := badCounted_misses up due' formed quiet.2.1
    have gate (c : CarrierId) : t.gate r c = (s.badCounted r).gate r c := by
      unfold State.gate
      rw [comb]
    rw [link, comb]
    refine ⟨misses.missing, misses.sums, misses.outputs, misses.sat, fun c none => ?_, fun c q only => ?_⟩
    · rw [gate, misses.kept c none]
    · obtain ⟨takes, owes⟩ := misses.taken c q only
      refine ⟨by rw [gate, takes], ?_⟩
      have others : .gateHoldExpiry r c ∉ badOwes s.rl[r] r := by
        unfold badOwes
        rw [up]
        split <;> simp
      rw [due, List.mem_append, or_iff_left others, owes]
  · rw [whole, frame]

end Sys2Proof.Proofs
end

section
/-! SUPPORT. A good frame on an UP remote link that answers a hub link frame: earlier blocks are missing, a STATUS word feeds
the filters, and the containers are unpacked (R4, R14, R77). -/

namespace Sys2Proof.Machine.State

variable {s : State} {r : RemoteId} {w : Word} {a : HubFrame} {p : List Byte}

/-- The blocks of link frames before the answered one are missing. -/
def settleEarlier (s : State) (r : RemoteId) (a : HubFrame) : State := if a.label = 0 then s else s.settleUpTo r (a.label - 1)

/-- A STATUS word in link frame 0 is applied. -/
def readStatus (s : State) (r : RemoteId) (w : Word) : State := if w.lf = 0 ∧ w.type = typeStatus then s.statusWord r w else s

/-- The good frame is counted, and blocks of earlier link frames are missing. -/
def heardUp (s : State) (r : RemoteId) (w : Word) (a : HubFrame) : State := (s.modRl r (countGood s.tb w)).settleEarlier r a

theorem remoteGood_of_up (up : s.rl[r].state = .up) (answers : answered s.tb.history w.low w.lf = some a) :
    s.remoteGood r w p = (((s.heardUp r w a).readStatus r w).takeBlocks r a.label p).modRl r fun l =>
      { l with nextAnswer := a.label + 1 } := by
  have heard : s.hearGood r w = s.modRl r (countGood s.tb w) := by
    rw [hearGood_eq, if_neg fun ⟨seek, _⟩ => by rw [up] at seek; contradiction, List.append_nil]
    rfl
  rw [remoteGood_eq, hearGood_history, answers, up, heard]
  rfl

/-! ## Before the word is read -/

theorem heardUp_beside (s : State) (r : RemoteId) (w : Word) (a : HubFrame) :
    ∃ bs, Beside (s.modRl r (countGood s.tb w)) (s.heardUp r w a) bs ∧ ∀ x ∈ bs, x.source.remote = r ∧ x.samples = none := by
  unfold heardUp settleEarlier
  split
  · exact ⟨[], rfl, nofun⟩
  · exact settleUpTo_beside ..

theorem heardUp_restOfSettling (s : State) (r : RemoteId) (w : Word) (a : HubFrame) :
    (s.heardUp r w a).restOfSettling = (s.modRl r (countGood s.tb w)).restOfSettling := by
  unfold heardUp settleEarlier
  split
  · rfl
  · exact settleUpTo_restOfSettling ..

theorem heardUp_link (up : s.rl[r].state = .up) : (s.heardUp r w a).rl[r] = { s.rl[r] with
    framesRx := min (s.rl[r].framesRx + 1) 4294967295, lastGood := some (s.tb.goodFrame w), badRun := 0
    missing := (s.heardUp r w a).rl[r].missing } := by
  have link := link_of_restOfSettling (heardUp_restOfSettling s r w a) r
  rwa [modRl_same, countGood_of_open (.inr up)] at link

/-! ## A STATUS word -/

theorem readStatus_of_not (other : ¬ (w.lf = 0 ∧ w.type = typeStatus)) : s.readStatus r w = s := if_neg other

theorem readStatus_frame (s : State) (r : RemoteId) (w : Word) : s.readStatus r w = { s with
    rl := (s.readStatus r w).rl, due := (s.readStatus r w).due } := by
  unfold readStatus
  split <;> rfl

theorem statusWord_rl (s : State) (r : RemoteId) (w : Word) :
    (s.statusWord r w).rl = (s.modRl r fun _ => statusRecord s.rl[r] w).rl := rfl

theorem statusWord_link (s : State) (r : RemoteId) (w : Word) : (s.statusWord r w).rl[r] = statusRecord s.rl[r] w := by
  rw [statusWord_rl, modRl_same]

theorem readStatus_other {q : RemoteId} (other : q ≠ r) : (s.readStatus r w).rl[q] = s.rl[q] := by
  have status : (s.statusWord r w).rl[q] = s.rl[q] := by rw [statusWord_rl, modRl_other _ _ other]
  unfold readStatus
  split
  · exact status
  · rfl

theorem readStatus_link (s : State) (r : RemoteId) (w : Word) : (s.readStatus r w).rl[r] = { s.rl[r] with
    flags := (s.readStatus r w).rl[r].flags, sleepAck := (s.readStatus r w).rl[r].sleepAck
    echoRun := (s.readStatus r w).rl[r].echoRun } := by
  unfold readStatus
  split
  · rw [statusWord_link]
    rfl
  · rfl

/-- A STATUS word owes changes of the remote's flags and its echo failure alone (R14). -/
theorem mem_statusWord_due {x : Instr} : x ∈ (s.statusWord r w).due ↔ x ∈ s.due ∨
    (∃ i : Fin 4, 3 ≤ (statusRecord s.rl[r] w).flags[i].run ∧ .farFlagChange r i = x) ∨
      3 ≤ (statusRecord s.rl[r] w).echoRun ∧ x = .echoFailure r := by
  unfold statusWord owe
  simp only [List.mem_append, List.mem_map, List.mem_filter, List.mem_finRange, true_and, decide_eq_true_eq]
  refine or_congr Iff.rfl (or_congr Iff.rfl ?_)
  split
  · next reached => exact ⟨fun h => ⟨reached, List.mem_singleton.mp h⟩, fun h => List.mem_singleton.mpr h.2⟩
  · next short => exact ⟨fun h => absurd h List.not_mem_nil, fun h => absurd h.1 short⟩

theorem statusRecord_flag (l : RemoteLink) (w : Word) (i : Fin 4) : (statusRecord l w).flags[i] =
    ⟨l.flags[i].present,
      if (w.payload.getD 0 0).getLsbD i.val = l.flags[i].present then 0 else min (l.flags[i].run + 1) 3⟩ := by
  unfold statusRecord
  rw [getElem_tab, FarFlag.filter, farRunLimit]
  split <;> rfl

theorem statusRecord_echo {l : RemoteLink} {c : Format} (format : l.format = some c) (w : Word) :
    (statusRecord l w).echoRun = if w.payload.getD 2 0 = formatCode (some c) then 0 else min (l.echoRun + 1) 3 := by
  unfold statusRecord
  simp only [format, ne_eq, reduceCtorEq, not_false_eq_true, formatOfCode_eq_some_iff, true_and]
  rfl

theorem statusRecord_eq (l : RemoteLink) (w : Word) : statusRecord l w = { l with
    flags := (statusRecord l w).flags, sleepAck := decide (w.payload.getD 1 0 ≠ 0)
    echoRun := (statusRecord l w).echoRun } := rfl

/-! ## The frame as a whole -/

/-- Everything that a good frame in UP leaves. -/
theorem remoteGood_of_up_frame (up : s.rl[r].state = .up) (answers : answered s.tb.history w.low w.lf = some a) :
    s.remoteGood r w p = { s with
      rl := (s.remoteGood r w p).rl, due := (s.remoteGood r w p).due, meas := (s.remoteGood r w p).meas
      comb := { s.comb with
        gates := (s.remoteGood r w p).comb.gates, sums := (s.remoteGood r w p).comb.sums
        outputs := (s.remoteGood r w p).comb.outputs, sat := (s.remoteGood r w p).comb.sat } } := by
  have frame := frame_of_restOfHearing (remoteGood_restOfHearing s r w p)
  have sup : (s.remoteGood r w p).sup = s.sup := by
    rw [remoteGood_of_up up answers]
    have taken := congrArg State.sup (takeBlocks_restOfSettling ((s.heardUp r w a).readStatus r w) r a.label p)
    have heard := congrArg State.sup (heardUp_restOfSettling s r w a)
    exact taken.trans ((congrArg State.sup (readStatus_frame ..)).trans heard)
  rw [sup] at frame
  exact frame

theorem remoteGood_of_up_link (up : s.rl[r].state = .up) (answers : answered s.tb.history w.low w.lf = some a) :
    (s.remoteGood r w p).rl[r] = { ((s.heardUp r w a).readStatus r w).rl[r] with
      nextAnswer := a.label + 1, missing := (s.remoteGood r w p).rl[r].missing } := by
  have link := link_of_restOfSettling (takeBlocks_restOfSettling ((s.heardUp r w a).readStatus r w) r a.label p) r
  rw [remoteGood_of_up up answers, modRl_same, link]

theorem remoteGood_of_up_other (up : s.rl[r].state = .up) (answers : answered s.tb.history w.low w.lf = some a) {q : RemoteId}
    (other : q ≠ r) : (s.remoteGood r w p).rl[q] = s.rl[q] ∧ (s.remoteGood r w p).comb.gates[q] = s.comb.gates[q] := by
  obtain ⟨bs, taken, all⟩ := takeBlocks_beside ((s.heardUp r w a).readStatus r w) r a.label p
  obtain ⟨cs, heard, all'⟩ := heardUp_beside s r w a
  obtain ⟨takenRl, takenGates⟩ := taken.others all other
  obtain ⟨heardRl, heardGates⟩ := heard.others (fun x mem => (all' x mem).1) other
  have readGates : ((s.heardUp r w a).readStatus r w).comb.gates = (s.heardUp r w a).comb.gates := by rw [readStatus_frame]
  rw [remoteGood_of_up up answers]
  refine ⟨?_, ?_⟩
  · rw [modRl_other _ _ other, takenRl, readStatus_other other, heardRl, modRl_other _ _ other]
  · refine takenGates.trans ?_
    rw [readGates]
    exact heardGates

/-- Blocks owe nothing but the expiries of gates, and the word what it owes by itself. -/
theorem mem_remoteGood_of_up_due (up : s.rl[r].state = .up) (answers : answered s.tb.history w.low w.lf = some a) {x : Instr}
    (other : ∀ q c, x ≠ .gateHoldExpiry q c) :
    x ∈ (s.remoteGood r w p).due ↔ x ∈ ((s.heardUp r w a).readStatus r w).due := by
  obtain ⟨bs, taken, _⟩ := takeBlocks_beside ((s.heardUp r w a).readStatus r w) r a.label p
  rw [remoteGood_of_up up answers]
  exact taken.mem_due other

theorem mem_heardUp_due {x : Instr} (other : ∀ q c, x ≠ .gateHoldExpiry q c) : x ∈ (s.heardUp r w a).due ↔ x ∈ s.due := by
  obtain ⟨cs, heard, _⟩ := heardUp_beside s r w a
  exact heard.mem_due other

end Sys2Proof.Machine.State
end

section
/-! The statement on STATUS words. -/

namespace Sys2Proof.Proofs

open Sys2Proof.Machine Sys2Proof.Machine.State

/-- A STATUS word in ORDERED. -/
theorem statusWord_in_ordered {s : State} {r : RemoteId} {f : RemoteFrame} {w : Word} {a : HubFrame} {c : Format}
    (negotiate : s.rl[r].state = .negotiate) (ordered : s.rl[r].phase = .ordered) (chosen : s.rl[r].chosen = some c)
    (parsed : parseWord f.word = some w) (status : w.type = typeStatus) (first : w.lf = 0)
    (follows : followsRemote s.rl[r] w = true) (answers : answered s.tb.history w.low 0 = some a) :
    s.remoteFrame r f = s.modRl r fun l => { l with
      framesRx := min (l.framesRx + 1) 4294967295, lastGood := some (s.tb.goodFrame w), badRun := 0
      nextAnswer := a.label + 1
      phase := if w.payload.getD 2 0 = formatCode (some c) then .confirmed else .ordered } := by
  have record : countGood s.tb w s.rl[r] = _ := countGood_of_open (.inl negotiate) s.tb w
  have phase : (s.modRl r (countGood s.tb w)).rl[r].phase = .ordered := by rw [modRl_same, record, ordered]
  have chosen : (s.modRl r (countGood s.tb w)).rl[r].chosen = some c := by rw [modRl_same, record, chosen]
  rw [remoteFrame_of_good (by rw [negotiate]; decide) parsed follows, remoteGood_of_negotiate negotiate first answers,
    negotiateWord_of_ordered phase chosen status, modRl_modRl, modRl_modRl]
  exact modRl_congr (by rw [record])

/-- Settles O22: a STATUS word in ORDERED and in UP, and the change of a flag that it owes. -/
theorem statusWords : Obligations.StatusWords := by
  refine ⟨fun s r f w a c quiet negotiate ordered chosen parsed status first follows answers => ?_,
    fun s r f w a c quiet up format parsed status first follows answers => ?_, fun s r i next up run => ?_⟩
  · refine ⟨_, exec_remoteFrame_of_quiet r f quiet, ?_⟩
    rw [statusWord_in_ordered negotiate ordered chosen parsed status first follows answers]
    exact ⟨modRl_same .., fun q other => modRl_other _ _ other, rfl⟩
  · have answers : answered s.tb.history w.low w.lf = some a := first ▸ answers
    refine ⟨_, exec_remoteFrame_of_quiet r f quiet, ?_⟩
    rw [remoteFrame_of_good (by rw [up]; decide) parsed follows]
    have read : (s.heardUp r w a).readStatus r w = (s.heardUp r w a).statusWord r w := if_pos ⟨first, status⟩
    have heard := heardUp_link (w := w) (a := a) up
    have flag (i : Fin 4) := statusRecord_flag (s.heardUp r w a).rl[r] w i
    have echo := statusRecord_echo (l := (s.heardUp r w a).rl[r]) (by rw [heard]; exact format) w
    have link := remoteGood_of_up_link (p := f.payload) up answers
    have due {x : Instr} (other : ∀ q c, x ≠ .gateHoldExpiry q c) : x ∈ (s.remoteGood r w f.payload).due ↔ _ :=
      (mem_remoteGood_of_up_due (p := f.payload) up answers other).trans (by rw [read, mem_statusWord_due, mem_heardUp_due other])
    rw [read, statusWord_link] at link
    have frame := remoteGood_of_up_frame (p := f.payload) up answers
    have comb := congrArg State.comb frame
    dsimp only at comb
    rw [← comb] at frame
    refine ⟨?_, fun i => ?_, fun i => ?_, ?_, fun q other => (remoteGood_of_up_other up answers other).1, frame⟩
    · have flags : (s.remoteGood r w f.payload).rl[r].flags = (statusRecord (s.heardUp r w a).rl[r] w).flags := by rw [link]
      rw [flags, link, statusRecord_eq, echo, heard]
    · rw [link]
      dsimp only
      rw [flag, heard]
    · rw [due (by simp), quiet.2.1, link]
      simp
    · rw [due (by simp), quiet.2.1, link]
      simp
  · refine ⟨_, exec_next next, ?_⟩
    dsimp only [effect]
    have change := farFlagChange_of_due (s := s.dropDue (.farFlagChange r i)) up run
    have link : ((s.dropDue (.farFlagChange r i)).modRl r fun l =>
        { l with flags := l.flags.set i ⟨!s.rl[r].flags[i].present, 0⟩ }).rl[r] =
          { s.rl[r] with flags := s.rl[r].flags.set i ⟨!s.rl[r].flags[i].present, 0⟩ } := modRl_same ..
    have others (q : RemoteId) (other : q ≠ r) : ((s.dropDue (.farFlagChange r i)).modRl r fun l =>
        { l with flags := l.flags.set i ⟨!s.rl[r].flags[i].present, 0⟩ }).rl[q] = s.rl[q] :=
      modRl_other (s.dropDue _) _ other
    have frame : ((s.dropDue (.farFlagChange r i)).modRl r fun l =>
        { l with flags := l.flags.set i ⟨!s.rl[r].flags[i].present, 0⟩ }) = { s with
          rl := ((s.dropDue (.farFlagChange r i)).modRl r fun l =>
            { l with flags := l.flags.set i ⟨!s.rl[r].flags[i].present, 0⟩ }).rl
          due := s.due.erase (.farFlagChange r i) } := rfl
    have record : (s.dropDue (.farFlagChange r i)).rl[r] = s.rl[r] := rfl
    rw [change, record]
    generalize ((s.dropDue (.farFlagChange r i)).modRl r fun l =>
      { l with flags := l.flags.set i ⟨!s.rl[r].flags[i].present, 0⟩ }) = u at *
    have rl (b c : Bool) : (u.hand ⟨farKind i, .remote r⟩ b c).rl = u.rl := by rw [hand_eq]
    rw [holds_farKind, rl, link]
    refine ⟨rfl, ?_, fun absent => ?_, others, ?_⟩
    · simp
    · rw [absent]
      exact hand_begin_recorded _ _
    · rw [hand_eq, frame]

end Sys2Proof.Proofs
end

section
/-! SUPPORT. The block deadline, and what the blocks of a good frame leave in sums, gates and the Measurement Unit (R77, R78, R80,
R81, R83 to R87, R99, R101, R102). -/

namespace Sys2Proof.Machine.State

variable {s t : State}

/-! ## The block deadline -/

theorem deadline_beside (s : State) (n : Nat) : ∃ bs, Beside s (s.deadline n) bs ∧ ∀ x ∈ bs, x.samples = none := by
  refine foldl_beside (fun b _ u => ?_) s
  obtain ⟨bs, beside, all⟩ := settleBlock_beside u b.1 b.2.1 b.2.2 none
  exact ⟨bs, beside, fun x mem => (all x mem).2⟩

theorem deadline_meas (s : State) (n : Nat) : (s.deadline n).meas = s.meas := by
  obtain ⟨bs, beside, all⟩ := deadline_beside s n
  exact beside.meas_of_missing all

theorem all_of_ends {q : UplinkSum} (waits : q.waiting ≠ []) (b : Bool) : (q.waiting.all fun _ => b) = b := by
  cases b with
  | true => exact List.all_eq_true.mpr fun _ _ => rfl
  | false =>
    obtain ⟨e, mem⟩ := List.exists_mem_of_ne_nil _ waits
    exact Bool.eq_false_iff.mpr fun all => absurd (List.all_eq_true.mp all e mem) (by decide)

theorem any_of_ends (q : UplinkSum) (b : Bool) (r : RemoteId) :
    (q.waiting.any fun e => b && decide (e.remote = r)) = (b && q.waiting.any fun e => e.remote = r) := by
  cases b <;> simp

/-- What the block deadline leaves of the sums, the counters and the gates (R77, R78, R80, R87). -/
structure DeadlineLeaves (s t : State) (n : Nat) : Prop where
  link : ∀ r : RemoteId, t.rl[r] = { s.rl[r] with missing := min (s.rl[r].missing +
    (s.comb.sums.filter fun q => q.label ≤ n && q.waiting.any fun e => e.remote = r).length) max32 }
  sums : t.comb.sums = s.comb.sums.filter fun q => !decide (q.label ≤ n)
  outputs : t.comb.outputs = s.comb.outputs ++ (s.comb.sums.filter fun q => q.label ≤ n && !q.discard).map outputOf
  sat : ∀ x : SectorId, t.comb.sat[x] = min (s.comb.sat[x] +
    ((s.comb.sums.filter fun q => q.label ≤ n && q.sector = x).map fun q => q.saturations).sum) max16
  kept : ∀ (r : RemoteId) (c : CarrierId), s.NoBlock n r c → t.gate r c = s.gate r c
  taken : ∀ (r : RemoteId) (c : CarrierId) (q : UplinkSum), s.OnlyBlock n r c q → s.GateTakes t r c q 0

theorem deadline_leaves (formed : s.SumsFormed) (none : s.due = []) (n : Nat) : DeadlineLeaves s (s.deadline n) n := by
  have settles := deadline_settles formed n
  have all : ∀ q ∈ s.comb.sums, (q.waiting.all fun _ => decide (q.label ≤ n)) = decide (q.label ≤ n) :=
    fun q mem => all_of_ends (formed.2.1 q mem).1 _
  constructor
  case link =>
    intro r
    rw [missing_link settles formed r]
    simp only [any_of_ends]
  case sums =>
    rw [missing_sums settles, List.filter_congr fun q mem => congrArg (!·) (all q mem)]
    refine (List.map_congr_left fun q mem => ?_).trans (List.map_id _)
    have later := (List.mem_filter.mp mem).2
    exact without_of_none fun e _ => by simpa using later
  case outputs =>
    rw [missing_outputs settles, List.filter_congr fun q mem => congrArg (· && !q.discard) (all q mem)]
  case sat =>
    intro x
    rw [missing_sat settles formed x, List.filter_congr fun q mem => congrArg (· && decide (q.sector = x)) (all q mem)]
  case kept =>
    intro r c absent
    exact missing_gate_kept settles fun q mem carrier e waits remote =>
      decide_eq_false fun le => absent q mem le carrier ⟨e, waits, remote⟩
  case taken =>
    intro r c q ⟨mem, le, carrier, ⟨e, waits, remote⟩, only⟩
    exact missing_gate_taken settles formed mem waits carrier remote (decide_eq_true le)
      (fun p mem' carrier' x waits' remote' named => only p mem' (of_decide_eq_true named) carrier' ⟨x, waits', remote'⟩)
      (by rw [none]; exact List.not_mem_nil)

/-! ## The Measurement Unit -/

/-- The activity count that a block of a link frame counts into: held apart or of the window (R99, R101). -/
def countAt (held : Bool) (m : Measurement) (r : RemoteId) (c : CarrierId) : Nat :=
  if held then m.heldActivity[r][c] else m.activity[r][c]

/-- The peak that a block of a link frame counts into (R99, R102). -/
def peakAt (held : Bool) (m : Measurement) (r : RemoteId) : Nat := if held then m.heldPeak[r] else m.peak[r]

/-- A block counted into the Measurement Unit. -/
def noteAt (held : Bool) (r : RemoteId) (m : Measurement) (x : Block) : Measurement :=
  let c := x.sum.carrier
  let active := if x.sum.levels.activity ≤ x.level then 1 else 0
  if held then
    { m with
      heldActivity := m.heldActivity.set r (m.heldActivity[r].set c (m.heldActivity[r][c] + active))
      heldPeak := m.heldPeak.set r (max m.heldPeak[r] x.level) }
  else
    { m with
      activity := m.activity.set r (m.activity[r].set c (m.activity[r][c] + active))
      peak := m.peak.set r (max m.peak[r] x.level) }

theorem measureBlock_meas (s : State) (x : Block) (r : RemoteId) :
    (s.measureBlock x.sum r x.level).meas = noteAt (s.heldOver x.sum) r s.meas x := by
  unfold measureBlock noteAt
  dsimp only
  split <;> rfl

/-- What counting leaves of the Measurement Unit. -/
structure Notes (held : Bool) (r : RemoteId) (m m' : Measurement) : Prop where
  apart : held = true → m' = { m with heldActivity := m'.heldActivity, heldPeak := m'.heldPeak }
  window : held = false → m' = { m with activity := m'.activity, peak := m'.peak }
  others : ∀ q : RemoteId, q ≠ r → m'.activity[q] = m.activity[q] ∧ m'.heldActivity[q] = m.heldActivity[q] ∧
    m'.peak[q] = m.peak[q] ∧ m'.heldPeak[q] = m.heldPeak[q]

theorem noteAt_notes (held : Bool) (r : RemoteId) (m : Measurement) (x : Block) : Notes held r m (noteAt held r m x) := by
  have row {α : Type} (v : Vector α 24) (a : α) (q : RemoteId) (other : q ≠ r) : (v.set r a)[q] = v[q] :=
    Vector.getElem_set_ne _ _ fun e => other (Fin.ext e.symm)
  cases held with
  | true => exact ⟨fun _ => rfl, nofun, fun q other => ⟨rfl, row _ _ q other, rfl, row _ _ q other⟩⟩
  | false => exact ⟨nofun, fun _ => rfl, fun q other => ⟨row _ _ q other, rfl, row _ _ q other, rfl⟩⟩

theorem countAt_noteAt (held : Bool) (r : RemoteId) (m : Measurement) (x : Block) (c : CarrierId) :
    countAt held (noteAt held r m x) r c =
      countAt held m r c + if x.sum.carrier = c ∧ x.sum.levels.activity ≤ x.level then 1 else 0 := by
  have entry (v : Vector (Vector Nat 24) 24) (n : Nat) : (v.set r (v[r].set x.sum.carrier (v[r][x.sum.carrier] + n)))[r][c] =
      v[r][c] + if x.sum.carrier = c then n else 0 := by
    by_cases same : x.sum.carrier = c
    · subst same
      simp
    · have apart : x.sum.carrier.val ≠ c.val := fun e => same (Fin.ext e)
      simp [same, Vector.getElem_set_ne _ _ apart]
  have both : (if x.sum.carrier = c then if x.sum.levels.activity ≤ x.level then 1 else 0 else 0) =
      if x.sum.carrier = c ∧ x.sum.levels.activity ≤ x.level then 1 else 0 := by
    rw [← ite_and]
  cases held with
  | true => exact (entry m.heldActivity _).trans (by rw [both]; rfl)
  | false => exact (entry m.activity _).trans (by rw [both]; rfl)

theorem peakAt_noteAt (held : Bool) (r : RemoteId) (m : Measurement) (x : Block) :
    peakAt held (noteAt held r m x) r = max (peakAt held m r) x.level := by
  cases held <;> simp [peakAt, noteAt]

/-- Blocks of a remote counted into the Measurement Unit, one after another. -/
def noteAll (held : Bool) (r : RemoteId) (m : Measurement) (bs : List Block) : Measurement := bs.foldl (noteAt held r) m

theorem Notes.trans {held : Bool} {r : RemoteId} {l m n : Measurement} (first : Notes held r l m) (rest : Notes held r m n) :
    Notes held r l n := by
  refine ⟨fun apart => ?_, fun window => ?_, fun q other => ?_⟩
  · rw [rest.apart apart, first.apart apart]
  · rw [rest.window window, first.window window]
  · obtain ⟨a, b, c, d⟩ := first.others q other
    obtain ⟨a', b', c', d'⟩ := rest.others q other
    exact ⟨a'.trans a, b'.trans b, c'.trans c, d'.trans d⟩

theorem noteAll_notes (held : Bool) (r : RemoteId) (m : Measurement) (bs : List Block) : Notes held r m (noteAll held r m bs) := by
  induction bs generalizing m with
  | nil => exact ⟨fun _ => rfl, fun _ => rfl, fun _ _ => ⟨rfl, rfl, rfl, rfl⟩⟩
  | cons x bs ih => exact (noteAt_notes held r m x).trans (ih _)

theorem countAt_noteAll (held : Bool) (r : RemoteId) (m : Measurement) (bs : List Block) (c : CarrierId) :
    countAt held (noteAll held r m bs) r c =
      countAt held m r c + bs.countP fun x => x.sum.carrier = c ∧ x.sum.levels.activity ≤ x.level := by
  induction bs generalizing m with
  | nil => rfl
  | cons x bs ih =>
    have step : noteAll held r m (x :: bs) = noteAll held r (noteAt held r m x) bs := rfl
    rw [step, ih, countAt_noteAt, List.countP_cons]
    simp only [decide_eq_true_eq]
    omega

theorem peakAt_noteAll_le_iff (held : Bool) (r : RemoteId) (m : Measurement) (bs : List Block) (n : Nat) :
    peakAt held (noteAll held r m bs) r ≤ n ↔ peakAt held m r ≤ n ∧ ∀ x ∈ bs, x.level ≤ n := by
  induction bs generalizing m with
  | nil => simp [noteAll]
  | cons x bs ih =>
    have step : noteAll held r m (x :: bs) = noteAll held r (noteAt held r m x) bs := rfl
    rw [step, ih, peakAt_noteAt, Nat.max_le, List.forall_mem_cons, and_assoc]

theorem countBlock_tb (s : State) (x : Block) : (s.countBlock x).tb = s.tb := by
  have expired : (s.takeExpiry x.source.remote x.sum.carrier).tb = s.tb := by
    unfold takeExpiry
    split <;> rfl
  have noted (u : State) : (u.noteBlock x).tb = u.tb := by
    unfold noteBlock measureBlock
    cases x.samples with
    | none => rfl
    | some xs => dsimp only; split <;> rfl
  unfold countBlock
  dsimp only
  split <;> exact (noted _).trans expired

/-- The blocks of one remote and link frame, those that have samples counted. -/
theorem foldl_countBlock_meas {r : RemoteId} {held : Bool} {bs : List Block}
    (one : ∀ x ∈ bs, x.source.remote = r ∧ s.heldOver x.sum = held) :
    (bs.foldl countBlock s).meas = noteAll held r s.meas (bs.filter fun x => !x.samples.isNone) := by
  induction bs generalizing s with
  | nil => rfl
  | cons x bs ih =>
    obtain ⟨remote, label⟩ := one x List.mem_cons_self
    have later : ∀ y ∈ bs, y.source.remote = r ∧ (s.countBlock x).heldOver y.sum = held := fun y mem => by
      have := one y (List.mem_cons_of_mem _ mem)
      unfold heldOver at *
      rwa [countBlock_tb]
    rw [List.foldl_cons, ih later, countBlock_meas, List.filter_cons]
    cases none : x.samples.isNone with
    | true => rfl
    | false =>
      rw [measureBlock_meas, label, remote]
      rfl

theorem Beside.meas {bs : List Block} (h : Beside s t bs) {r : RemoteId} {held : Bool}
    (one : ∀ x ∈ bs, x.source.remote = r ∧ s.heldOver x.sum = held) :
    t.meas = noteAll held r s.meas (bs.filter fun x => !x.samples.isNone) := by
  have meas := congrArg State.meas h
  exact meas.trans (foldl_countBlock_meas (s := s.besideSums) one)

end Sys2Proof.Machine.State
end

section
/-! SUPPORT. The blocks of a good frame on an UP remote link: those of earlier link frames, and those of the frame that it
answers (R4, R77, R80, R81, R83 to R87). -/

namespace Sys2Proof.Machine.State

variable {s : State} {r : RemoteId} {w : Word} {a : HubFrame} {p : List Byte}

/-- The blocks of a remote of the link frames up to one. -/
def ofRemoteTo (r : RemoteId) (n : Nat) (q : UplinkSum) (e : Expected) : Bool := e.remote = r && q.label ≤ n

/-- The blocks of a remote of one link frame. -/
def ofRemoteAt (r : RemoteId) (n : Nat) (q : UplinkSum) (e : Expected) : Bool := e.remote = r && q.label = n

/-- The blocks that a good frame settles as missing because they are of earlier link frames. -/
def earlierBlocks (s : State) (r : RemoteId) (a : HubFrame) : List Block :=
  blocksOf (ofRemoteTo r (a.label - 1)) noSamples s.comb.sums

/-- The blocks of the link frame that a good frame answers. -/
def answerBlocks (s : State) (r : RemoteId) (a : HubFrame) (p : List Byte) : List Block :=
  blocksOf (ofRemoteAt r a.label) (received p) s.comb.sums

theorem mem_earlierBlocks {x : Block} : x ∈ s.earlierBlocks r a ↔ x.sum ∈ s.comb.sums ∧ x.source ∈ x.sum.waiting ∧
    (x.source.remote = r ∧ x.sum.label ≤ a.label - 1) ∧ x.samples = none := by
  refine mem_blocksOf.trans (and_congr Iff.rfl (and_congr Iff.rfl (and_congr ?_ Iff.rfl)))
  rw [ofRemoteTo, Bool.and_eq_true, decide_eq_true_eq, decide_eq_true_eq]

theorem mem_answerBlocks {x : Block} : x ∈ s.answerBlocks r a p ↔ x.sum ∈ s.comb.sums ∧ x.source ∈ x.sum.waiting ∧
    (x.source.remote = r ∧ x.sum.label = a.label) ∧ x.samples = received p x.sum x.source := by
  refine mem_blocksOf.trans (and_congr Iff.rfl (and_congr Iff.rfl (and_congr ?_ Iff.rfl)))
  rw [ofRemoteAt, Bool.and_eq_true, decide_eq_true_eq, decide_eq_true_eq]

/-! ## The frame, its word and its blocks -/

theorem remoteGood_of_up_comb (up : s.rl[r].state = .up) (answers : answered s.tb.history w.low w.lf = some a) :
    (s.remoteGood r w p).comb = (((s.heardUp r w a).readStatus r w).takeBlocks r a.label p).comb ∧
      (s.remoteGood r w p).due = (((s.heardUp r w a).readStatus r w).takeBlocks r a.label p).due ∧
      (s.remoteGood r w p).meas = (((s.heardUp r w a).readStatus r w).takeBlocks r a.label p).meas := by
  rw [remoteGood_of_up up answers]
  exact ⟨rfl, rfl, rfl⟩

theorem readStatus_gate (s : State) (r q : RemoteId) (w : Word) (c : CarrierId) :
    (s.readStatus r w).gate q c = s.gate q c ∧
      (.gateHoldExpiry q c ∈ (s.readStatus r w).due ↔ .gateHoldExpiry q c ∈ s.due) := by
  refine ⟨by rw [readStatus_frame]; rfl, ?_⟩
  unfold readStatus
  split
  · rw [mem_statusWord_due]
    simp
  · rfl

/-! ## Blocks of earlier link frames -/

theorem readStatus_comb (s : State) (r : RemoteId) (w : Word) : (s.readStatus r w).comb = s.comb := by rw [readStatus_frame]

/-- Settling some blocks as missing leaves the others that their sums' tests name. -/
theorem blocksOf_without {which which' : UplinkSum → Expected → Bool} {samples : UplinkSum → Expected → Option (List IQ)}
    {l : List UplinkSum} (waits : ∀ q ∈ l, q.waiting ≠ []) (same : ∀ q, which' (without which q) = which' q)
    (apart : ∀ q e e', which' q e = true → which q e' = false) :
    blocksOf which' samples ((l.map (without which)).filter fun q => !q.waiting.isEmpty) = blocksOf which' samples l := by
  have cons (q : UplinkSum) (l : List UplinkSum) : blocksOf which' samples (q :: l) =
      ((q.waiting.filter (which' q)).map fun e => ⟨q, e, samples q e⟩) ++ blocksOf which' samples l := rfl
  induction l with
  | nil => rfl
  | cons q qs ih =>
    have ih := ih fun p mem => waits p (List.mem_cons_of_mem _ mem)
    rw [List.map_cons, List.filter_cons, cons q qs]
    cases named : q.waiting.filter (which' q) with
    | nil =>
      have none : (without which q).waiting.filter (which' (without which q)) = [] := by
        rw [same]
        exact List.sublist_nil.mp (named ▸ List.filter_sublist.filter _)
      split
      · rw [cons, none, ih]
        rfl
      · rw [ih]
        rfl
    | cons e es =>
      have holds := (List.mem_filter.mp (named ▸ List.mem_cons_self : e ∈ q.waiting.filter (which' q))).2
      have kept : without which q = q := without_of_none fun e' _ => apart q e e' holds
      have full : (!q.waiting.isEmpty) = true := by simpa using waits q List.mem_cons_self
      rw [kept, if_pos full, cons, ih, named]

section
variable (formed : s.SumsFormed)
include formed

theorem heardUp_formed (w : Word) (a : HubFrame) : (s.heardUp r w a).SumsFormed := by
  have counted : (s.modRl r (countGood s.tb w)).SumsFormed := formed.modRl r fun _ => rfl
  unfold heardUp settleEarlier
  split
  · exact counted
  · exact counted.settleUpTo ..

theorem heardUp_settles (w : Word) (later : 0 < a.label) : Settles (s.modRl r (countGood s.tb w)) (s.heardUp r w a) []
    (s.comb.sums.map (without (ofRemoteTo r (a.label - 1)))) [] (s.earlierBlocks r a) := by
  have counted : (s.modRl r (countGood s.tb w)).SumsFormed := formed.modRl r fun _ => rfl
  have heard : s.heardUp r w a = (s.modRl r (countGood s.tb w)).settleUpTo r (a.label - 1) := if_neg (by omega)
  rw [heard]
  exact settleUpTo_settles counted r _

theorem readStatus_formed (w : Word) (a : HubFrame) : ((s.heardUp r w a).readStatus r w).SumsFormed := by
  have heard := heardUp_formed (r := r) formed w a
  exact ite_keeps (heard.statusWord r w) heard

theorem heardUp_sums (w : Word) (later : 0 < a.label) : (s.heardUp r w a).comb.sums =
    (s.comb.sums.map (without (ofRemoteTo r (a.label - 1)))).filter fun q => !q.waiting.isEmpty := by
  rw [(heardUp_settles formed w later).sums, List.nil_append, List.append_nil]

/-- The blocks of the answered link frame are what they were. -/
theorem answerBlocks_heardUp (w : Word) (later : 0 < a.label) :
    ((s.heardUp r w a).readStatus r w).answerBlocks r a p = s.answerBlocks r a p := by
  unfold answerBlocks
  rw [readStatus_comb, heardUp_sums formed w later]
  refine blocksOf_without (fun q mem => (formed.2.1 q mem).1) (fun _ => rfl) fun q e e' named => ?_
  simp only [ofRemoteAt, ofRemoteTo, Bool.and_eq_true, decide_eq_true_eq, Bool.and_eq_false_iff, decide_eq_false_iff_not] at *
  omega

/-- A sum of the answered link frame is what it was. -/
theorem mem_heardUp_sums {q : UplinkSum} (later : 0 < a.label) (mem : q ∈ s.comb.sums) (label : q.label = a.label) :
    q ∈ ((s.heardUp r w a).readStatus r w).comb.sums := by
  have kept : without (ofRemoteTo r (a.label - 1)) q = q := without_of_none fun e _ => by
    simp only [ofRemoteTo, Bool.and_eq_false_iff, decide_eq_false_iff_not]
    omega
  rw [readStatus_comb, heardUp_sums formed w later]
  exact List.mem_filter.mpr ⟨List.mem_map.mpr ⟨q, mem, kept⟩, by simpa using (formed.2.1 q mem).1⟩

/-! ## Blocks of the answered link frame -/

theorem ofRemoteAt_single {q : UplinkSum} (mem : q ∈ s.comb.sums) (r : RemoteId) (n : Nat) :
    (q.waiting.filter (ofRemoteAt r n q)).length ≤ 1 := by
  have sub : (q.waiting.filter (ofRemoteAt r n q)).Sublist (q.waiting.filter fun e => e.remote = r) :=
    List.monotone_filter_right _ fun e named => ((Bool.and_eq_true ..).mp named).1
  refine sub.length_le.trans ?_
  rw [filter_source (formed.mem_once mem) r]
  cases q.waiting.find? fun e => e.remote = r <;> simp

/-- The containers of the frame are unpacked into the sums of the answered link frame. -/
theorem takeBlocks_took (w : Word) (later : 0 < a.label) (p : List Byte) : ∃ qs,
    Settles ((s.heardUp r w a).readStatus r w) (((s.heardUp r w a).readStatus r w).takeBlocks r a.label p) [] qs []
      (s.answerBlocks r a p) ∧
    List.Forall₂ (Took ((s.heardUp r w a).readStatus r w) (ofRemoteAt r a.label) (received p)
      ((s.heardUp r w a).readStatus r w).comb.sums) ((s.heardUp r w a).readStatus r w).comb.sums qs := by
  have formed' := readStatus_formed (r := r) formed w a
  have blocks := answerBlocks_heardUp (r := r) (p := p) formed w later
  generalize (s.heardUp r w a).readStatus r w = v at *
  rw [takeBlocks_eq formed', ← blocks]
  exact settleWhich_took (pre := []) rfl formed' fun q mem => ofRemoteAt_single formed' mem r a.label

/-! ## Gates -/

/-- The gate of a block of the answered link frame is as it was, if no block of it of an earlier one is left. -/
theorem heardUp_gate (w : Word) (later : 0 < a.label) (none : s.due = []) {c : CarrierId} {q : UplinkSum}
    (only : s.OnlyBlock a.label r c q) (now : q.label = a.label) :
    ((s.heardUp r w a).readStatus r w).gate r c = s.gate r c ∧
      .gateHoldExpiry r c ∉ ((s.heardUp r w a).readStatus r w).due := by
  obtain ⟨_, _, _, _, only⟩ := only
  have status := readStatus_gate (s.heardUp r w a) r r w c
  have heard := (heardUp_settles formed w later).rest.gate_kept (r := r) (c := c) fun y mem' at' => by
    obtain ⟨mem', waits', ⟨remote', label⟩, _⟩ := mem_earlierBlocks.mp mem'
    have sum := only y.sum mem' (by omega) at'.2 ⟨y.source, waits', remote'⟩
    rw [sum] at label
    omega
  refine ⟨status.1.trans heard.1, mt (status.2.trans heard.2).mp ?_⟩
  rw [show (s.modRl r (countGood s.tb w)).due = s.due from rfl, none]
  exact List.not_mem_nil

variable (up : s.rl[r].state = .up) (answers : answered s.tb.history w.low w.lf = some a) (later : 0 < a.label)
include up answers later

/-- A gate of which no block up to the answered link frame is left to settle stays. -/
theorem up_gate_kept {c : CarrierId} (absent : s.NoBlock a.label r c) : (s.remoteGood r w p).gate r c = s.gate r c := by
  obtain ⟨comb, _, _⟩ := remoteGood_of_up_comb (p := p) up answers
  obtain ⟨qs, took, _⟩ := takeBlocks_took (r := r) formed w later p
  have heard := (heardUp_settles (r := r) formed w later).rest.gate_kept (r := r) (c := c) fun x mem at' => by
    obtain ⟨mem, waits, ⟨remote, label⟩, _⟩ := mem_earlierBlocks.mp mem
    exact absent x.sum mem (by omega) at'.2 ⟨x.source, waits, remote⟩
  have taken := took.rest.gate_kept (r := r) (c := c) fun x mem at' => by
    obtain ⟨mem, waits, ⟨remote, label⟩, _⟩ := mem_answerBlocks.mp mem
    exact absent x.sum mem label.le at'.2 ⟨x.source, waits, remote⟩
  unfold gate at *
  rw [comb, taken.1, readStatus_comb, heard.1]
  rfl

/-- A gate of which one block alone is left to settle takes its level: none of an earlier link frame. -/
theorem up_gate_taken (none : s.due = []) {c : CarrierId} {q : UplinkSum} {e : Expected} (only : s.OnlyBlock a.label r c q)
    (waits : e ∈ q.waiting) (remote : e.remote = r) {x : Block}
    (block : x = ⟨q, e, if q.label = a.label then received p q e else Option.none⟩) :
    (s.remoteGood r w p).gate r c = (x.update (s.gate r c)).gate ∧
      (.gateHoldExpiry r c ∈ (s.remoteGood r w p).due ↔ (x.update (s.gate r c)).expires = true) := by
  have only' := only
  obtain ⟨mem, le, carrier, _, only⟩ := only
  obtain ⟨comb, due, _⟩ := remoteGood_of_up_comb (p := p) up answers
  obtain ⟨qs, took, _⟩ := takeBlocks_took (r := r) formed w later p
  have settles := heardUp_settles (r := r) formed w later
  have status := readStatus_gate (s.heardUp r w a) r r w c
  have whole (u : State) (h : u.comb = (((s.heardUp r w a).readStatus r w).takeBlocks r a.label p).comb) :
    u.gate r c = (((s.heardUp r w a).readStatus r w).takeBlocks r a.label p).gate r c := by
    unfold gate
    rw [h]
  have same (y : Block) (mem' : y.sum ∈ s.comb.sums) (waits' : y.source ∈ y.sum.waiting) (remote' : y.source.remote = r)
      (le' : y.sum.label ≤ a.label) (carrier' : y.sum.carrier = c) : y.sum = q ∧ y.source = e := by
    have sum := only y.sum mem' le' carrier' ⟨y.source, waits', remote'⟩
    rw [sum] at waits'
    exact ⟨sum, List.inj_on_of_nodup_map (formed.mem_once mem) waits' waits (remote'.trans remote.symm)⟩
  have before : (s.modRl r (countGood s.tb w)).gate r c = s.gate r c := rfl
  have noneBefore : .gateHoldExpiry r c ∉ (s.modRl r (countGood s.tb w)).due := by
    rw [show (s.modRl r (countGood s.tb w)).due = s.due from rfl, none]
    exact List.not_mem_nil
  rw [whole _ comb, due]
  by_cases now : q.label = a.label
  · rw [if_pos now] at block
    obtain ⟨stands, free⟩ := heardUp_gate formed w later none only' now
    rw [← stands]
    refine took.rest.gate_taken (blocksOf_nodup formed) (mem_answerBlocks.mpr ?_) ?_ (fun y mem' at' => ?_)
      free
    · rw [block]
      exact ⟨mem, waits, ⟨remote, now⟩, rfl⟩
    · rw [block]
      exact ⟨remote, carrier⟩
    · obtain ⟨sum, source, samples⟩ := y
      obtain ⟨mem', waits', ⟨remote', label⟩, samples'⟩ := mem_answerBlocks.mp mem'
      obtain ⟨rfl, rfl⟩ := same _ mem' waits' remote' label.le at'.2
      dsimp only at samples'
      rw [block, samples']
  · rw [if_neg now] at block
    have taken := took.rest.gate_kept (r := r) (c := c) fun y mem' at' => by
      obtain ⟨mem', waits', ⟨remote', label⟩, _⟩ := mem_answerBlocks.mp mem'
      exact now ((same y mem' waits' remote' label.le at'.2).1 ▸ label)
    rw [taken.1, taken.2, status.1, status.2, ← before]
    refine settles.rest.gate_taken (blocksOf_nodup formed) (mem_earlierBlocks.mpr ?_) ?_ (fun y mem' at' => ?_) noneBefore
    · rw [block]
      exact ⟨mem, waits, ⟨remote, by dsimp only; omega⟩, rfl⟩
    · rw [block]
      exact ⟨remote, carrier⟩
    · obtain ⟨sum, source, samples⟩ := y
      obtain ⟨mem', waits', ⟨remote', label⟩, samples'⟩ := mem_earlierBlocks.mp mem'
      obtain ⟨rfl, rfl⟩ := same _ mem' waits' remote' (by omega) at'.2
      dsimp only at samples'
      rw [block, samples']

end

end Sys2Proof.Machine.State
end

section
/-! SUPPORT. The missing blocks, the sums and the measurement of a good frame on an UP remote link (R16, R77, R83 to R87, R99,
R101, R102). -/

namespace Sys2Proof.Machine.State

variable {s : State} {r : RemoteId} {w : Word} {a : HubFrame} {p : List Byte}

/-- Two tests that exclude each other count together what one of them names. -/
theorem length_filter_or {α : Type} (f g h : α → Bool) (l : List α) (apart : ∀ x, f x = true → g x = false)
    (either : ∀ x, h x = (f x || g x)) : (l.filter f).length + (l.filter g).length = (l.filter h).length := by
  simp only [← List.countP_eq_length_filter]
  induction l with
  | nil => rfl
  | cons x l ih =>
    simp only [List.countP_cons, either x]
    cases first : f x with
    | true =>
      rw [apart x first]
      simp
      omega
    | false =>
      simp
      omega

/-- The missing blocks of a frame: those of earlier link frames, and of the answered one those without a container. -/
theorem missingOf_blocks (formed : s.SumsFormed) (later : 0 < a.label) :
    missingOf (s.earlierBlocks r a) r + missingOf (s.answerBlocks r a p) r =
      (s.comb.sums.filter fun q => q.waiting.any fun e => e.remote = r &&
        (decide (q.label < a.label) || decide (q.label = a.label) && (received p q e).isNone)).length := by
  unfold earlierBlocks answerBlocks
  rw [missingOf_blocksOf fun q mem => formed.mem_once mem, missingOf_blocksOf fun q mem => formed.mem_once mem]
  refine length_filter_or _ _ _ _ (fun q named => ?_) fun q => ?_
  · obtain ⟨e, _, named⟩ := List.any_eq_true.mp named
    refine List.any_eq_false.mpr fun e' _ named' => ?_
    simp only [ofRemoteTo, ofRemoteAt, Bool.and_eq_true, decide_eq_true_eq] at named named'
    omega
  · rw [Bool.eq_iff_iff]
    simp only [ofRemoteTo, ofRemoteAt, noSamples, Bool.or_eq_true, List.any_eq_true, Bool.and_eq_true, decide_eq_true_eq,
      Option.isNone_none, and_true]
    have before : q.label ≤ a.label - 1 ↔ q.label < a.label := by omega
    rw [before]
    constructor
    · rintro ⟨e, mem, remote, label | ⟨label, none⟩⟩
      · exact .inl ⟨e, mem, ⟨remote, label⟩, remote⟩
      · exact .inr ⟨e, mem, ⟨⟨remote, label⟩, none⟩, remote⟩
    · rintro (⟨e, mem, ⟨remote, label⟩, _⟩ | ⟨e, mem, ⟨⟨remote, label⟩, none⟩, _⟩)
      · exact ⟨e, mem, remote, .inl label⟩
      · exact ⟨e, mem, remote, .inr ⟨label, none⟩⟩

theorem eq_singleton_of_mem {α : Type} {l : List α} {x : α} (mem : x ∈ l) (few : l.length ≤ 1) : l = [x] := by
  cases l with
  | nil => contradiction
  | cons y l =>
    obtain rfl : l = [] := List.eq_nil_of_length_eq_zero (by rw [List.length_cons] at few; omega)
    rw [List.mem_singleton.mp mem]

/-- A settled block leaves its sum's sector and its mark. -/
theorem settledSum_sector (q : UplinkSum) (e : Expected) (passes : Bool) (block : Option (List IQ)) :
    (settledSum q e passes block).sector = q.sector ∧ (settledSum q e passes block).discard = q.discard := by
  unfold settledSum
  dsimp only
  split
  · split <;> exact ⟨rfl, rfl⟩
  · exact ⟨rfl, rfl⟩

theorem mem_of_forall₂_right {α β : Type} {R : α → β → Prop} {l : List α} {l' : List β} (all : List.Forall₂ R l l') {b : β}
    (mem : b ∈ l') : ∃ a ∈ l, R a b := by
  induction all with
  | nil => contradiction
  | cons first _ ih =>
    rcases List.mem_cons.mp mem with rfl | mem
    · exact ⟨_, List.mem_cons_self, first⟩
    · obtain ⟨a, mem, rel⟩ := ih mem
      exact ⟨a, List.mem_cons_of_mem _ mem, rel⟩

theorem mem_of_forall₂_left {α β : Type} {R : α → β → Prop} {l : List α} {l' : List β} (all : List.Forall₂ R l l') {a : α}
    (mem : a ∈ l) : ∃ b ∈ l', R a b := mem_of_forall₂_right all.flip mem

section
variable (formed : s.SumsFormed) (up : s.rl[r].state = .up) (answers : answered s.tb.history w.low w.lf = some a)
  (later : 0 < a.label)
include formed up answers later

theorem up_missing : (s.remoteGood r w p).rl[r].missing = min (s.rl[r].missing +
    (s.comb.sums.filter fun q => q.waiting.any fun e => e.remote = r &&
      (decide (q.label < a.label) || decide (q.label = a.label) && (received p q e).isNone)).length) max32 := by
  obtain ⟨qs, took, _⟩ := takeBlocks_took (r := r) formed w later p
  have heard := (heardUp_settles (r := r) formed w later).rest.link (r := r) (by rw [modRl_same]; exact formed.2.2.1 r)
  have taken := took.rest.link (r := r) ((readStatus_formed formed w a).2.2.1 r)
  rw [modRl_same] at heard
  have total : (s.remoteGood r w p).rl[r].missing =
      (((s.heardUp r w a).readStatus r w).takeBlocks r a.label p).rl[r].missing := by
    rw [remoteGood_of_up up answers, modRl_same]
  have read : ((s.heardUp r w a).readStatus r w).rl[r].missing = (s.heardUp r w a).rl[r].missing := by
    rw [readStatus_link]
  rw [total, taken]
  dsimp only
  rw [read, heard, ← missingOf_blocks formed later]
  show min (min (s.rl[r].missing + _) max32 + _) max32 = _
  omega

/-- A remote's blocks of the answered link frame and of earlier ones are settled. -/
theorem up_settled {q : UplinkSum} (mem : q ∈ (s.remoteGood r w p).comb.sums) (le : q.label ≤ a.label) {e : Expected}
    (waits : e ∈ q.waiting) : e.remote ≠ r := by
  intro remote
  obtain ⟨comb, _, _⟩ := remoteGood_of_up_comb (p := p) up answers
  obtain ⟨qs, took, all⟩ := takeBlocks_took (r := r) formed w later p
  rw [comb, took.sums, List.nil_append, List.append_nil] at mem
  obtain ⟨q', mem', was⟩ := mem_of_forall₂_right all (List.mem_of_mem_filter mem)
  have single := ofRemoteAt_single (readStatus_formed (r := r) formed w a) mem' r a.label
  cases named : q'.waiting.filter (ofRemoteAt r a.label q') with
  | nil =>
    obtain rfl := was.kept named
    have notNow : q.label ≠ a.label := fun label => by
      refine List.filter_eq_nil_iff.mp named e waits ?_
      rw [ofRemoteAt, decide_eq_true remote, decide_eq_true label]
      rfl
    rw [readStatus_comb, heardUp_sums formed w later] at mem'
    obtain ⟨p, _, rfl⟩ := List.mem_map.mp (List.mem_of_mem_filter mem')
    have label : p.label ≤ a.label - 1 := by
      have : (without (ofRemoteTo r (a.label - 1)) p).label = p.label := rfl
      omega
    have kept := (List.mem_filter.mp waits).2
    rw [ofRemoteTo, decide_eq_true remote, decide_eq_true label] at kept
    exact absurd kept (by decide)
  | cons x xs =>
    obtain rfl : xs = [] := by
      rw [named, List.length_cons] at single
      exact List.eq_nil_of_length_eq_zero (by omega)
    obtain ⟨passes, rfl, _⟩ := was.taken x named
    rw [settledSum_waiting] at waits
    have here := (List.mem_filter.mp (named ▸ List.mem_cons_self : x ∈ q'.waiting.filter (ofRemoteAt r a.label q'))).2
    simp only [ofRemoteAt, Bool.and_eq_true, decide_eq_true_eq] at here
    exact of_decide_eq_true (List.mem_filter.mp waits).2 (remote.trans here.1.symm)

/-- A block that is taken enters its sum when its gate is OPEN, and the sum is formed when it waits for no other. -/
theorem up_taken (none : s.due = []) {q : UplinkSum} {e : Expected} {xs : List IQ} {sum : UplinkSum}
    (only : s.OnlyBlock a.label r q.carrier q) (label : q.label = a.label) (waits : e ∈ q.waiting) (remote : e.remote = r)
    (samples : received p q e = some xs)
    (after : sum = settledSum q e ((⟨q, e, some xs⟩ : Block).update (s.gate r q.carrier)).passes (some xs)) :
    (sum.waiting ≠ [] → sum ∈ (s.remoteGood r w p).comb.sums) ∧
      (sum.waiting = [] → min (s.comb.sat[q.sector] + sum.saturations) max16 ≤ (s.remoteGood r w p).comb.sat[q.sector] ∧
        (q.discard = false → outputOf sum ∈ (s.remoteGood r w p).comb.outputs)) := by
  obtain ⟨comb, _, _⟩ := remoteGood_of_up_comb (p := p) up answers
  obtain ⟨qs, took, all⟩ := takeBlocks_took (r := r) formed w later p
  obtain ⟨gate, free⟩ := heardUp_gate formed w later none only label
  have formed' := readStatus_formed (r := r) formed w a
  have mem' := mem_heardUp_sums (r := r) (w := w) formed later only.1 label
  obtain ⟨sum', mem, was⟩ := mem_of_forall₂_left all mem'
  have named : q.waiting.filter (ofRemoteAt r a.label q) = [e] := by
    refine eq_singleton_of_mem (List.mem_filter.mpr ⟨waits, ?_⟩) (ofRemoteAt_single formed only.1 r a.label)
    rw [ofRemoteAt, decide_eq_true remote, decide_eq_true label]
    rfl
  obtain ⟨passes, same, decided⟩ := was.taken e named
  have passes' : passes = ((⟨q, e, some xs⟩ : Block).update (s.gate r q.carrier)).passes := by
    rw [decided fun x mem at' => ?_]
    · show (Block.update ⟨q, e, received p q e⟩ (gateNow _ e.remote q.carrier)).passes = _
      rw [samples, remote, gateNow_eq, if_neg free, gate]
    · have blocks := answerBlocks_heardUp (r := r) (p := p) formed w later
      unfold answerBlocks at blocks
      obtain ⟨_, _, _, _, only⟩ := only
      obtain ⟨mem, waits', ⟨remote', label'⟩, _⟩ := mem_answerBlocks.mp (blocks ▸ mem)
      exact only x.sum mem label'.le at'.2 ⟨x.source, waits', remote'⟩
  obtain rfl : sum' = sum := by rw [same, after, passes', samples]
  obtain ⟨sector, discards⟩ := settledSum_sector q e passes (received p q e)
  rw [← same] at sector discards
  have sat : s.comb.sat[q.sector] ≤ ((s.heardUp r w a).readStatus r w).comb.sat[q.sector] := by
    have counted : (s.modRl r (countGood s.tb w)).SumsFormed := formed.modRl r fun _ => rfl
    rw [readStatus_comb, missing_sat (heardUp_settles (r := r) formed w later) counted]
    exact Nat.le_min.mpr ⟨Nat.le_add_right .., formed.2.2.2 _⟩
  rw [comb]
  refine ⟨fun some => ?_, fun empty => ⟨?_, fun discard => ?_⟩⟩
  · rw [took.sums, List.nil_append, List.append_nil]
    exact List.mem_filter.mpr ⟨mem, by simpa using some⟩
  · rw [took.sat, countSaturations_eq (formed'.2.2.2 _)]
    have counted : sum'.saturations ∈ ((qs.filter fun p => p.waiting.isEmpty).filter fun p => p.sector = q.sector).map
        fun p => p.saturations :=
      List.mem_map.mpr ⟨sum', List.mem_filter.mpr ⟨List.mem_filter.mpr ⟨mem, by simpa using empty⟩, by simpa using sector⟩, rfl⟩
    have part := List.single_le_sum (fun _ _ => Nat.zero_le _) _ counted
    omega
  · rw [took.outputs]
    refine List.mem_append_right _ (List.mem_map.mpr ⟨sum', List.mem_filter.mpr ⟨mem, ?_⟩, rfl⟩)
    rw [empty, discards, discard]
    rfl

/-- The blocks of the answered link frame that have samples are counted into the Measurement Unit. -/
theorem up_meas : (s.remoteGood r w p).meas = noteAll (decide (a.label = s.tb.label)) r s.meas
    ((s.answerBlocks r a p).filter fun x => !x.samples.isNone) := by
  obtain ⟨_, _, meas⟩ := remoteGood_of_up_comb (p := p) up answers
  obtain ⟨qs, took, _⟩ := takeBlocks_took (r := r) formed w later p
  obtain ⟨bs, heard, missing⟩ := heardUp_beside s r w a
  have before : ((s.heardUp r w a).readStatus r w).meas = s.meas := by
    rw [readStatus_frame]
    exact heard.meas_of_missing fun x mem => (missing x mem).2
  have tb : ((s.heardUp r w a).readStatus r w).tb = s.tb := by
    have heard := congrArg State.tb (heardUp_restOfSettling s r w a)
    rw [readStatus_frame]
    exact heard
  rw [meas, ← before]
  refine took.rest.meas fun x mem => ?_
  obtain ⟨_, _, ⟨remote, label⟩, _⟩ := mem_answerBlocks.mp mem
  refine ⟨remote, ?_⟩
  unfold heldOver
  rw [tb, label]

end

end Sys2Proof.Machine.State
end

section
/-! The statement on blocks that settle, at the block deadline and in a good frame. -/

namespace Sys2Proof.Machine.State

variable {s : State} {r : RemoteId} {w : Word} {a : HubFrame} {p : List Byte}

/-- Where one element alone can pass a test, the test counts it or nothing. -/
theorem countP_only {α : Type} {l : List α} {x : α} {f : α → Bool} (once : l.Nodup) (mem : x ∈ l)
    (only : ∀ y ∈ l, f y = true → y = x) : l.countP f = if f x then 1 else 0 := by
  obtain ⟨as, bs, rfl⟩ := List.append_of_mem mem
  have absent := (List.nodup_cons.mp (List.nodup_middle.mp once)).1
  have none (l : List α) (sub : l ⊆ as ++ bs) : l.countP f = 0 := List.countP_eq_zero.mpr fun y mem holds => by
    have same := only y (by have := List.mem_append.mp (sub mem); simp only [List.mem_append, List.mem_cons]; tauto) holds
    exact absent (same ▸ sub mem)
  rw [List.countP_append, List.countP_cons, none as (by simp), none bs (by simp)]
  omega

/-- The samples of the block that a frame brings for an expected remote. -/
def Taken (s : State) (r : RemoteId) (a : HubFrame) (p : List Byte) (q : UplinkSum) (e : Expected) (xs : List IQ) : Prop :=
  q ∈ s.comb.sums ∧ q.label = a.label ∧ e ∈ q.waiting ∧ e.remote = r ∧
    blockFor e.format q.place.width q.carrier p = some xs

/-- The blocks of the answered link frame that have samples. -/
def takenBlocks (s : State) (r : RemoteId) (a : HubFrame) (p : List Byte) : List Block :=
  (s.answerBlocks r a p).filter fun x => !x.samples.isNone

theorem mem_takenBlocks {x : Block} :
    x ∈ s.takenBlocks r a p ↔ ∃ q e xs, s.Taken r a p q e xs ∧ x = ⟨q, e, some xs⟩ := by
  obtain ⟨q, e, b⟩ := x
  unfold takenBlocks Taken
  rw [List.mem_filter, mem_answerBlocks]
  constructor
  · rintro ⟨⟨mem, waits, ⟨remote, label⟩, samples⟩, some⟩
    dsimp only at *
    obtain ⟨xs, rfl⟩ : ∃ xs, b = Option.some xs := Option.isSome_iff_exists.mp (by simpa using some)
    exact ⟨q, e, xs, ⟨mem, label, waits, remote, samples.symm⟩, rfl⟩
  · rintro ⟨q', e', xs, ⟨mem, label, waits, remote, samples⟩, same⟩
    cases same
    exact ⟨⟨mem, waits, ⟨remote, label⟩, samples.symm⟩, rfl⟩

theorem takenBlocks_nodup (formed : s.SumsFormed) : (s.takenBlocks r a p).Nodup := (blocksOf_nodup formed).filter _

/-- A carrier has one block in a link frame. -/
theorem taken_unique (formed : s.SumsFormed) {q q' : UplinkSum} {e e' : Expected} {xs xs' : List IQ}
    (first : s.Taken r a p q e xs) (second : s.Taken r a p q' e' xs') (carrier : q'.carrier = q.carrier) :
    q' = q ∧ e' = e ∧ xs' = xs := by
  obtain ⟨mem, label, waits, remote, samples⟩ := first
  obtain ⟨mem', label', waits', remote', samples'⟩ := second
  obtain rfl := List.inj_on_of_nodup_map formed.1 mem' mem (Prod.ext (label'.trans label.symm) carrier)
  obtain rfl := List.inj_on_of_nodup_map (formed.mem_once mem) waits' waits (remote'.trans remote.symm)
  exact ⟨rfl, rfl, Option.some.inj (samples'.symm.trans samples)⟩

theorem countAt_eq (n : Nat) (m : Measurement) (c : CarrierId) : countAt (decide (n = s.tb.label)) m r c =
    if n = s.tb.label then m.heldActivity[r][c] else m.activity[r][c] := by
  unfold countAt
  simp only [decide_eq_true_eq]

theorem peakAt_eq (n : Nat) (m : Measurement) : peakAt (decide (n = s.tb.label)) m r =
    if n = s.tb.label then m.heldPeak[r] else m.peak[r] := by
  unfold peakAt
  simp only [decide_eq_true_eq]

/-- A taken block enters its sum when its gate passes it (R83 to R85). -/
theorem settledSum_of_some (q : UplinkSum) (e : Expected) (passes : Bool) (xs : List IQ) : settledSum q e passes (some xs) =
    { q with
      waiting := q.waiting.filter fun x => x.remote ≠ e.remote
      contributors := if passes then q.contributors + 1 else q.contributors
      acc := if passes then accumulate (e.m * stepT e.g / 4096) q.acc (expandBlock e.format xs) else q.acc } := by
  cases passes <;> rfl

/-- The link record after a good frame in UP. -/
theorem up_link (formed : s.SumsFormed) (up : s.rl[r].state = .up) (answers : answered s.tb.history w.low w.lf = some a)
    (later : 0 < a.label) : (s.remoteGood r w p).rl[r] = { s.rl[r] with
      framesRx := min (s.rl[r].framesRx + 1) 4294967295, lastGood := some (s.tb.goodFrame w), badRun := 0
      nextAnswer := a.label + 1, flags := (s.remoteGood r w p).rl[r].flags
      sleepAck := (s.remoteGood r w p).rl[r].sleepAck, echoRun := (s.remoteGood r w p).rl[r].echoRun
      missing := min (s.rl[r].missing + (s.comb.sums.filter fun q => q.waiting.any fun e => e.remote = r &&
        (decide (q.label < a.label) || decide (q.label = a.label) && (received p q e).isNone)).length) 4294967295 } := by
  have link := remoteGood_of_up_link (p := p) up answers
  have missing := up_missing (p := p) formed up answers later
  have max : max32 = 4294967295 := rfl
  rw [max] at missing
  rw [← missing]
  generalize (s.remoteGood r w p).rl[r] = l at *
  have flags : l.flags = ((s.heardUp r w a).readStatus r w).rl[r].flags := by rw [link]
  have sleepAck : l.sleepAck = ((s.heardUp r w a).readStatus r w).rl[r].sleepAck := by rw [link]
  have echoRun : l.echoRun = ((s.heardUp r w a).readStatus r w).rl[r].echoRun := by rw [link]
  rw [readStatus_link, heardUp_link up] at link
  rw [flags, sleepAck, echoRun]
  exact link

/-- Without a STATUS word in link frame 0 nothing of the filters changes, and nothing but gate expiries is owed. -/
theorem up_without_status (up : s.rl[r].state = .up) (answers : answered s.tb.history w.low w.lf = some a) (none : s.due = [])
    (other : ¬ (w.lf = 0 ∧ w.type = typeStatus)) : (s.remoteGood r w p).rl[r].flags = s.rl[r].flags ∧
      (s.remoteGood r w p).rl[r].sleepAck = s.rl[r].sleepAck ∧ (s.remoteGood r w p).rl[r].echoRun = s.rl[r].echoRun ∧
      ∀ x ∈ (s.remoteGood r w p).due, ∃ q c, x = .gateHoldExpiry q c := by
  have link := remoteGood_of_up_link (p := p) up answers
  rw [readStatus_of_not other, heardUp_link up] at link
  refine ⟨by rw [link], by rw [link], by rw [link], fun x mem => ?_⟩
  by_contra absent
  simp only [not_exists] at absent
  rw [mem_remoteGood_of_up_due up answers absent, readStatus_of_not other, mem_heardUp_due absent, none] at mem
  exact List.not_mem_nil mem

end Sys2Proof.Machine.State

namespace Sys2Proof.Proofs

open Sys2Proof.Machine Sys2Proof.Machine.State

/-- The block deadline settles what is not settled of earlier link frames (R77, R78). -/
theorem blocksSettle_deadline {s : State} (quiet : s.Quiet) (formed : s.SumsFormed) :
    let t := s.deadline (s.tb.label - 1)
    let ends : UplinkSum → Bool := fun q => q.label ≤ s.tb.label - 1
    (∀ r : RemoteId, t.rl[r] = { s.rl[r] with
      missing := min (s.rl[r].missing + (s.comb.sums.filter fun q => ends q && q.waiting.any fun e => e.remote = r).length)
        4294967295 }) ∧
    t.comb.sums = s.comb.sums.filter (fun q => !ends q) ∧
    t.comb.outputs = s.comb.outputs ++ ((s.comb.sums.filter fun q => ends q && !q.discard).map fun q =>
      ⟨q.label, q.carrier, q.place, q.samples⟩) ∧
    (∀ x : SectorId, t.comb.sat[x] = min (s.comb.sat[x] +
      ((s.comb.sums.filter fun q => ends q && q.sector = x).map fun q => q.saturations).sum) 65535) ∧
    (∀ (r : RemoteId) (c : CarrierId), s.NoBlock (s.tb.label - 1) r c → t.gate r c = s.gate r c) ∧
    ∀ (r : RemoteId) (c : CarrierId) (q : UplinkSum), s.OnlyBlock (s.tb.label - 1) r c q → s.GateTakes t r c q 0 := by
  obtain ⟨link, sums, outputs, sat, kept, taken⟩ := deadline_leaves formed quiet.2.1 (s.tb.label - 1)
  exact ⟨link, sums, outputs, sat, kept, taken⟩

/-- Settles O9: by what blocks leave one after another, at the deadline and in a frame. -/
theorem blocksSettle : Obligations.BlocksSettle := by
  refine ⟨fun s quiet => ⟨_, exec_blockDeadline_of_quiet quiet, ?_, fun formed => blocksSettle_deadline quiet formed⟩,
    fun s r f w a quiet formed up parsed follows answers later => ?_, fun _ _ => rfl, fun w as xs same => ?_⟩
  · have frame := frame_of_restOfSettling (deadline_restOfSettling s (s.tb.label - 1))
    rw [deadline_meas] at frame
    exact frame
  · intro count peak taken
    have none : s.due = [] := quiet.2.1
    refine ⟨_, exec_remoteFrame_of_quiet r f quiet, ?_⟩
    rw [remoteFrame_of_good (by rw [up]; decide) parsed follows]
    have meas := up_meas (p := f.payload) formed up answers later
    have notes := noteAll_notes (decide (a.label = s.tb.label)) r s.meas (s.takenBlocks r a f.payload)
    change _ = noteAll _ r s.meas (s.takenBlocks r a f.payload) at meas
    rw [← meas] at notes
    have counts (c : CarrierId) : count (s.remoteGood r w f.payload).meas c = count s.meas c +
        (s.takenBlocks r a f.payload).countP fun x => x.sum.carrier = c ∧ x.sum.levels.activity ≤ x.level := by
      have all := countAt_noteAll (decide (a.label = s.tb.label)) r s.meas (s.takenBlocks r a f.payload) c
      rw [← meas, countAt_eq, countAt_eq] at all
      exact all
    have peaks (n : Nat) : peak (s.remoteGood r w f.payload).meas ≤ n ↔ peak s.meas ≤ n ∧
        ∀ x ∈ s.takenBlocks r a f.payload, x.level ≤ n := by
      have all := peakAt_noteAll_le_iff (decide (a.label = s.tb.label)) r s.meas (s.takenBlocks r a f.payload) n
      rw [← meas, peakAt_eq, peakAt_eq] at all
      exact all
    refine ⟨remoteGood_of_up_frame up answers, up_link formed up answers later, up_without_status up answers none,
      fun q other => ?_, fun q mem le e waits => up_settled formed up answers later mem le waits,
      fun c absent => up_gate_kept formed up answers later absent, fun apart => notes.apart (decide_eq_true apart),
      fun window => notes.window (decide_eq_false window), fun c absent => ?_, ⟨?_, fun n least all => ?_⟩,
      fun c q only absent => ?_, fun q e xs took => ⟨?_, ?_, fun only => ?_⟩⟩
    · obtain ⟨rl, gates⟩ := remoteGood_of_up_other (p := f.payload) up answers other
      exact ⟨rl, gates, notes.others q other⟩
    · rw [counts, List.countP_eq_zero.mpr, Nat.add_zero]
      intro x mem here
      obtain ⟨q, e, xs, took, rfl⟩ := mem_takenBlocks.mp mem
      exact absent q e xs took (of_decide_eq_true here).1
    · exact ((peaks _).mp le_rfl).1
    · refine (peaks n).mpr ⟨least, fun x mem => ?_⟩
      obtain ⟨q, e, xs, took, rfl⟩ := mem_takenBlocks.mp mem
      exact all q e xs took
    · obtain ⟨mem, le, carrier, ⟨e, waits, remote⟩, unique⟩ := only
      have missing : (if q.label = a.label then received f.payload q e else Option.none) = Option.none := by
        split
        · next label =>
          exact Option.eq_none_iff_forall_not_mem.mpr fun xs samples => absent e xs ⟨mem, label, waits, remote, samples⟩
        · rfl
      exact up_gate_taken formed up answers later none ⟨mem, le, carrier, ⟨e, waits, remote⟩, unique⟩ waits remote
        (x := ⟨q, e, Option.none⟩) (by rw [missing])
    · have mem := mem_takenBlocks.mpr ⟨q, e, xs, took, rfl⟩
      rw [counts, countP_only (takenBlocks_nodup formed) mem fun y mem' here => ?_]
      · simp only [true_and, decide_eq_true_eq]
        rfl
      · obtain ⟨q', e', xs', took', rfl⟩ := mem_takenBlocks.mp mem'
        obtain ⟨rfl, rfl, rfl⟩ := taken_unique formed took took' (of_decide_eq_true here).1
        rfl
    · exact ((peaks _).mp le_rfl).2 _ (mem_takenBlocks.mpr ⟨q, e, xs, took, rfl⟩)
    · intro opened sum
      obtain ⟨mem, label, waits, remote, samples⟩ := took
      have block : (⟨q, e, some xs⟩ : Block) = ⟨q, e, if q.label = a.label then received f.payload q e else Option.none⟩ := by
        rw [if_pos label, ← samples]
        rfl
      have after : sum = settledSum q e opened (some xs) := by
        rw [settledSum_of_some, remote]
      obtain ⟨stays, forms⟩ := up_taken (p := f.payload) formed up answers later none only label waits remote samples after
      exact ⟨up_gate_taken formed up answers later none only waits remote block, stays, forms⟩
  · induction as generalizing xs with
    | nil =>
      obtain rfl := List.eq_nil_of_length_eq_zero same.symm
      rfl
    | cons b as ih =>
      cases xs with
      | nil => contradiction
      | cons x xs => rw [accumulate, List.zipWith_cons_cons, ih xs (Nat.succ.inj same)]

end Sys2Proof.Proofs
end

section
/-! SUPPORT. What a boundary counts and owes (R8, R11, R20, R22, R25, R31, R41, R51, R98, R111, R136, R146, R148, R154, R169,
R193, R194). -/

namespace Sys2Proof.Machine.State

variable {s : State}

/-- The state at a boundary after its counts and timers, before the steps that it owes are noted. -/
def ticked (s : State) : State := { (s.deadline (s.tb.label - 1)).tickBoundary with
  boundary := some (s.deadline (s.tb.label - 1)).closingView }

theorem releases_eq (v : State) (l : List Instr) :
    (if (v.owe l).warmDue || (v.owe l).meas.windowCloses then v.owe l else { v.owe l with meas := (v.owe l).meas.release }) =
      { v with
        due := v.due ++ l, meas := if v.warmDue || v.meas.windowCloses then v.meas else v.meas.release } := by
  have warm : (v.owe l).warmDue = v.warmDue := rfl
  have meas : (v.owe l).meas = v.meas := rfl
  rw [warm, meas]
  split <;> rfl

theorem makeBoundary_eq (s : State) : s.makeBoundary false = { s.ticked with
    due := s.ticked.due ++ s.ticked.owedAtBoundary
    meas := if s.ticked.warmDue || s.ticked.meas.windowCloses then s.ticked.meas else s.ticked.meas.release } := by
  unfold makeBoundary ticked
  exact releases_eq _ _

theorem ticked_frame (s : State) : s.ticked = { s with
    tb := { s.tb with count := s.tb.count + 1, lf := none }, rl := s.ticked.rl
    ol := tab fun o => s.ol[o].tick, trunk := s.trunk.tick
    mode := { s.mode with isolated := s.mode.isolated.map IsoEntry.tick }
    meas := { s.meas with position := s.meas.position + 1 }
    boundary := some s.closingView, due := s.ticked.due
    comb := { s.comb with
      gates := s.ticked.comb.gates, sums := s.ticked.comb.sums
      outputs := s.ticked.comb.outputs, sat := s.ticked.comb.sat } } := by
  have frame := frame_of_restOfSettling (deadline_restOfSettling s (s.tb.label - 1))
  rw [deadline_meas] at frame
  unfold ticked
  generalize s.deadline (s.tb.label - 1) = u at *
  rw [frame]
  rfl

theorem ticked_due (s : State) : s.ticked.due = (s.deadline (s.tb.label - 1)).due := by
  unfold ticked
  generalize s.deadline (s.tb.label - 1) = u
  dsimp only [tickBoundary]

theorem mem_ticked_due (none : s.due = []) {x : Instr} (mem : x ∈ s.ticked.due) : ∃ r c, x = .gateHoldExpiry r c := by
  obtain ⟨bs, beside, _⟩ := deadline_beside s (s.tb.label - 1)
  by_contra absent
  simp only [not_exists] at absent
  rw [ticked_due] at mem
  have before : x ∈ s.due := (beside.mem_due absent).mp mem
  rw [none] at before
  exact List.not_mem_nil before

theorem inProgress_iff (p : Option InProgress) (c : Timed) : p.map (·.cmd) = some c ↔ ∃ tag, p = some ⟨tag, c⟩ := by
  rw [Option.map_eq_some_iff]
  constructor
  · rintro ⟨⟨tag, cmd⟩, rfl, rfl⟩
    exact ⟨tag, rfl⟩
  · rintro ⟨tag, rfl⟩
    exact ⟨_, rfl, rfl⟩

theorem coldDue_iff : s.coldDue = true ↔ (∃ tag, s.mgmt.control = some ⟨tag, .cold⟩) ∧ ∀ x ∈ s.mgmt.due, x.isCold = false := by
  rw [coldDue, Bool.and_eq_true, decide_eq_true_eq, inProgress_iff, Bool.not_eq_true', List.any_eq_false]
  simp only [Bool.not_eq_true]

theorem warmDue_iff : s.warmDue = true ↔ ∃ tag, s.mgmt.control = some ⟨tag, .warm⟩ := by
  rw [warmDue, decide_eq_true_eq, inProgress_iff]

/-- The steps of a boundary that no cold reset stands in place of. -/
theorem mem_owedAtBoundary {x : Instr} (none : s.coldDue = false) : x ∈ s.owedAtBoundary ↔
    x ∈ s.owedLinks ∨ x ∈ s.owedPlans ∨ (x = .pendingIsolationApply ∧ s.mode.pendingIso.isSome = true) ∨
      x ∈ s.owedWindow ∨ x = .alertPlacement := by
  unfold owedAtBoundary
  rw [none]
  simp only [Bool.false_eq_true, if_false, List.mem_append, List.mem_ite_nil_right, List.mem_singleton, or_assoc, and_comm]

theorem mem_owedLinks {x : Instr} : x ∈ s.owedLinks ↔
    (∃ c, (s.carrier c).set ≠ (s.carrier c).eff ∧ x = .levelFieldTakesEffect c) ∨
    (∃ r : RemoteId, (s.rl[r].m ≠ s.rl[r].mEff ∨ s.rl[r].pmax ≠ s.rl[r].pmaxEff) ∧ x = .linkSettingsTakeEffect r) ∨
    (∃ e ∈ s.mode.isolated, e.timer = some 0 ∧ x = .isolationTimerExpiry e.remote) ∨
    (∃ l, ((s.term l).state = .lost ∧ 50 ≤ (s.term l).holdTimer) ∧ x = .linkLostHoldEnd l) ∨
    (∃ r : RemoteId, (s.rl[r].state = .negotiate ∧ s.rl[r].phase = .confirmed) ∧ x = .linkEntersUp r) ∨
    (∃ r : RemoteId, (s.rl[r].state = .negotiate ∧ 10 ≤ s.rl[r].negTimer) ∧ x = .negotiationTimeout r) ∨
    ∃ r : RemoteId, (s.rl[r].state = .lost ∧ 50 ≤ s.rl[r].holdTimer) ∧ x = .lostHoldEnd r := by
  have terms (l : TermLinkId) : l ∈ [TermLinkId.trunk] ++ allOps.map TermLinkId.op := by
    cases l <;> simp [allOps]
  unfold owedLinks
  simp only [List.mem_append, List.mem_map, List.mem_filter, terms, true_and, allCarriers, allRemotes, List.mem_finRange,
    decide_eq_true_eq, Bool.and_eq_true, Bool.or_eq_true, or_assoc, eq_comm (b := x), and_assoc]
  rfl

theorem mem_owedPlans {x : Instr} : x ∈ s.owedPlans ↔ s.warmDue = false ∧
    ((∃ o, s.isArmed o = true ∧ x = .switchover o) ∨
      (x = .hubModeDecision ∧ (s.mode.requested.isSome = true ∨ s.mode.auto.isSome = true))) := by
  unfold owedPlans
  cases s.warmDue with
  | true => simp
  | false =>
    simp only [Bool.false_eq_true, if_false, true_and, List.mem_append, List.mem_map, List.mem_filter, allOps, List.mem_finRange,
      List.mem_ite_nil_right, List.mem_singleton, Bool.or_eq_true, eq_comm (b := x), and_comm]

theorem mem_owedWindow {x : Instr} : x ∈ s.owedWindow ↔ (x = .warmResetApplied ∧ s.warmDue = true) ∨
    (x = .windowEnd ∧ s.warmDue = false ∧ s.meas.windowCloses = true) := by
  unfold owedWindow
  cases s.warmDue <;> cases s.meas.windowCloses <;> simp

theorem isArmed_iff {o : OpId} : s.isArmed o = true ↔ ∃ origin e, (s.opPlan o).state = .armed origin e := by
  unfold isArmed
  split <;> simp_all

/-! ## Timers -/

theorem RemoteLink_tick_eq (l : RemoteLink) : l.tick = { l with
    negTimer := if l.state = .negotiate ∧ l.phase ≠ .confirmed then min (l.negTimer + 1) 10 else l.negTimer
    holdTimer := if l.state = .lost then min (l.holdTimer + 1) 50 else l.holdTimer } := by
  unfold RemoteLink.tick
  split
  · next negotiate =>
    have notLost : l.state ≠ .lost := by rw [negotiate]; decide
    rw [if_neg notLost]
    by_cases confirmed : l.phase = .confirmed
    · rw [if_pos confirmed, if_neg fun h => h.2 confirmed]
    · rw [if_neg confirmed, if_pos ⟨negotiate, confirmed⟩]
      rfl
  · next lost =>
    rw [if_pos lost, if_neg fun h => by rw [lost] at h; exact absurd h.1 (by decide)]
    rfl
  · next notNegotiate notLost => rw [if_neg notLost, if_neg fun h => notNegotiate h.1]

theorem ticked_rl (s : State) (r : RemoteId) : s.ticked.rl[r] = (s.makeBoundary false).rl[r] := by rw [makeBoundary_eq]

theorem ticked_term (s : State) (l : TermLinkId) : s.ticked.term l = (s.term l).tick := by
  rw [ticked_frame]
  cases l with
  | op o => exact getElem_tab _ o
  | trunk => rfl

theorem ticked_carrier (s : State) (c : CarrierId) : s.ticked.carrier c = s.carrier c := by
  rw [ticked_frame]
  rfl

theorem ticked_opPlan (s : State) (o : OpId) : s.ticked.opPlan o = s.opPlan o := by
  rw [ticked_frame]
  rfl

theorem ticked_mode (s : State) : s.ticked.mode = { s.mode with isolated := s.mode.isolated.map IsoEntry.tick } := by
  rw [ticked_frame]

theorem ticked_meas (s : State) : s.ticked.meas = { s.meas with position := s.meas.position + 1 } := by
  rw [ticked_frame]

/-- A link record after a boundary, spelled out. -/
theorem makeBoundary_link (s : State) (r : RemoteId) : ∃ n, (s.makeBoundary false).rl[r] = { s.rl[r] with
    negTimer := if s.rl[r].state = .negotiate ∧ s.rl[r].phase ≠ .confirmed then min (s.rl[r].negTimer + 1) 10
      else s.rl[r].negTimer
    holdTimer := if s.rl[r].state = .lost then min (s.rl[r].holdTimer + 1) 50 else s.rl[r].holdTimer
    lastGood := s.rl[r].lastGood.map fun g => if g.label = some s.tb.label then ⟨g.label, 0⟩ else g
    missing := n } := by
  refine ⟨(s.deadline (s.tb.label - 1)).rl[r].missing, ?_⟩
  rw [makeBoundary_rl, RemoteLink_tick_eq]
  rfl

theorem IsoEntry_tick_timer (e : IsoEntry) : e.tick.timer = some 0 ↔ e.timer = some 0 ∨ e.timer = some 1 := by
  unfold IsoEntry.tick
  cases e.timer with
  | none => simp
  | some n =>
    simp only [Option.map_some, Option.some.injEq]
    omega

end Sys2Proof.Machine.State
end

section
/-! The statement on what a boundary counts and owes. -/

namespace Sys2Proof.Proofs

open Sys2Proof.Machine Sys2Proof.Machine.State

/-- What a boundary owes, where no cold reset is applied (R194). -/
theorem boundary_owes {s : State} (quiet : s.Quiet) (none : s.coldDue = false) :
    let t := s.makeBoundary false
    let warm : Prop := ∃ tag, s.mgmt.control = some ⟨tag, .warm⟩
    .coldResetApplied ∉ t.due ∧ .alertPlacement ∈ t.due ∧
      (∀ c : CarrierId, .levelFieldTakesEffect c ∈ t.due ↔ (s.carrier c).set ≠ (s.carrier c).eff) ∧
      (∀ r : RemoteId, .linkSettingsTakeEffect r ∈ t.due ↔
        s.rl[r].m ≠ s.rl[r].mEff ∨ s.rl[r].pmax ≠ s.rl[r].pmaxEff) ∧
      (∀ r : RemoteId, .isolationTimerExpiry r ∈ t.due ↔
        ∃ e ∈ s.mode.isolated, e.remote = r ∧ (e.timer = some 0 ∨ e.timer = some 1)) ∧
      (∀ l : TermLinkId, .linkLostHoldEnd l ∈ t.due ↔ (s.term l).state = .lost ∧ 49 ≤ (s.term l).holdTimer) ∧
      (∀ r : RemoteId, .linkEntersUp r ∈ t.due ↔ s.rl[r].state = .negotiate ∧ s.rl[r].phase = .confirmed) ∧
      (∀ r : RemoteId, s.rl[r].phase ≠ .confirmed →
        (.negotiationTimeout r ∈ t.due ↔ s.rl[r].state = .negotiate ∧ 9 ≤ s.rl[r].negTimer)) ∧
      (∀ r : RemoteId, .lostHoldEnd r ∈ t.due ↔ s.rl[r].state = .lost ∧ 49 ≤ s.rl[r].holdTimer) ∧
      (∀ o : OpId, .switchover o ∈ t.due ↔ ¬ warm ∧ ∃ origin e, (s.opPlan o).state = .armed origin e) ∧
      (.hubModeDecision ∈ t.due ↔ ¬ warm ∧ (s.mode.requested.isSome ∨ s.mode.auto.isSome)) ∧
      (.pendingIsolationApply ∈ t.due ↔ s.mode.pendingIso.isSome) ∧
      (.windowEnd ∈ t.due ↔ ¬ warm ∧ (s.meas.wForce ≤ s.meas.position + 1 ∨ s.meas.wSet ≠ s.meas.wForce)) ∧
      (.warmResetApplied ∈ t.due ↔ warm) := by
  intro t warm
  have cold : s.ticked.coldDue = false := by
    rw [← none, coldDue, coldDue, ticked_frame]
  have warms : s.ticked.warmDue = true ↔ warm := by
    refine Iff.trans ?_ warmDue_iff
    rw [warmDue, warmDue, ticked_frame]
  have notWarm : s.ticked.warmDue = false ↔ ¬ warm := by rw [← warms, Bool.not_eq_true]
  have owed {x : Instr} (other : ∀ r c, x ≠ .gateHoldExpiry r c) : x ∈ t.due ↔ x ∈ s.ticked.owedAtBoundary := by
    have due : t.due = s.ticked.due ++ s.ticked.owedAtBoundary := congrArg State.due (makeBoundary_eq s)
    rw [due, List.mem_append, or_iff_right fun mem => ?_]
    obtain ⟨r, c, same⟩ := mem_ticked_due quiet.2.1 mem
    exact other r c same
  have terms (l : TermLinkId) : (s.ticked.term l).state = .lost ∧ 50 ≤ (s.ticked.term l).holdTimer ↔
      (s.term l).state = .lost ∧ 49 ≤ (s.term l).holdTimer := by
    rw [ticked_term, TermLink.tick, lostHoldLimit]
    split
    · refine and_congr_right fun _ => ?_
      dsimp only
      omega
    · next notLost => simp [notLost]
  have isolated (r : RemoteId) : (∃ e ∈ s.ticked.mode.isolated, e.timer = some 0 ∧ r = e.remote) ↔
      ∃ e ∈ s.mode.isolated, e.remote = r ∧ (e.timer = some 0 ∨ e.timer = some 1) := by
    have remote (e : IsoEntry) : e.tick.remote = e.remote := rfl
    simp only [ticked_mode, List.mem_map, exists_exists_and_eq_and, IsoEntry_tick_timer, remote]
    exact exists_congr fun e => and_congr Iff.rfl (and_comm.trans (and_congr eq_comm Iff.rfl))
  refine ⟨?_, ?_, fun c => ?_, fun r => ?_, fun r => ?_, fun l => ?_, fun r => ?_, fun r notConfirmed => ?_, fun r => ?_,
    fun o => ?_, ?_, ?_, ?_, ?_⟩
  all_goals rw [owed (by simp), mem_owedAtBoundary cold, mem_owedLinks, mem_owedPlans, mem_owedWindow]
  · simp
  · simp
  · simp [ticked_carrier]
  · obtain ⟨n, link⟩ := makeBoundary_link s r
    rw [← ticked_rl] at link
    have settings : s.ticked.rl[r].m ≠ s.ticked.rl[r].mEff ∨ s.ticked.rl[r].pmax ≠ s.ticked.rl[r].pmaxEff ↔
      s.rl[r].m ≠ s.rl[r].mEff ∨ s.rl[r].pmax ≠ s.rl[r].pmaxEff := by rw [link]
    simpa using settings
  · simpa using isolated r
  · simpa using terms l
  · obtain ⟨n, link⟩ := makeBoundary_link s r
    rw [← ticked_rl] at link
    have enters : s.ticked.rl[r].state = .negotiate ∧ s.ticked.rl[r].phase = .confirmed ↔
      s.rl[r].state = .negotiate ∧ s.rl[r].phase = .confirmed := by rw [link]
    simpa using enters
  · obtain ⟨n, link⟩ := makeBoundary_link s r
    rw [← ticked_rl] at link
    have fails : s.ticked.rl[r].state = .negotiate ∧ 10 ≤ s.ticked.rl[r].negTimer ↔
        s.rl[r].state = .negotiate ∧ 9 ≤ s.rl[r].negTimer := by
      rw [link]
      refine and_congr_right fun negotiate => ?_
      rw [if_pos ⟨negotiate, notConfirmed⟩]
      dsimp only
      omega
    simpa using fails
  · obtain ⟨n, link⟩ := makeBoundary_link s r
    rw [← ticked_rl] at link
    have ends : s.ticked.rl[r].state = .lost ∧ 50 ≤ s.ticked.rl[r].holdTimer ↔
        s.rl[r].state = .lost ∧ 49 ≤ s.rl[r].holdTimer := by
      rw [link]
      refine and_congr_right fun lost => ?_
      rw [if_pos lost]
      dsimp only
      omega
    simpa using ends
  · simp [ticked_opPlan, isArmed_iff, notWarm]
  · simp [ticked_mode, notWarm]
  · simp [ticked_mode]
  · simp [ticked_meas, Measurement.windowCloses, notWarm]
  · simp [warms]

/-- Settles O8: the counts and timers of a boundary, and then what it owes. -/
theorem boundaryCounts : Obligations.BoundaryCounts := by
  intro s quiet cold warm
  have frame := makeBoundary_frame s false
  have meas : (s.makeBoundary false).meas.position = s.meas.position + 1 ∧
      (s.makeBoundary false).meas.snap = s.meas.snap := by
    have released (m : Measurement) : m.release.position = m.position ∧ m.release.snap = m.snap := by
      simp only [Measurement.release, and_self]
    have position : s.ticked.meas.position = s.meas.position + 1 ∧ s.ticked.meas.snap = s.meas.snap := by
      simp only [ticked_meas, and_self]
    rw [makeBoundary_eq]
    dsimp only
    split
    · exact position
    · rwa [(released _).1, (released _).2]
  have term (l : TermLinkId) : (s.makeBoundary false).term l = (s.term l).tick := by
    rw [← ticked_term]
    have ol : (s.makeBoundary false).ol = s.ticked.ol := by rw [makeBoundary_eq]
    have trunk : (s.makeBoundary false).trunk = s.ticked.trunk := by rw [makeBoundary_eq]
    exact term_congr ol trunk l
  have due : (s.makeBoundary false).due = s.ticked.due ++ s.ticked.owedAtBoundary := by rw [makeBoundary_eq]
  have colds : s.ticked.coldDue = true ↔ cold := by
    refine Iff.trans ?_ coldDue_iff
    rw [coldDue, coldDue, ticked_frame]
  refine ⟨_, exec_superframeBoundary_of_quiet quiet, ?_⟩
  have owes := fun none => boundary_owes quiet none
  have link := makeBoundary_link s
  generalize s.makeBoundary false = t at *
  refine ⟨by rw [frame], by rw [frame], by rw [frame], by rw [frame], by rw [frame], by rw [frame], by rw [frame], meas.1,
    meas.2, by rw [frame], fun r => ?_, fun l => ?_, by rw [frame]; rfl, fun isCold => ?_, fun notCold => ?_⟩
  · obtain ⟨n, link⟩ := link r
    rw [link]
    exact ⟨rfl, fun negotiate notConfirmed => if_pos ⟨negotiate, notConfirmed⟩, fun lost => if_pos lost, rfl⟩
  · exact term l
  · have only : s.ticked.owedAtBoundary = [.coldResetApplied] := if_pos (colds.mpr isCold)
    rw [due, only]
    refine ⟨by simp, fun x mem => ?_⟩
    rcases List.mem_append.mp mem with gate | reset
    · exact .inr (mem_ticked_due quiet.2.1 gate)
    · exact .inl (List.mem_singleton.mp reset)
  · exact owes (Bool.eq_false_iff.mpr (mt coldDue_iff.mp notCold))

end Sys2Proof.Proofs
end

section
/-! SUPPORT. The alarm list that a warm reset empties and fills again (R161, R175). -/

namespace Sys2Proof.Machine

/-! ## The catalogue -/

theorem objects_nodup (t : ObjType) : t.objects.Nodup := by
  cases t with
  | remote => exact (List.nodup_finRange 24).map fun _ _ h => by injection h
  | operator => exact (List.nodup_finRange 4).map fun _ _ h => by injection h
  | sector => exact (List.nodup_finRange 32).map fun _ _ h => by injection h
  | device => exact List.nodup_singleton _

theorem catalogue_nodup : catalogue.Nodup := by
  have kinds : Kind.all.Nodup := by decide
  refine List.nodup_flatMap.mpr ⟨fun k _ => (objects_nodup k.objType).map fun o o' h => by injection h,
    kinds.pairwise_of_forall_ne fun k _ k' _ other => ?_⟩
  intro key first second
  obtain ⟨o, _, rfl⟩ := List.mem_map.mp first
  obtain ⟨o', _, same⟩ := List.mem_map.mp second
  injection same with same
  exact other same.symm

namespace Supervision

variable {p q : Supervision} {now : Count} {key : Key}

/-! ## What the operations on the list leave -/

/-- The settings and the record of a race are the same. -/
structure SameSettings (p q : Supervision) : Prop where
  enable : q.enable = p.enable
  masks : q.masks = p.masks
  race : q.race = p.race

theorem SameSettings.refl (p : Supervision) : SameSettings p p := ⟨rfl, rfl, rfl⟩

theorem SameSettings.trans {r : Supervision} (h : SameSettings p q) (h' : SameSettings q r) : SameSettings p r :=
  ⟨h'.enable.trans h.enable, h'.masks.trans h.masks, h'.race.trans h.race⟩

theorem countKind_settings (p : Supervision) (k : Kind) : SameSettings p (p.countKind k) := by
  unfold countKind
  split <;> exact ⟨rfl, rfl, rfl⟩

theorem append_settings (p : Supervision) (now : Count) (key : Key) : SameSettings p (p.append now key) :=
  (⟨rfl, rfl, rfl⟩ : SameSettings p { p with alarms := p.alarms ++ [⟨key, true, now, now, 1⟩] }).trans (countKind_settings _ _)

theorem setOverflow_settings (p : Supervision) : SameSettings p p.setOverflow := by
  unfold setOverflow
  split <;> exact ⟨rfl, rfl, rfl⟩

theorem clearOverflow_settings (p : Supervision) : SameSettings p p.clearOverflow := by
  unfold clearOverflow
  split <;> exact ⟨rfl, rfl, rfl⟩

theorem clear_settings (p : Supervision) (now : Count) (key : Key) : SameSettings p (p.clear now key) := by
  have mapped (f : AlarmEntry → AlarmEntry) : SameSettings p (p.mapEntry key f) := ⟨rfl, rfl, rfl⟩
  unfold clear
  split
  · exact .refl p
  · split
    · exact (mapped _).trans (countKind_settings _ _)
    · exact .refl p

theorem clears_settings (p : Supervision) (now : Count) (l : List Key) :
    SameSettings p (l.foldl (fun p k => p.clear now k) p) := by
  induction l generalizing p with
  | nil => exact .refl p
  | cons k l ih => exact (clear_settings p now k).trans (ih _)

theorem empty_settings (p : Supervision) : p.empty.enable = p.enable ∧ p.empty.masks = p.masks ∧ p.empty.race = none ∧
    p.empty.alarms = [] := by
  unfold empty
  dsimp only
  split
  · next none => exact ⟨rfl, rfl, rfl, none⟩
  · exact ⟨rfl, rfl, rfl, rfl⟩

/-- A clear finds no entry in an empty list. -/
theorem clear_of_empty (empty : p.alarms = []) (now : Count) (key : Key) : p.clear now key = p := by
  have none : p.entry key = none := by rw [entry, empty]; rfl
  unfold clear
  rw [none]

theorem clears_of_empty (empty : p.alarms = []) (now : Count) (l : List Key) : l.foldl (fun p k => p.clear now k) p = p := by
  induction l with
  | nil => rfl
  | cons k l ih => rwa [List.foldl_cons, clear_of_empty empty]

theorem clearOverflow_clear (p : Supervision) : p.clearOverflow.overflow = false := by
  unfold clearOverflow
  split
  · rfl
  · next clear => exact Bool.eq_false_iff.mpr clear

/-! ## The resweep of an empty list -/

/-- The entry of a condition that begins. -/
def fresh (now : Count) (key : Key) : AlarmEntry := ⟨key, true, now, now, 1⟩

/-- A list filled with keys in order: the first 64, and the overflow flag when there were more. -/
structure Filled (now : Count) (keys : List Key) (p q : Supervision) : Prop where
  alarms : q.alarms = (keys.take 64).map (fresh now)
  overflow : q.overflow = decide (64 < keys.length)
  settings : SameSettings p q

theorem needsRoom_of_no_race (none : p.race = none) : p.needsRoom now key = decide (64 ≤ p.alarms.length) := by
  unfold needsRoom raced
  rw [none, alarmCapacity]
  simp

/-- A key more is appended where there is room, and sets the overflow flag where there is none: nothing can be evicted. -/
theorem Filled.raiseNew {keys : List Key} (h : Filled now keys p q) (none : p.race = none) (key : Key) :
    Filled now (keys ++ [key]) p (q.raiseNew now key) := by
  obtain ⟨alarms, overflow, settings⟩ := h
  have race : q.race = Option.none := settings.race.trans none
  have ended : q.endRace now key = q := by
    unfold endRace raced
    rw [race]
    cases q
    cases race
    rfl
  have length : q.alarms.length = min 64 keys.length := by rw [alarms, List.length_map, List.length_take]
  unfold Supervision.raiseNew
  dsimp only
  rw [ended, needsRoom_of_no_race race]
  by_cases full : 64 ≤ q.alarms.length
  · have active : (q.alarms.find? fun e => !e.active) = Option.none := List.find?_eq_none.mpr fun e mem => by
      rw [alarms] at mem
      obtain ⟨k, _, rfl⟩ := List.mem_map.mp mem
      exact Bool.false_ne_true
    have noEvict : q.evict = Option.none := by
      unfold evict
      rw [active]
    rw [if_pos (decide_eq_true full), noEvict]
    refine ⟨?_, ?_, settings.trans (setOverflow_settings q)⟩
    · rw [setOverflow_alarms, alarms, List.take_append_of_le_length (by omega)]
    · rw [setOverflow_overflow]
      refine (decide_eq_true ?_).symm
      rw [List.length_append, List.length_singleton]
      omega
  · rw [if_neg (by simpa using full)]
    refine ⟨?_, ?_, settings.trans (append_settings q now key)⟩
    · have all : keys.take 64 = keys := List.take_of_length_le (by omega)
      have all' : (keys ++ [key]).take 64 = keys ++ [key] := List.take_of_length_le (by rw [List.length_append, List.length_singleton]; omega)
      rw [append_alarms, alarms, all, all', List.map_append]
      rfl
    · rw [append_overflow, overflow, List.length_append, List.length_singleton]
      refine decide_eq_decide.mpr ?_
      omega

theorem Filled.resweep {keys l : List Key} (h : Filled now keys p q) (none : p.race = none) (once : (keys ++ l).Nodup) :
    Filled now (keys ++ l) p (q.resweep now l) := by
  induction l generalizing keys q with
  | nil => rwa [List.append_nil]
  | cons k l ih =>
    rw [List.append_cons] at once ⊢
    have absent : q.entry k = Option.none := entry_eq_none_iff.mpr fun mem => by
      rw [h.alarms, List.map_map] at mem
      obtain ⟨k', old, rfl⟩ := List.mem_map.mp mem
      rw [List.append_assoc, List.singleton_append] at once
      exact (List.nodup_cons.mp (List.nodup_middle.mp once)).1 (List.mem_append_left _ (List.mem_of_mem_take old))
    have step : q.resweep now (k :: l) = (q.raiseNew now k).resweep now l := congrArg (fun x : Supervision => x.resweep now l) (if_pos absent)
    rw [step]
    exact ih (h.raiseNew none k) once

/-- The list of a warm reset: emptied, and filled with the conditions that hold (R175). -/
theorem warmSupervision_filled (p : Supervision) (now : Count) (ending : List Key) {holding : List Key} (once : holding.Nodup) :
    (State.warmSupervision p now ending holding).alarms = (holding.take 64).map (fresh now) ∧
      (State.warmSupervision p now ending holding).overflow = decide (64 < holding.length) ∧
      (State.warmSupervision p now ending holding).enable = p.enable ∧
      (State.warmSupervision p now ending holding).masks = p.masks := by
  unfold State.warmSupervision
  dsimp only
  generalize early : ((ending.filter _).foldl (fun p k => p.clear now k) p) = p₁
  have first : SameSettings p p₁ := early ▸ clears_settings p now _
  obtain ⟨enable, masks, race, empty⟩ := p₁.empty_settings
  have opened := clearOverflow_settings p₁.empty
  have start : Filled now [] p₁.empty.clearOverflow p₁.empty.clearOverflow :=
    ⟨by rw [clearOverflow_alarms, empty]; rfl, clearOverflow_clear _, .refl _⟩
  obtain ⟨alarms, overflow, settings⟩ := start.resweep (opened.race.trans race) once
  rw [clears_of_empty empty]
  exact ⟨alarms, overflow, settings.enable.trans (opened.enable.trans (enable.trans first.enable)),
    settings.masks.trans (opened.masks.trans (masks.trans first.masks))⟩

end Supervision

end Sys2Proof.Machine
end

section
/-! The statement on the warm reset. -/

namespace Sys2Proof.Machine.State

variable {s : State}

theorem holds_withSup (s : State) (p : Supervision) : ({ s with sup := p } : State).holds = s.holds := rfl

/-- The blocks at a warm reset keep the channels but for the scope, the barring and the counters. -/
theorem warmBlocks_mgmt (s : State) :
    s.warmBlocks.mgmt = { s.mgmt with scope := none, barred := false, discards := 0, dropped := 0 } := rfl

theorem cancelService_of_idle (idle : s.mgmt.service = none) : s.cancelService = s := by
  unfold cancelService
  rw [idle]

theorem cancelService_of_commit {u : Byte} {o : OpId} (busy : s.mgmt.service = some ⟨u, .planCommit o⟩) (up : s.trunk.state = .up) :
    s.cancelService = { s with mgmt := Management.completed s.mgmt .service (reply .service u 0x35 .aborted false []) } := by
  unfold cancelService
  rw [busy]
  exact complete_of_busy (ch := .service) busy (by simp) up ..

theorem cancelService_of_accept {u : Byte} {o : OpId} {a : Advice} (busy : s.mgmt.service = some ⟨u, .balanceAccept o a⟩)
    (up : s.trunk.state = .up) : s.cancelService = { s with
      mgmt := Management.completed s.mgmt .service (reply .service u 0x38 .aborted false a.bytes) } := by
  unfold cancelService
  rw [busy]
  exact complete_of_busy (ch := .service) busy (by simp) up ..

/-- Whatever is cancelled on the service channel, the rest of the channels stays. -/
theorem cancelService_mgmt (s : State) : s.cancelService.mgmt = { s.mgmt with
    service := s.cancelService.mgmt.service, due := s.cancelService.mgmt.due } := by
  have responds (t : State) (x : Response) : (t.respond x).mgmt = { t.mgmt with due := (t.respond x).mgmt.due } := by
    unfold respond
    split <;> rfl
  have completes (x : Result) (b : Bool) (d : List Byte) : (s.complete .service x b d).mgmt = { s.mgmt with
      service := (s.complete .service x b d).mgmt.service, due := (s.complete .service x b d).mgmt.due } := by
    unfold complete
    split
    · rfl
    · split
      · rfl
      · rw [responds]
        rfl
  unfold cancelService
  split
  · exact completes ..
  · exact completes ..
  · rfl

/-- The completion of WARM itself (R193). -/
theorem complete_warm {tag : Byte} (warm : s.mgmt.control = some ⟨tag, .warm⟩) (up : s.trunk.state = .up) :
    s.complete .control .done false [] = { s with
      mgmt := Management.completed s.mgmt .control (reply .control tag 0x1E .done false []) } :=
  complete_of_busy (ch := .control) warm (by simp) up ..

/-- The completion of WARM comes ahead of the cancelled command's, or after it (R193). -/
theorem warmCompletions_cases {tag : Byte} (warm : s.mgmt.control = some ⟨tag, .warm⟩) (up : s.trunk.state = .up) :
    (s.warmCompletions = ({ s with
      mgmt := Management.completed s.mgmt .control (reply .control tag 0x1E .done false []) } : State).cancelService) ∨
    s.warmCompletions = { s.cancelService with
      mgmt := Management.completed s.cancelService.mgmt .control (reply .control tag 0x1E .done false []) } := by
  unfold warmCompletions
  split
  · left
    rw [complete_warm warm up]
  · right
    refine complete_warm ?_ ?_
    · rw [cancelService_mgmt]
      exact warm
    · rw [cancelService_frame]
      exact up

/-- Where the service channel's command is answered, both responses are due (R51, R193). -/
theorem warmCompletions_both {tag : Byte} {aborted : Response} (warm : s.mgmt.control = some ⟨tag, .warm⟩)
    (up : s.trunk.state = .up) (cancels : ∀ t : State, t.mgmt.service = s.mgmt.service → t.trunk.state = .up →
      t.cancelService = { t with mgmt := Management.completed t.mgmt .service aborted }) :
    s.warmCompletions.mgmt.service = none ∧
      (s.warmCompletions.mgmt.due = s.mgmt.due ++ [reply .control tag 0x1E .done false [], aborted] ∨
        s.warmCompletions.mgmt.due = s.mgmt.due ++ [aborted, reply .control tag 0x1E .done false []]) := by
  rcases warmCompletions_cases warm up with e | e
  · have first := cancels { s with
      mgmt := Management.completed s.mgmt .control (reply .control tag 0x1E .done false []) } rfl up
    rw [e, first]
    exact ⟨rfl, .inl (List.append_assoc ..)⟩
  · rw [e, cancels s rfl up]
    exact ⟨rfl, .inr (List.append_assoc ..)⟩

theorem warmCompletions_idle {tag : Byte} (warm : s.mgmt.control = some ⟨tag, .warm⟩) (up : s.trunk.state = .up)
    (idle : s.mgmt.service = none) : s.warmCompletions.mgmt.service = none ∧
      s.warmCompletions.mgmt.due = s.mgmt.due ++ [reply .control tag 0x1E .done false []] := by
  rcases warmCompletions_cases warm up with e | e
  · rw [e, cancelService_of_idle]
    · exact ⟨idle, rfl⟩
    · exact idle
  · rw [e, cancelService_of_idle idle]
    exact ⟨idle, rfl⟩

theorem warmCompletions_mgmt {tag : Byte} (warm : s.mgmt.control = some ⟨tag, .warm⟩) (up : s.trunk.state = .up) :
    s.warmCompletions.mgmt = { s.mgmt with
      control := none, service := s.warmCompletions.mgmt.service, due := s.warmCompletions.mgmt.due } := by
  rcases warmCompletions_cases warm up with e | e
  · rw [e]
    exact cancelService_mgmt _
  · have kept := cancelService_mgmt s
    rw [e]
    show ({ s.cancelService.mgmt with control := none, due := _ } : Management) = _
    rw [kept]
    rfl

theorem warmResetApplied_holds (s : State) : s.warmResetApplied.holds = s.warmBlocks.warmCompletions.holds := by
  unfold warmResetApplied
  exact holds_withSup _ _

theorem withSup_of_frame {u v : State} (h : u = { v with mgmt := u.mgmt }) (p : Supervision) :
    ({ u with sup := p } : State) = { v with mgmt := u.mgmt, sup := p } := congrArg (fun x : State => { x with sup := p }) h

theorem warmResetApplied_eq (s : State) : ∃ holding, holding = catalogue.filter s.warmResetApplied.holds ∧
    s.warmResetApplied = { s.warmBlocks with
      mgmt := s.warmBlocks.warmCompletions.mgmt, sup := warmSupervision s.sup s.tb.count s.endsAtWarm holding } := by
  refine ⟨catalogue.filter s.warmBlocks.warmCompletions.holds, by rw [warmResetApplied_holds], ?_⟩
  unfold warmResetApplied
  exact withSup_of_frame (warmCompletions_frame _) _

end Sys2Proof.Machine.State

namespace Sys2Proof.Proofs

open Sys2Proof.Machine Sys2Proof.Machine.State

/-- Settles O38: by what the warm reset does to each block, to the channels and to the alarm list. -/
theorem warmReset : Obligations.WarmReset := by
  intro s tag next warm up
  refine ⟨(s.dropDue .warmResetApplied).warmResetApplied, exec_next next, ?_⟩
  obtain ⟨holding, held, whole⟩ := warmResetApplied_eq (s.dropDue .warmResetApplied)
  have once : holding.Nodup := held ▸ catalogue_nodup.filter _
  obtain ⟨alarms, overflow, enable, masks⟩ := Supervision.warmSupervision_filled s.sup s.tb.count
    (s.dropDue .warmResetApplied).endsAtWarm once
  have blocks := warmBlocks_mgmt (s.dropDue .warmResetApplied)
  have control : (s.dropDue .warmResetApplied).warmBlocks.mgmt.control = some ⟨tag, .warm⟩ := warm
  have trunk : (s.dropDue .warmResetApplied).warmBlocks.trunk.state = .up := up
  have mgmt := warmCompletions_mgmt control trunk
  have both {aborted : Response} (cancels) := warmCompletions_both (aborted := aborted) control trunk cancels
  generalize (s.dropDue .warmResetApplied).warmResetApplied = t at *
  have channels : t.mgmt = (s.dropDue .warmResetApplied).warmBlocks.warmCompletions.mgmt := by rw [whole]
  refine ⟨by rw [whole]; rfl, fun r => ?_, fun l => ?_, by rw [whole]; rfl, fun o => ⟨?_, ?_⟩, by rw [whole]; rfl,
    by rw [whole]; rfl, by rw [whole]; exact enable, by rw [whole]; exact masks, ?_, ?_, ?_, ?_⟩
  · rw [whole]
    exact getElem_tab _ r
  · rw [whole]
    cases l with
    | op o => exact getElem_tab _ o
    | trunk => rfl
  · rw [whole]
    exact getElem_tab _ o
  · have balancer : t.bal[o] = warmBalancer s.bal[o] := by
      rw [whole]
      exact getElem_tab _ o
    rw [balancer]
    rfl
  · rw [← held, whole]
    exact alarms
  · rw [← held, whole]
    exact overflow
  · rw [channels]
    exact mgmt
  · rw [channels]
    intro done answers
    refine ⟨fun none => ?_, fun u o busy => ?_, fun u o a busy => ?_⟩
    · exact warmCompletions_idle control trunk none
    · exact both fun v same up => cancelService_of_commit (same.trans busy) up
    · exact both fun v same up => cancelService_of_accept (same.trans busy) up

end Sys2Proof.Proofs
end

section
/-! SUPPORT. The uplink guard at a window end (R92 to R94). -/

namespace Sys2Proof.Machine

variable {peak : Vector Nat 24} {r : RemoteId}

/-! ## The remote that a sector names -/

/-- A remote is named ahead of another by its higher peak, of equal peaks by its lower number (R92). -/
def Ahead (peak : Vector Nat 24) (r q : RemoteId) : Prop := peak[q] < peak[r] ∨ (peak[q] = peak[r] ∧ r ≤ q)

theorem Ahead.antisymm {q : RemoteId} (h : Ahead peak r q) (h' : Ahead peak q r) : r = q := by
  rcases h with lower | ⟨equal, le⟩ <;> rcases h' with lower' | ⟨equal', le'⟩
  · exact absurd lower' (by omega)
  · exact absurd lower (by omega)
  · exact absurd lower' (by omega)
  · exact le_antisymm le le'

theorem loudest_ahead {l : List RemoteId} (ascending : l.Pairwise (· < ·)) (h : loudest peak l = some r) :
    ∀ q ∈ l, Ahead peak r q := by
  induction l generalizing r with
  | nil => nofun
  | cons x xs ih =>
    obtain ⟨first, ascending⟩ := List.pairwise_cons.mp ascending
    unfold loudest at h
    cases rest : loudest peak xs with
    | none =>
      rw [rest] at h
      obtain rfl : x = r := by simpa using h
      have empty : xs = [] := by
        cases xs with
        | nil => rfl
        | cons y ys =>
          unfold loudest at rest
          split at rest
          · contradiction
          · split at rest <;> contradiction
      subst empty
      intro q mem
      obtain rfl := List.mem_singleton.mp mem
      exact .inr ⟨rfl, le_refl _⟩
    | some y =>
      rw [rest] at h
      have later := ih ascending rest
      have behind := first y (State.GuardBounded.loudest_mem rest)
      intro q mem
      dsimp only at h
      unfold Ahead at later ⊢
      split at h <;> cases h <;> rcases List.mem_cons.mp mem with rfl | old
      · exact .inr ⟨rfl, le_refl _⟩
      · next le =>
        rcases later q old with lower | ⟨equal, after⟩
        · exact .inl (lower.trans_le le)
        · exact (Nat.lt_or_eq_of_le (equal ▸ le)).imp_right fun same => ⟨same, behind.le.trans after⟩
      · next lt => exact .inl (Nat.not_le.mp lt)
      · exact later q old

theorem loudest_eq_some_iff {l : List RemoteId} (ascending : l.Pairwise (· < ·)) :
    loudest peak l = some r ↔ r ∈ l ∧ ∀ q ∈ l, Ahead peak r q := by
  refine ⟨fun h => ⟨State.GuardBounded.loudest_mem h, loudest_ahead ascending h⟩, fun ⟨mem, ahead⟩ => ?_⟩
  cases found : loudest peak l with
  | none =>
    cases l with
    | nil => contradiction
    | cons x xs =>
      unfold loudest at found
      split at found
      · contradiction
      · split at found <;> contradiction
  | some q =>
    rw [(ahead q (State.GuardBounded.loudest_mem found)).antisymm (loudest_ahead ascending found r mem)]

/-- The member that an overloaded sector names (R92). -/
theorem namedBy_eq_some_iff {banks : Vector Bank 4} {guard : Vector Nat 24} {x : SectorId} :
    namedBy banks guard peak x = some r ↔ banks[sectorOp x].zones[r].cur = some (sectorIx x) ∧ guard[r] < 8 ∧
      ∀ q : RemoteId, banks[sectorOp x].zones[q].cur = some (sectorIx x) → guard[q] < 8 → Ahead peak r q := by
  have ascending : allRemotes.Pairwise (· < ·) := List.pairwise_lt_finRange 24
  have mem {q : RemoteId} : q ∈ (banks[sectorOp x].members (sectorIx x)).filter (fun r => guard[r] < 8) ↔
      banks[sectorOp x].zones[q].cur = some (sectorIx x) ∧ guard[q] < 8 := by
    simp only [Bank.members, List.mem_filter, decide_eq_true_eq, allRemotes, List.mem_finRange, true_and]
  unfold namedBy
  refine (loudest_eq_some_iff ((ascending.filter _).filter _)).trans ?_
  refine (and_congr mem (forall_congr' fun q => imp_congr_left mem)).trans ?_
  simp only [and_imp, and_assoc]

theorem mem_overloadedSectors {sat : Vector Nat 32} {limit : Nat} {x : SectorId} :
    x ∈ overloadedSectors sat limit ↔ limit < sat[x] := by
  simp [overloadedSectors, allSectors]

namespace State

variable {s : State} {overl : List SectorId} {banks : Vector Bank 4}

/-! ## Folds that write each place once -/

/-- Writing places of a vector, each from what stood there: every place named once is written once. -/
theorem foldl_write_at {n : Nat} {β : Type} {step : State → Fin n → State} {field : State → Vector β n}
    {value : State → Fin n → β} (sets : ∀ s x, field (step s x) = (field s).set x (value s x))
    (keeps : ∀ s x y, y ≠ x → value (step s x) y = value s y) {l : List (Fin n)} (once : l.Nodup) (s : State) (x : Fin n) :
    (field (l.foldl step s))[x] = if x ∈ l then value s x else (field s)[x] := by
  have other {v : Vector β n} {y : Fin n} {a : β} (ne : x ≠ y) : (v.set y a)[x] = v[x] :=
    Vector.getElem_set_ne _ _ fun e => ne (Fin.ext e.symm)
  induction l generalizing s with
  | nil => simp
  | cons y ys ih =>
    obtain ⟨absent, once⟩ := List.nodup_cons.mp once
    rw [List.foldl_cons, ih once, sets]
    by_cases e : x = y
    · subst e
      rw [if_neg absent, if_pos List.mem_cons_self]
      simp
    · rw [other e, keeps s y x e]
      simp only [List.mem_cons, e, false_or]

/-! ## Overload indications and guard steps -/

theorem marks_overload (s : State) (overl : List SectorId) (x : SectorId) :
    (allSectors.foldl (fun s x => s.setOverloadMark overl x) s).comb.overload[x] = overl.contains x := by
  have sets (t : State) (y : SectorId) :
      (t.setOverloadMark overl y).comb.overload = t.comb.overload.set y (overl.contains y) := by
    unfold setOverloadMark
    rfl
  exact (foldl_write_at (field := fun s => s.comb.overload) sets (fun _ _ _ _ => rfl) (List.nodup_finRange 32) s x).trans
    (if_pos (List.mem_finRange x))

theorem steps_guard {l : List RemoteId} (once : l.Nodup) (s : State) (r : RemoteId) :
    (l.foldl stepGuardUp s).comb.guard[r] = if r ∈ l then s.comb.guard[r] + 1 else s.comb.guard[r] := by
  have sets (t : State) (q : RemoteId) : (t.stepGuardUp q).comb.guard = t.comb.guard.set q (t.comb.guard[q] + 1) := by
    rw [stepGuardUp_frame]
  refine foldl_write_at (field := fun s => s.comb.guard) (value := fun s q => s.comb.guard[q] + 1) sets (fun t q p other => ?_)
    once s r
  rw [sets]
  exact congrArg (· + 1) (Vector.getElem_set_ne _ _ fun e => other (Fin.ext e.symm))

theorem Recorded.stepGuardUp {key : Key} (h : s.Recorded key) (r : RemoteId) : (s.stepGuardUp r).Recorded key := by
  unfold State.stepGuardUp
  dsimp only
  split
  · exact Recorded.raise (h.of_sup rfl) _
  · exact h.of_sup rfl

/-- A named remote that leaves guard step 7 has GUARD_FLOOR recorded (R94). -/
theorem steps_recorded {l : List RemoteId} (once : l.Nodup) {r : RemoteId} (mem : r ∈ l) (seven : s.comb.guard[r] = 7) :
    (l.foldl stepGuardUp s).Recorded ⟨.guardFloor, .remote r⟩ := by
  induction l generalizing s with
  | nil => contradiction
  | cons q qs ih =>
    obtain ⟨absent, once⟩ := List.nodup_cons.mp once
    rw [List.foldl_cons]
    by_cases e : r = q
    · subst e
      refine foldl_invariant (P := (State.Recorded · _)) (fun t p h => h.stepGuardUp p) qs ?_
      unfold stepGuardUp
      dsimp only
      rw [if_pos (by simp [show s.comb.guard[r.val] = 7 from seven])]
      exact raise_recorded _ _
    · refine ih once ((List.mem_cons.mp mem).resolve_left e) ?_
      rw [stepGuardUp_frame]
      have other : (s.comb.guard.set q (s.comb.guard[q] + 1))[r] = s.comb.guard[r] :=
        Vector.getElem_set_ne _ _ fun e' => e (Fin.ext e'.symm)
      exact other.trans seven

/-! ## Recover runs -/

/-- A remote is a member of an overloaded sector. -/
def struck (overl : List SectorId) (banks : Vector Bank 4) (r : RemoteId) : Bool :=
  overl.any fun x => banks[sectorOp x].zones[r].cur = some (sectorIx x)

theorem struck_iff {r : RemoteId} : struck overl banks r = true ↔
    ∃ x ∈ overl, banks[sectorOp x].zones[r].cur = some (sectorIx x) := by simp [struck]

/-- The recover run of a remote after a window end (R93). -/
def runAfter (s : State) (overl : List SectorId) (banks : Vector Bank 4) (r : RemoteId) : Nat :=
  if struck overl banks r then 0 else min (s.comb.recover[r] + 1) 255

/-- A recover run has reached RecoverWindows at a window end (R93). -/
def Recovers (s : State) (overl : List SectorId) (banks : Vector Bank 4) (r : RemoteId) : Prop :=
  struck overl banks r = false ∧ s.meas.recoverWindows ≤ s.runAfter overl banks r

theorem updateRecover_recover (s : State) (overl : List SectorId) (banks : Vector Bank 4) (r : RemoteId) :
    (s.updateRecover overl banks r).comb.recover = s.comb.recover.set r (s.runAfter overl banks r) := by
  unfold updateRecover
  exact apply_ite (fun t : State => t.comb.recover) .. |>.trans (ite_self _)

theorem mem_updateRecover_due {x : Instr} {r : RemoteId} : x ∈ (s.updateRecover overl banks r).due ↔
    x ∈ s.due ∨ (x = .guardStepDown r ∧ s.Recovers overl banks r) := by
  unfold updateRecover Recovers
  dsimp only
  change x ∈ (ite ((!struck overl banks r && decide (_ ≤ s.runAfter overl banks r)) = true) _ _ : State).due ↔ _
  split
  · next reached =>
    have reached : struck overl banks r = false ∧ s.meas.recoverWindows ≤ s.runAfter overl banks r := by simpa using reached
    simp [owe, reached]
  · next short =>
    have short : ¬ (struck overl banks r = false ∧ s.meas.recoverWindows ≤ s.runAfter overl banks r) := by simpa using short
    simp [short]

theorem runs_recover (s : State) (r : RemoteId) :
    (allRemotes.foldl (fun s r => s.updateRecover overl banks r) s).comb.recover[r] = s.runAfter overl banks r := by
  refine (foldl_write_at (field := fun s => s.comb.recover) (value := fun s q => s.runAfter overl banks q)
    (fun t q => updateRecover_recover t overl banks q) (fun t q p other => ?_) (List.nodup_finRange 24) s r).trans
    (if_pos (List.mem_finRange r))
  have kept : (t.updateRecover overl banks q).comb.recover[p] = t.comb.recover[p] := by
    rw [updateRecover_recover]
    exact Vector.getElem_set_ne _ _ fun e => other (Fin.ext e.symm)
  unfold runAfter
  rw [kept]

theorem mem_runs_due {x : Instr} {l : List RemoteId} (once : l.Nodup) :
    x ∈ (l.foldl (fun s r => s.updateRecover overl banks r) s).due ↔
      x ∈ s.due ∨ ∃ r ∈ l, x = .guardStepDown r ∧ s.Recovers overl banks r := by
  induction l generalizing s with
  | nil => simp
  | cons q qs ih =>
    obtain ⟨absent, once⟩ := List.nodup_cons.mp once
    have same : ∀ r ∈ qs, ((s.updateRecover overl banks q).Recovers overl banks r ↔ s.Recovers overl banks r) := fun r mem => by
      have kept : (s.updateRecover overl banks q).comb.recover[r] = s.comb.recover[r] := by
        rw [updateRecover_recover]
        exact Vector.getElem_set_ne _ _ fun e => absent ((Fin.ext e : q = r) ▸ mem)
      have meas : (s.updateRecover overl banks q).meas = s.meas := by rw [updateRecover_frame]
      unfold Recovers runAfter
      rw [kept, meas]
    rw [List.foldl_cons, ih once, mem_updateRecover_due, or_assoc]
    refine or_congr_right ?_
    constructor
    · rintro (⟨own, run⟩ | ⟨r, mem, own, run⟩)
      · exact ⟨q, List.mem_cons_self, own, run⟩
      · exact ⟨r, List.mem_cons_of_mem _ mem, own, (same r mem).mp run⟩
    · rintro ⟨r, mem, own, run⟩
      rcases List.mem_cons.mp mem with rfl | mem
      · exact .inl ⟨own, run⟩
      · exact .inr ⟨r, mem, own, (same r mem).mpr run⟩

/-! ## The uplink guard, put together -/

/-- An overloaded sector names the remote (R92). -/
def Named (s : State) (banks : Vector Bank 4) (peak : Vector Nat 24) (r : RemoteId) : Prop :=
  ∃ x ∈ overloadedSectors s.comb.sat s.meas.satLimit, namedBy banks s.comb.guard peak x = some r

/-- What the uplink guard does at a window end (R88, R92 to R94). -/
structure Guarded (s : State) (banks : Vector Bank 4) (peak : Vector Nat 24) (t : State) : Prop where
  sat : t.comb.sat = Vector.replicate 32 0
  overload : ∀ x : SectorId, t.comb.overload[x] = decide (s.meas.satLimit < s.comb.sat[x])
  named : ∀ r : RemoteId, s.Named banks peak r → t.comb.guard[r] = s.comb.guard[r] + 1 ∧
    (s.comb.guard[r] = 7 → t.Recorded ⟨.guardFloor, .remote r⟩)
  unnamed : ∀ r : RemoteId, ¬ s.Named banks peak r → t.comb.guard[r] = s.comb.guard[r]
  recover : ∀ r : RemoteId, t.comb.recover[r] = s.runAfter (overloadedSectors s.comb.sat s.meas.satLimit) banks r
  due : ∀ x, x ∈ t.due ↔ x ∈ s.due ∨
    ∃ r, x = .guardStepDown r ∧ s.Recovers (overloadedSectors s.comb.sat s.meas.satLimit) banks r

/-- What the fold of the overload indications leaves. -/
theorem marks_leave (s : State) (overl l : List SectorId) : ∃ v p, l.foldl (fun s x => s.setOverloadMark overl x) s =
    { s with comb := { s.comb with overload := v }, sup := p } := by
  refine foldl_invariant (P := fun t => ∃ v p, t = { s with comb := { s.comb with overload := v }, sup := p })
    (fun t x => ?_) l ⟨_, _, rfl⟩
  rintro ⟨v, p, rfl⟩
  rw [setOverloadMark_frame]
  exact ⟨_, _, rfl⟩

theorem steps_leave (s : State) (l : List RemoteId) : ∃ v p, l.foldl stepGuardUp s =
    { s with comb := { s.comb with guard := v }, sup := p } := by
  refine foldl_invariant (P := fun t => ∃ v p, t = { s with comb := { s.comb with guard := v }, sup := p })
    (fun t x => ?_) l ⟨_, _, rfl⟩
  rintro ⟨v, p, rfl⟩
  rw [stepGuardUp_frame]
  exact ⟨_, _, rfl⟩

theorem runs_leave (s : State) (l : List RemoteId) : ∃ v d, l.foldl (fun s r => s.updateRecover overl banks r) s =
    { s with comb := { s.comb with recover := v }, due := d } := by
  refine foldl_invariant (P := fun t => ∃ v d, t = { s with comb := { s.comb with recover := v }, due := d })
    (fun t x => ?_) l ⟨_, _, rfl⟩
  rintro ⟨v, d, rfl⟩
  rw [updateRecover_frame]
  exact ⟨_, _, rfl⟩

theorem guardWindow_guarded (s : State) (banks : Vector Bank 4) (peak : Vector Nat 24) :
    s.Guarded banks peak (s.guardWindow banks peak) := by
  unfold guardWindow
  dsimp only
  have overloaded (x : SectorId) : (overloadedSectors s.comb.sat s.meas.satLimit).contains x =
      decide (s.meas.satLimit < s.comb.sat[x]) := by
    rw [List.contains_eq_mem]
    exact decide_eq_decide.mpr mem_overloadedSectors
  generalize named : ((overloadedSectors s.comb.sat s.meas.satLimit).filterMap (namedBy banks s.comb.guard peak)) = names
  have listed (r : RemoteId) : s.Named banks peak r ↔ r ∈ allRemotes.filter fun r => names.contains r := by
    simp only [Named, ← named, List.mem_filter, List.contains_iff_mem, List.mem_filterMap, allRemotes, List.mem_finRange,
      true_and]
  have once : (allRemotes.filter fun r => names.contains r).Nodup := (List.nodup_finRange 24).filter _
  generalize allRemotes.filter _ = l at *
  generalize loud : overloadedSectors s.comb.sat s.meas.satLimit = overl at *
  have marked := marks_overload s overl
  obtain ⟨v, p, leaves⟩ := marks_leave s overl allSectors
  rw [leaves] at marked ⊢
  have stepped := steps_guard once { s with comb := { s.comb with overload := v }, sup := p }
  have recorded (r : RemoteId) (mem : r ∈ l) :=
    steps_recorded once (s := { s with comb := { s.comb with overload := v }, sup := p }) mem
  obtain ⟨g, q, leaves⟩ := steps_leave { s with comb := { s.comb with overload := v }, sup := p } l
  rw [leaves] at stepped recorded ⊢
  have runs := runs_recover (overl := overl) (banks := banks)
    { s with comb := { s.comb with overload := v, guard := g }, sup := q }
  have owed (x : Instr) := mem_runs_due (overl := overl) (banks := banks) (x := x) (l := allRemotes)
    (s := { s with comb := { s.comb with overload := v, guard := g }, sup := q }) (List.nodup_finRange 24)
  obtain ⟨w, d, leaves⟩ := runs_leave (overl := overl) (banks := banks)
    { s with comb := { s.comb with overload := v, guard := g }, sup := q } allRemotes
  rw [leaves] at runs ⊢
  simp only [leaves] at owed
  refine ⟨rfl, fun x => (marked x).trans (overloaded x), fun r named => ⟨?_, fun seven => ?_⟩, fun r unnamed => ?_,
    loud ▸ runs, fun x => ?_⟩
  · exact (stepped r).trans (if_pos ((listed r).mp named))
  · exact (recorded r ((listed r).mp named) seven).of_sup rfl
  · exact (stepped r).trans (if_neg fun mem => unnamed ((listed r).mpr mem))
  · rw [loud]
    refine (owed x).trans (or_congr_right ?_)
    simp only [allRemotes, List.mem_finRange, true_and]
    exact .rfl

end State

end Sys2Proof.Machine
end

section
/-! SUPPORT. The Balancer's decisions at a window end, operator by operator (R115 to R126). -/

namespace Sys2Proof.Machine.State

variable {s t u : State} {o : OpId} {banks : Vector Bank 4} {staged : Vector StagedState 4}

/-! ## What a decision changes -/

/-- The ways in which the Balancer decides for an operator (R117, R124, R126). -/
inductive Decides (s : State) (o : OpId) : State → Prop
  | stays : Decides s o s
  | defers (x : BalancerOutcome) : Decides s o (s.defer o x)
  | answers (x : BalancerOutcome) : Decides s o (s.setOutcome o x)
  | moves (auto : s.bal[o].mode = .auto) (hot : SectorIx) (r : RemoteId) (i : SectorIx) : Decides s o (s.autoMove o hot r i)
  | advises (hot : SectorIx) (r : RemoteId) (i : SectorIx) : Decides s o (s.advise o hot r i)

theorem balance_decides (s : State) (banks : Vector Bank 4) (staged : Vector StagedState 4) (o : OpId) :
    s.Decides o (s.balance banks staged o) := by
  have evaluated (b : Bank) : s.Decides o (s.evaluate o b) := by
    unfold evaluate
    split
    · exact .answers _
    · split
      · exact .answers _
      · split
        · exact .answers _
        · split
          · next auto => exact .moves auto ..
          · exact .advises ..
  unfold balance
  split
  · exact .stays
  · split
    · exact .defers _
    · split
      · exact .defers _
      · split
        · exact .defers _
        · exact evaluated _

/-- Two states between which the Balancer decided for other operators: this one's plan and Balancer are the same, and so is
every active bank. -/
structure Apart (o : OpId) (s t : State) : Prop where
  rest : t = { s with bal := t.bal, sup := t.sup, plan := { s.plan with plans := t.plan.plans } }
  bal : t.bal[o] = s.bal[o]
  own : t.opPlan o = s.opPlan o
  active : ∀ p : OpId, (t.opPlan p).active = (s.opPlan p).active

theorem Apart.refl (o : OpId) (s : State) : Apart o s s := ⟨rfl, rfl, rfl, fun _ => rfl⟩

theorem Apart.trans (h : Apart o s t) (h' : Apart o t u) : Apart o s u := by
  refine ⟨?_, h'.bal.trans h.bal, h'.own.trans h.own, fun p => (h'.active p).trans (h.active p)⟩
  have rest := h'.rest
  rw [h.rest] at rest
  exact rest

theorem stageMove_active (s : State) (o : OpId) (r : RemoteId) (i : SectorIx) (x : Origin) (p : OpId) :
    ((s.stageMove o r i x).opPlan p).active = (s.opPlan p).active := by
  unfold stageMove
  by_cases e : p = o
  · subst e
    rw [opPlan_modPlan_same]
  · rw [opPlan_modPlan_other _ _ e]

theorem Apart.modBal (s : State) {q : OpId} (other : o ≠ q) (f : BalancerOp → BalancerOp) : Apart o s (s.modBal q f) :=
  ⟨rfl, modBal_other s f other, rfl, fun _ => rfl⟩

theorem Apart.stageMove (s : State) {q : OpId} (other : o ≠ q) (r : RemoteId) (i : SectorIx) (x : Origin) :
    Apart o s (s.stageMove q r i x) :=
  ⟨rfl, rfl, opPlan_modPlan_other s _ other, stageMove_active s q r i x⟩

theorem Apart.setSup (o : OpId) (s : State) (p : Supervision) : Apart o s { s with sup := p } := ⟨rfl, rfl, rfl, fun _ => rfl⟩

theorem Decides.apart {q : OpId} (h : s.Decides q t) (other : o ≠ q) : Apart o s t := by
  cases h with
  | stays => exact .refl o s
  | defers x => exact (Apart.modBal s other _).trans (.modBal _ other _)
  | answers x => exact .modBal s other _
  | moves _ hot r i =>
    unfold autoMove
    exact (Apart.stageMove s other r i .balancer).trans ((Apart.modBal _ other _).trans (.modBal _ other _))
  | advises hot r i =>
    unfold advise
    dsimp only
    have posted := fun f => (Apart.modBal s other fun b =>
      { b with outcome := .advised, outcomeAt := s.meas.snap.closing }).trans (.modBal _ other f)
    split
    · exact (posted _).trans (.setSup ..)
    · exact posted _

/-- A decision is on the Balancer, the alarms and the banks alone. -/
theorem Decides.rest (h : s.Decides o t) :
    t = { s with bal := t.bal, sup := t.sup, plan := { s.plan with plans := t.plan.plans } } := by
  cases h with
  | stays => rfl
  | defers x => rfl
  | answers x => rfl
  | moves _ hot r i => rfl
  | advises hot r i =>
    unfold advise
    dsimp only
    split <;> rfl

theorem setOutcome_bal (s : State) (o : OpId) (x : BalancerOutcome) :
    (s.setOutcome o x).bal[o] = { s.bal[o] with outcome := x, outcomeAt := s.meas.snap.closing } := modBal_same ..

theorem defer_bal (s : State) (o : OpId) (x : BalancerOutcome) : (s.defer o x).bal[o] =
    { s.bal[o] with
      outcome := x, outcomeAt := s.meas.snap.closing, deferrals := min (s.bal[o].deferrals + 1) 65535 } := by
  unfold defer
  rw [modBal_same, setOutcome_bal]
  rfl

theorem autoMove_bal (s : State) (o : OpId) (hot : SectorIx) (r : RemoteId) (i : SectorIx) : (s.autoMove o hot r i).bal[o] =
    { s.bal[o] with
      outcome := .moved, outcomeAt := s.meas.snap.closing, moves := min (s.bal[o].moves + 1) 65535
      lastMove := some ⟨s.meas.snap.closing, r, hot, i, s.meas.snap.share[o][r], .balancer⟩
      holdOff := s.bal[o].holdOff.set r s.bal[o].holdWindows } := by
  unfold autoMove
  rw [modBal_same, setOutcome_bal]
  rfl

theorem advise_bal (s : State) (o : OpId) (hot : SectorIx) (r : RemoteId) (i : SectorIx) : (s.advise o hot r i).bal[o] =
    { s.bal[o] with
      outcome := .advised, outcomeAt := s.meas.snap.closing
      advice := some ⟨s.meas.snap.closing, r, hot, i, s.meas.snap.share[o][r], s.meas.snap.load[sectorOf o hot],
        s.meas.snap.load[sectorOf o i]⟩ } := by
  unfold advise
  dsimp only
  split
  · dsimp only
    rw [modBal_same, setOutcome_bal]
  · rw [modBal_same, setOutcome_bal]

/-- The hold-offs change by a move of AUTO alone (R124). -/
theorem Decides.holdOff (h : s.Decides o t) (manual : s.bal[o].mode ≠ .auto) : t.bal[o].holdOff = s.bal[o].holdOff := by
  cases h with
  | stays => rfl
  | defers x => rw [defer_bal]
  | answers x => rw [setOutcome_bal]
  | moves auto => exact absurd auto manual
  | advises hot r i => rw [advise_bal]

theorem Decides.recorded {key : Key} (h : s.Decides o t) (old : s.Recorded key) : t.Recorded key := by
  cases h with
  | stays => exact old
  | defers x => exact old.of_sup rfl
  | answers x => exact old.of_sup rfl
  | moves _ hot r i => exact old.of_sup rfl
  | advises hot r i =>
    unfold advise
    dsimp only
    split
    · exact Supervision.Records.of_same old rfl rfl
    · exact old.of_sup rfl

/-! ## The decisions for all operators -/

/-- Each operator's decision is made once, on a state that the others' decisions leave apart, and stands. -/
theorem foldl_balance_apart {l : List OpId} (once : l.Nodup) (mem : o ∈ l) (s : State) :
    ∃ t, Apart o s t ∧ Apart o (t.balance banks staged o) (l.foldl (fun s o => s.balance banks staged o) s) := by
  have others : ∀ (m : List OpId) (t : State), o ∉ m → Apart o t (m.foldl (fun s o => s.balance banks staged o) t) := by
    intro m
    induction m with
    | nil => exact fun t _ => .refl o t
    | cons q qs ih =>
      intro t absent
      obtain ⟨ne, absent⟩ := not_or.mp (mt List.mem_cons.mpr absent)
      exact ((balance_decides t banks staged q).apart ne).trans (ih _ absent)
  obtain ⟨before, after, rfl⟩ := List.append_of_mem mem
  have first : o ∉ before := fun h => (List.disjoint_of_nodup_append once) h List.mem_cons_self
  have last : o ∉ after := (List.nodup_cons.mp (List.nodup_append.mp once).2.1).1
  refine ⟨before.foldl (fun s o => s.balance banks staged o) s, others before s first, ?_⟩
  rw [List.foldl_append, List.foldl_cons]
  exact others after _ last

/-! ## The parts of a window end -/

/-- The state at a window end after the uplink guard and the count of the hold-offs. -/
def counted (s : State) (b : Boundary) : State :=
  ((s.closeWindow b).guardWindow b.banks s.meas.peak).countHoldOffs b.moved

/-- The state at a window end after the Balancer's decisions. -/
def balanced (s : State) (b : Boundary) : State :=
  allOps.foldl (fun s o => s.balance b.banks b.staged o) (s.counted b)

theorem windowEnd_of_some {b : Boundary} (found : s.boundary = some b) : s.windowEnd = ((s.balanced b).autoQuiet b).resweep := by
  unfold windowEnd
  rw [found]
  rfl

theorem counted_frame (s : State) (b : Boundary) : s.counted b = { s with
    meas := (s.closeWindow b).meas, bal := (s.counted b).bal, due := (s.counted b).due, sup := (s.counted b).sup
    comb := { (s.counted b).comb with gates := s.comb.gates, sums := s.comb.sums, outputs := s.comb.outputs } } := by
  unfold counted countHoldOffs
  rw [guardWindow_frame]
  rfl

theorem balanced_frame (s : State) (b : Boundary) : ∃ k p q, s.balanced b =
    { s.counted b with bal := k, sup := p, plan := { s.plan with plans := q } } := by
  refine foldl_invariant (P := fun t => ∃ k p q, t =
    { s.counted b with bal := k, sup := p, plan := { s.plan with plans := q } }) (fun t o => ?_) allOps ?_
  · rintro ⟨k, p, q, rfl⟩
    rw [(balance_decides _ b.banks b.staged o).rest]
    exact ⟨_, _, _, rfl⟩
  · exact ⟨(s.counted b).bal, (s.counted b).sup, s.plan.plans, by rw [counted_frame]⟩

theorem balanced_apart (s : State) (b : Boundary) (o : OpId) :
    ∃ t, Apart o (s.counted b) t ∧ Apart o (t.balance b.banks b.staged o) (s.balanced b) :=
  foldl_balance_apart (List.nodup_finRange 4) (List.mem_finRange o) _

theorem counted_bal (s : State) (b : Boundary) (o : OpId) : (s.counted b).bal[o] = { s.bal[o] with
    holdOff := tab fun r => if b.moved.contains (o, r) then s.bal[o].holdOff[r] else s.bal[o].holdOff[r] - 1 } := by
  unfold counted countHoldOffs
  rw [guardWindow_frame]
  exact getElem_tab _ o

theorem counted_holdOff (s : State) (b : Boundary) (o : OpId) (r : RemoteId) : (s.counted b).bal[o].holdOff[r] =
    if (o, r) ∈ b.moved then s.bal[o].holdOff[r] else s.bal[o].holdOff[r] - 1 := by
  rw [counted_bal]
  refine (getElem_tab _ r).trans ?_
  rw [List.contains_eq_mem]
  simp only [decide_eq_true_eq]

/-! ## Auto-quiet -/

theorem quietWindow_iff {b : Boundary} : s.quietWindow b = true ↔
    ∀ x : SectorId, s.InService b.mode b.banks[sectorOp x] (sectorIx x) → s.meas.snap.load[x] ≤ s.mode.quietLevel := by
  simp only [quietWindow, allSectors, List.all_eq_true, List.mem_finRange, forall_const, Bool.or_eq_true, Bool.not_eq_true',
    decide_eq_true_eq, ← inService_iff, ← Bool.not_eq_true, imp_iff_not_or]

theorem wakes_iff : s.wakes = true ↔ ∃ x : SectorId, s.mode.wakeLevel ≤ s.meas.snap.load[x] := by
  simp only [wakes, allSectors, List.any_eq_true, List.mem_finRange, true_and, decide_eq_true_eq]

theorem autoQuiet_of_off {b : Boundary} (off : s.mode.aqEnable = false ∨ b.modeSet = true) : s.autoQuiet b = s := by
  unfold autoQuiet
  rw [if_pos]
  rcases off with off | off <;> simp [off]

/-- The quiet run after a window end in NORMAL (R141). -/
def quietRunAfter (s : State) (b : Boundary) : Nat := if s.quietWindow b then min (s.mode.quietRun + 1) 255 else 0

theorem autoQuiet_of_normal {b : Boundary} (on : s.mode.aqEnable = true) (unset : b.modeSet = false) (normal : s.mode.mode = .normal) :
    (s.autoQuiet b).mode = { s.mode with quietRun := s.quietRunAfter b } ∧ ∀ x, x ∈ (s.autoQuiet b).due ↔
      x ∈ s.due ∨ (x = .autoQuietEntry ∧ s.mode.quietWindows ≤ s.quietRunAfter b) := by
  have go : s.autoQuiet b =
      if s.mode.quietWindows ≤ s.quietRunAfter b then
        ({ s with mode := { s.mode with quietRun := s.quietRunAfter b } } : State).owe [.autoQuietEntry]
      else { s with mode := { s.mode with quietRun := s.quietRunAfter b } } := by
    unfold autoQuiet
    rw [if_neg (by simp [on, unset]), normal]
    rfl
  rw [go]
  split
  · next reached => exact ⟨rfl, fun x => by simp [owe, reached]⟩
  · next short => exact ⟨rfl, fun x => by simp [short]⟩

theorem autoQuiet_of_quiet {b : Boundary} (on : s.mode.aqEnable = true) (unset : b.modeSet = false) (quiet : s.mode.mode = .quiet) :
    (s.autoQuiet b).mode = (if s.wakes then { s.mode with auto := some .normal } else s.mode) ∧
      (s.autoQuiet b).due = s.due := by
  unfold autoQuiet
  rw [if_neg (by simp [on, unset]), quiet]
  dsimp only
  split <;> exact ⟨rfl, rfl⟩

end Sys2Proof.Machine.State
end

section
/-! The statements on the window end, the uplink guard and auto-quiet. -/

namespace Sys2Proof.Machine.State

variable {s : State} {b : Boundary}

/-! ## The parts of a window end, put together -/

theorem counted_due (s : State) (b : Boundary) :
    (s.counted b).due = ((s.closeWindow b).guardWindow b.banks s.meas.peak).due := by
  unfold counted countHoldOffs
  rfl

theorem counted_sup (s : State) (b : Boundary) :
    (s.counted b).sup = ((s.closeWindow b).guardWindow b.banks s.meas.peak).sup := by
  unfold counted countHoldOffs
  rfl

/-- What the uplink guard and the Balancer's decisions leave (R92 to R126). -/
structure LeftByDecisions (s : State) (b : Boundary) (t : State) : Prop where
  meas : t.meas = (s.closeWindow b).meas
  mode : t.mode = s.mode
  carriers : t.plan.carriers = s.plan.carriers
  due : t.due = ((s.closeWindow b).guardWindow b.banks s.meas.peak).due

theorem balanced_left (s : State) (b : Boundary) : s.LeftByDecisions b (s.balanced b) := by
  obtain ⟨k, p, q, e⟩ := balanced_frame s b
  have frame := counted_frame s b
  rw [e]
  refine ⟨?_, ?_, rfl, counted_due s b⟩
  · rw [frame]
  · rw [frame]

/-- What follows the Balancer's decisions leaves everything but the mode, the owed steps and the alarms. -/
theorem windowEnd_parts (found : s.boundary = some b) :
    s.windowEnd.meas = (s.balanced b).meas ∧ s.windowEnd.bal = (s.balanced b).bal ∧ s.windowEnd.plan = (s.balanced b).plan ∧
      s.windowEnd.mode = ((s.balanced b).autoQuiet b).mode ∧ s.windowEnd.due = ((s.balanced b).autoQuiet b).due := by
  have swept (t : State) : t.resweep.meas = t.meas ∧ t.resweep.bal = t.bal ∧ t.resweep.plan = t.plan ∧
      t.resweep.mode = t.mode ∧ t.resweep.due = t.due := ⟨rfl, rfl, rfl, rfl, rfl⟩
  obtain ⟨meas, bal, plan, mode, due⟩ := swept ((s.balanced b).autoQuiet b)
  rw [windowEnd_of_some found, meas, bal, plan, mode, due]
  generalize s.balanced b = t
  exact ⟨by rw [autoQuiet_frame], by rw [autoQuiet_frame], by rw [autoQuiet_frame], rfl, rfl⟩

theorem windowEnd_meas (found : s.boundary = some b) : s.windowEnd.meas = (s.closeWindow b).meas :=
  (windowEnd_parts found).1.trans (balanced_left s b).meas

theorem windowEnd_bal (found : s.boundary = some b) : s.windowEnd.bal = (s.balanced b).bal := (windowEnd_parts found).2.1

theorem windowEnd_opPlan (found : s.boundary = some b) (o : OpId) : s.windowEnd.opPlan o = (s.balanced b).opPlan o := by
  obtain ⟨_, _, plan, _⟩ := windowEnd_parts found
  unfold opPlan
  rw [plan]

/-- What the guard records, the rest of the window end keeps recorded. -/
theorem windowEnd_recorded (found : s.boundary = some b) {key : Key}
    (h : ((s.closeWindow b).guardWindow b.banks s.meas.peak).Recorded key) : s.windowEnd.Recorded key := by
  have decided : (s.balanced b).Recorded key :=
    foldl_invariant (P := (State.Recorded · key)) (fun t o old => (balance_decides t b.banks b.staged o).recorded old) allOps
      (Recorded.of_sup h (counted_sup s b))
  have quiet : ((s.balanced b).autoQuiet b).Recorded key := decided.of_sup (by rw [autoQuiet_frame])
  rw [windowEnd_of_some found]
  exact Supervision.Records.resweep quiet ..

/-- The hold-offs at a window end, where AUTO does not set one (R115). -/
theorem windowEnd_holdOff (found : s.boundary = some b) {o : OpId} (manual : s.bal[o].mode ≠ .auto) (r : RemoteId) :
    s.windowEnd.bal[o].holdOff[r] = if (o, r) ∈ b.moved then s.bal[o].holdOff[r] else s.bal[o].holdOff[r] - 1 := by
  obtain ⟨t, before, after⟩ := balanced_apart s b o
  have mode : t.bal[o].mode = s.bal[o].mode := by rw [before.bal, counted_bal]
  have kept := (balance_decides t b.banks b.staged o).holdOff (mode ▸ manual)
  have same : s.windowEnd.bal[o].holdOff = (s.counted b).bal[o].holdOff := by
    rw [windowEnd_bal found, after.bal, kept, before.bal]
  rw [same]
  exact counted_holdOff s b o r

/-- The remote that an overloaded sector names, as R92 spells it. -/
theorem named_iff {banks : Vector Bank 4} {peak : Vector Nat 24} {r : RemoteId} : s.Named banks peak r ↔
    ∃ x : SectorId, s.meas.satLimit < s.comb.sat[x] ∧ banks[sectorOp x].zones[r].cur = some (sectorIx x) ∧ s.comb.guard[r] < 8 ∧
      ∀ q : RemoteId, banks[sectorOp x].zones[q].cur = some (sectorIx x) → s.comb.guard[q] < 8 →
        peak[q] < peak[r] ∨ (peak[q] = peak[r] ∧ r ≤ q) := by
  unfold Named
  simp only [mem_overloadedSectors, namedBy_eq_some_iff, Ahead]

/-- A guard step goes up by one at most at a window end (R92). -/
theorem windowEnd_guard_bounds (found : s.boundary = some b) (r : RemoteId) :
    s.comb.guard[r] ≤ s.windowEnd.comb.guard[r] ∧ s.windowEnd.comb.guard[r] ≤ s.comb.guard[r] + 1 := by
  have guarded := guardWindow_guarded (s.closeWindow b) b.banks s.meas.peak
  have comb : s.windowEnd.comb = ((s.closeWindow b).guardWindow b.banks s.meas.peak).comb := windowEnd_comb found
  rw [comb]
  by_cases named : (s.closeWindow b).Named b.banks s.meas.peak r
  · have up : _ = s.comb.guard[r] + 1 := (guarded.named r named).1
    omega
  · have same : _ = s.comb.guard[r] := guarded.unnamed r named
    omega

theorem suspended_of_carriers {t : State} (same : t.plan.carriers = s.plan.carriers) (mode : HubMode) :
    t.plan.suspended mode = s.plan.suspended mode := by
  unfold PlanStore.suspended
  rw [same]

theorem inService_of_carriers {t : State} (same : t.plan.carriers = s.plan.carriers) {mode : HubMode} {k : Bank} {i : SectorIx} :
    t.InService mode k i ↔ s.InService mode k i := by
  unfold InService
  rw [suspended_of_carriers same]

theorem struck_overloaded_iff {banks : Vector Bank 4} {r : RemoteId} :
    struck (overloadedSectors s.comb.sat s.meas.satLimit) banks r = true ↔
      ∃ x : SectorId, s.meas.satLimit < s.comb.sat[x] ∧ banks[sectorOp x].zones[r].cur = some (sectorIx x) := by
  rw [struck_iff]
  simp only [mem_overloadedSectors]

/-- The recover runs at a window end, and the steps down that they owe, as R93 spells them. -/
theorem recovers_spelled {banks : Vector Bank 4} (r : RemoteId) :
    let overl := overloadedSectors s.comb.sat s.meas.satLimit
    let hit : Prop := ∃ x : SectorId, s.meas.satLimit < s.comb.sat[x] ∧ banks[sectorOp x].zones[r].cur = some (sectorIx x)
    (hit → s.runAfter overl banks r = 0) ∧ (¬ hit → s.runAfter overl banks r = min (s.comb.recover[r] + 1) 255) ∧
      (s.Recovers overl banks r ↔ ¬ hit ∧ s.meas.recoverWindows ≤ min (s.comb.recover[r] + 1) 255) := by
  intro overl hit
  have iff : struck overl banks r = true ↔ hit := struck_overloaded_iff
  have run : ¬ hit → s.runAfter overl banks r = min (s.comb.recover[r] + 1) 255 := fun clear => if_neg (mt iff.mp clear)
  refine ⟨fun h => if_pos (iff.mpr h), run, ?_⟩
  unfold Recovers
  rw [← Bool.not_eq_true, iff]
  exact and_congr_right fun clear => by rw [run clear]

theorem guardStepDown_of_reached {r : RemoteId} (reached : s.meas.recoverWindows ≤ s.comb.recover[r]) :
    (s.guardStepDown r).comb = { s.comb with
      guard := s.comb.guard.set r (s.comb.guard[r] - 1), recover := s.comb.recover.set r 0 } ∧
    (s.comb.guard[r] ≠ 8 → (s.guardStepDown r).sup = s.sup) := by
  unfold guardStepDown
  rw [if_pos reached]
  dsimp only
  split
  · next eight => exact ⟨rfl, fun low => absurd eight low⟩
  · exact ⟨rfl, fun _ => rfl⟩

/-- An overloaded sector of a bank that governed the window has the remote as a member (R92). -/
def Hit (s : State) (b : Boundary) (r : RemoteId) : Prop :=
  ∃ x : SectorId, s.meas.satLimit < s.comb.sat[x] ∧ b.banks[sectorOp x].zones[r].cur = some (sectorIx x)

theorem windowEnd_guard (found : s.boundary = some b) (r : RemoteId) :
    (s.Named b.banks s.meas.peak r → s.windowEnd.comb.guard[r] = s.comb.guard[r] + 1 ∧
      (s.comb.guard[r] = 7 → s.windowEnd.Recorded ⟨.guardFloor, .remote r⟩)) ∧
    (¬ s.Named b.banks s.meas.peak r → s.windowEnd.comb.guard[r] = s.comb.guard[r]) := by
  have comb : s.windowEnd.comb = ((s.closeWindow b).guardWindow b.banks s.meas.peak).comb := windowEnd_comb found
  have guarded := guardWindow_guarded (s.closeWindow b) b.banks s.meas.peak
  rw [comb]
  refine ⟨fun named => ?_, guarded.unnamed r⟩
  obtain ⟨up, floor⟩ := guarded.named r named
  exact ⟨up, fun seven => windowEnd_recorded found (floor seven)⟩

theorem windowEnd_recover (found : s.boundary = some b) (r : RemoteId) :
    (s.Hit b r → s.windowEnd.comb.recover[r] = 0) ∧
      (¬ s.Hit b r → s.windowEnd.comb.recover[r] = min (s.comb.recover[r] + 1) 255) := by
  have comb : s.windowEnd.comb = ((s.closeWindow b).guardWindow b.banks s.meas.peak).comb := windowEnd_comb found
  have guarded := guardWindow_guarded (s.closeWindow b) b.banks s.meas.peak
  obtain ⟨zero, up, _⟩ := recovers_spelled (s := s.closeWindow b) (banks := b.banks) r
  rw [comb, guarded.recover]
  exact ⟨zero, up⟩

/-- The steps owed when the Balancer has decided are those owed before and the steps down of the guard. -/
theorem mem_balanced_due {x : Instr} : x ∈ (s.balanced b).due ↔ x ∈ s.due ∨
    ∃ r, x = .guardStepDown r ∧ ¬ s.Hit b r ∧ s.meas.recoverWindows ≤ min (s.comb.recover[r] + 1) 255 := by
  rw [(balanced_left s b).due, (guardWindow_guarded (s.closeWindow b) b.banks s.meas.peak).due]
  refine or_congr_right (exists_congr fun r => and_congr_right fun _ => ?_)
  obtain ⟨_, _, owes⟩ := recovers_spelled (s := s.closeWindow b) (banks := b.banks) r
  exact owes

theorem autoQuiet_due_of_ne {x : Instr} (other : x ≠ .autoQuietEntry) : x ∈ (s.autoQuiet b).due ↔ x ∈ s.due := by
  by_cases off : s.mode.aqEnable = false ∨ b.modeSet = true
  · rw [autoQuiet_of_off off]
  · obtain ⟨on, unset⟩ := not_or.mp off
    replace on := Bool.eq_true_of_not_eq_false on
    replace unset := Bool.eq_false_of_not_eq_true unset
    cases mode : s.mode.mode with
    | normal =>
      rw [(autoQuiet_of_normal on unset mode).2]
      exact or_iff_left fun h => other h.1
    | quiet => rw [(autoQuiet_of_quiet on unset mode).2]

theorem windowEnd_owes_down (found : s.boundary = some b) (r : RemoteId) : .guardStepDown r ∈ s.windowEnd.due ↔
    .guardStepDown r ∈ s.due ∨ (¬ s.Hit b r ∧ s.meas.recoverWindows ≤ min (s.comb.recover[r] + 1) 255) := by
  obtain ⟨_, _, _, _, due⟩ := windowEnd_parts found
  rw [due, autoQuiet_due_of_ne (by simp), mem_balanced_due]
  simp

theorem balanced_owes_entry : .autoQuietEntry ∈ (s.balanced b).due ↔ .autoQuietEntry ∈ s.due := by
  rw [mem_balanced_due]
  simp

theorem windowEnd_quiet_off (found : s.boundary = some b) (off : s.mode.aqEnable = false ∨ b.modeSet = true) :
    s.windowEnd.mode = s.mode ∧ (.autoQuietEntry ∈ s.windowEnd.due ↔ .autoQuietEntry ∈ s.due) := by
  obtain ⟨_, _, _, mode, due⟩ := windowEnd_parts found
  have left := (balanced_left s b).mode
  rw [mode, due, autoQuiet_of_off (by rw [left]; exact off), left, balanced_owes_entry]
  exact ⟨rfl, .rfl⟩

/-- Every sector in service in the closing window had a load of at most QuietLevel (R141). -/
def WasQuiet (s : State) (b : Boundary) : Prop := ∀ x : SectorId,
  s.InService b.mode b.banks[sectorOp x] (sectorIx x) → s.windowEnd.meas.snap.load[x] ≤ s.mode.quietLevel

theorem quietWindow_balanced_iff (found : s.boundary = some b) : (s.balanced b).quietWindow b = true ↔ s.WasQuiet b := by
  have left := balanced_left s b
  unfold WasQuiet
  rw [windowEnd_meas found, ← left.meas, quietWindow_iff, left.mode]
  simp only [inService_of_carriers left.carriers]

theorem windowEnd_normal (found : s.boundary = some b) (on : s.mode.aqEnable = true) (unset : b.modeSet = false)
    (normal : s.mode.mode = .normal) :
    (s.WasQuiet b → s.windowEnd.mode = { s.mode with quietRun := min (s.mode.quietRun + 1) 255 }) ∧
      (¬ s.WasQuiet b → s.windowEnd.mode = { s.mode with quietRun := 0 }) ∧
      (.autoQuietEntry ∈ s.windowEnd.due ↔ .autoQuietEntry ∈ s.due ∨ s.mode.quietWindows ≤ s.windowEnd.mode.quietRun) := by
  obtain ⟨_, _, _, mode, due⟩ := windowEnd_parts found
  have left := (balanced_left s b).mode
  obtain ⟨run, owed⟩ := autoQuiet_of_normal (s := s.balanced b) (by rw [left]; exact on) unset (by rw [left]; exact normal)
  have iff := quietWindow_balanced_iff found
  have after : (s.balanced b).quietRunAfter b = if (s.balanced b).quietWindow b then min (s.mode.quietRun + 1) 255 else 0 := by
    rw [quietRunAfter, left]
  rw [mode, due, owed, run, left, balanced_owes_entry, after]
  refine ⟨fun calm => ?_, fun loud => ?_, or_congr_right (and_iff_right rfl)⟩
  · rw [if_pos (iff.mpr calm)]
  · rw [if_neg (mt iff.mp loud)]

theorem windowEnd_wakes (found : s.boundary = some b) (on : s.mode.aqEnable = true) (unset : b.modeSet = false)
    (quiet : s.mode.mode = .quiet) :
    ((∃ x : SectorId, s.mode.wakeLevel ≤ s.windowEnd.meas.snap.load[x]) →
        s.windowEnd.mode = { s.mode with auto := some .normal }) ∧
      ((∀ x : SectorId, s.windowEnd.meas.snap.load[x] < s.mode.wakeLevel) → s.windowEnd.mode = s.mode) ∧
      (.autoQuietEntry ∈ s.windowEnd.due ↔ .autoQuietEntry ∈ s.due) := by
  obtain ⟨meas, _, _, mode, due⟩ := windowEnd_parts found
  have left := (balanced_left s b).mode
  obtain ⟨changed, owed⟩ := autoQuiet_of_quiet (s := s.balanced b) (by rw [left]; exact on) unset (by rw [left]; exact quiet)
  have iff := wakes_iff (s := s.balanced b)
  rw [mode, due, meas, owed, changed, left, balanced_owes_entry]
  rw [left] at iff
  refine ⟨fun loud => if_pos (iff.mpr loud), fun low => if_neg fun wakes => ?_, .rfl⟩
  obtain ⟨x, loud⟩ := iff.mp wakes
  exact absurd (low x) (Nat.not_lt.mpr loud)

end Sys2Proof.Machine.State

namespace Sys2Proof.Proofs

open Sys2Proof.Machine Sys2Proof.Machine.State

/-- Settles O32: by what each part of the window end leaves. -/
theorem windowEnd : Obligations.WindowEnd := by
  intro s b next found
  refine ⟨(s.dropDue .windowEnd).windowEnd, exec_next next, ?_⟩
  have here : (s.dropDue .windowEnd).boundary = some b := found
  have meas := windowEnd_meas here
  have comb : (s.dropDue .windowEnd).windowEnd.comb =
    (((s.dropDue .windowEnd).closeWindow b).guardWindow b.banks s.meas.peak).comb := windowEnd_comb here
  have guarded := guardWindow_guarded ((s.dropDue .windowEnd).closeWindow b) b.banks s.meas.peak
  have bounds := windowEnd_guard_bounds here
  have holdOff (o : OpId) (manual) := windowEnd_holdOff here (o := o) manual
  have active := windowEnd_active (s.dropDue .windowEnd)
  have mode := windowEnd_modeInForce (s.dropDue .windowEnd)
  have frame := windowEnd_frame (s.dropDue .windowEnd)
  generalize (s.dropDue .windowEnd).windowEnd = t at *
  refine ⟨by rw [meas]; rfl, by rw [meas]; rfl, by rw [meas]; rfl, by rw [meas]; rfl, by rw [meas]; rfl,
    by rw [comb]; exact guarded.sat, fun x => by rw [comb]; exact guarded.overload x, bounds, fun o r manual stays => ?_,
    active, ?_, ?_, ?_, ?_, ?_, mode, ?_⟩
  · exact (holdOff o manual r).trans (if_neg stays)
  all_goals rw [frame]; rfl

/-- Settles O33: by what the guard and auto-quiet do at a window end, and by the two steps that they owe. -/
theorem runsComplete : Obligations.RunsComplete := by
  refine ⟨?_, ?_, ?_⟩
  · intro s b next found member loud named
    refine ⟨(s.dropDue .windowEnd).windowEnd, exec_next next, ?_⟩
    have here : (s.dropDue .windowEnd).boundary = some b := found
    have guard := windowEnd_guard here
    have recover := windowEnd_recover here
    have owes := windowEnd_owes_down here
    have off := windowEnd_quiet_off here
    have normal := windowEnd_normal here
    have wakes := windowEnd_wakes here
    have kept {x : Instr} (other : x ≠ .windowEnd) := mem_dropDue_of_ne (s := s) other
    have names (r : RemoteId) : named r ↔ (s.dropDue .windowEnd).Named b.banks s.meas.peak r := named_iff.symm
    have clear (r : RemoteId) : (∀ x, loud x → ¬ member r x) ↔ ¬ (s.dropDue .windowEnd).Hit b r :=
      ⟨fun h ⟨x, overload, mem⟩ => h x overload mem, fun h x overload mem => h ⟨x, overload, mem⟩⟩
    rw [kept (by simp)] at off
    simp only [kept (x := .guardStepDown _) (by simp)] at owes
    refine ⟨fun r => ?_, fun r => ⟨(recover r).1, ?_, ?_⟩, off, fun on unset => ?_⟩
    · rw [names]
      exact guard r
    · rw [clear]
      exact (recover r).2
    · rw [clear]
      exact owes r
    · rw [kept (by simp)] at normal wakes
      exact ⟨normal on unset, wakes on unset⟩
  · intro s r next reached
    refine ⟨(s.dropDue (.guardStepDown r)).guardStepDown r, exec_next next, ?_⟩
    obtain ⟨comb, sup⟩ := guardStepDown_of_reached (s := s.dropDue (.guardStepDown r)) (r := r) reached
    refine ⟨comb, sup, ?_⟩
    generalize down : (s.dropDue (.guardStepDown r)).guardStepDown r = t
    have frame := guardStepDown_frame (s.dropDue (.guardStepDown r)) r
    rw [down] at frame
    exact frame
  · intro s next reached
    exact (exec_next next).trans (congrArg Host.Outcome.next (if_pos reached))

end Sys2Proof.Proofs
end

section
/-! SUPPORT. How the Balancer searches: the hot sector, the order of the candidates, the first target (R118 to R123). -/

namespace Sys2Proof.Machine

/-! ## First of a list -/

/-- The first element that passes stands ahead of every other that does. -/
theorem find?_eq_some_iff_idxOf {α : Type} [DecidableEq α] {p : α → Bool} {l : List α} {x : α} :
    l.find? p = some x ↔ x ∈ l ∧ p x = true ∧ ∀ y ∈ l, p y = true → l.idxOf x ≤ l.idxOf y := by
  induction l with
  | nil => simp
  | cons z zs ih =>
    by_cases pass : p z = true
    · rw [List.find?_cons_of_pos pass, Option.some.injEq]
      constructor
      · rintro rfl
        refine ⟨List.mem_cons_self, pass, fun y _ _ => ?_⟩
        rw [List.idxOf_cons_self]
        exact Nat.zero_le _
      · rintro ⟨_, _, least⟩
        have first := least z List.mem_cons_self pass
        rw [List.idxOf_cons_self] at first
        by_contra ne
        rw [List.idxOf_cons_ne _ ne] at first
        omega
    · have other {y : α} (h : p y = true) : z ≠ y := fun e => pass (e ▸ h)
      rw [List.find?_cons_of_neg pass, ih]
      constructor
      · rintro ⟨mem, own, least⟩
        refine ⟨List.mem_cons_of_mem _ mem, own, fun y mem' own' => ?_⟩
        rw [List.idxOf_cons_ne _ (other own), List.idxOf_cons_ne _ (other own')]
        exact Nat.succ_le_succ (least y ((List.mem_cons.mp mem').resolve_left (other own').symm) own')
      · rintro ⟨mem, own, least⟩
        refine ⟨(List.mem_cons.mp mem).resolve_left (other own).symm, own, fun y mem' own' => ?_⟩
        have ahead := least y (List.mem_cons_of_mem _ mem') own'
        rw [List.idxOf_cons_ne _ (other own), List.idxOf_cons_ne _ (other own')] at ahead
        exact Nat.le_of_succ_le_succ ahead

/-- In a list in the order of some values, the first that yields anything is ahead of every other that does. -/
theorem findSome?_eq_some_iff_ahead {share : Vector Nat 24} {α : Type} {f : RemoteId → Option α} {l : List RemoteId}
    (ordered : l.Pairwise (Ahead share)) {a : α} :
    l.findSome? f = some a ↔ ∃ r ∈ l, f r = some a ∧ ∀ q ∈ l, (f q).isSome = true → Ahead share r q := by
  have first {a : α} (found : l.findSome? f = some a) :
      ∃ r ∈ l, f r = some a ∧ ∀ q ∈ l, (f q).isSome = true → Ahead share r q := by
    obtain ⟨before, r, after, rfl, yields, none⟩ := List.findSome?_eq_some_iff.mp found
    refine ⟨r, List.mem_append_right _ List.mem_cons_self, yields, fun q mem some => ?_⟩
    rcases List.mem_append.mp mem with old | mem
    · rw [none q old] at some
      contradiction
    · rcases List.mem_cons.mp mem with rfl | new
      · exact .inr ⟨rfl, le_refl _⟩
      · exact (List.pairwise_cons.mp (List.pairwise_append.mp ordered).2.1).1 q new
  refine ⟨first, fun ⟨r, mem, yields, ahead⟩ => ?_⟩
  cases found : l.findSome? f with
  | none =>
    rw [List.findSome?_eq_none_iff.mp found r mem] at yields
    contradiction
  | some x =>
    obtain ⟨q, mem', yields', ahead'⟩ := first found
    have same := (ahead q mem' (yields' ▸ rfl)).antisymm (ahead' r mem (yields ▸ rfl))
    rw [same, yields'] at yields
    exact yields

namespace State

/-! ## The order of the candidates (R119) -/

theorem mem_insertByShare {share : Vector Nat 24} {r q : RemoteId} {l : List RemoteId} :
    q ∈ insertByShare share r l ↔ q = r ∨ q ∈ l := by
  induction l with
  | nil => simp [insertByShare]
  | cons x xs ih =>
    unfold insertByShare
    split
    · exact List.mem_cons
    · rw [List.mem_cons, ih, List.mem_cons]
      exact or_left_comm

theorem mem_byShare {share : Vector Nat 24} {q : RemoteId} {l : List RemoteId} : q ∈ byShare share l ↔ q ∈ l := by
  induction l with
  | nil => rfl
  | cons x xs ih =>
    unfold byShare
    rw [mem_insertByShare, ih, List.mem_cons]

theorem insertByShare_ordered {share : Vector Nat 24} {r : RemoteId} {l : List RemoteId} (lower : ∀ q ∈ l, r < q)
    (ordered : l.Pairwise (Ahead share)) : (insertByShare share r l).Pairwise (Ahead share) := by
  induction l with
  | nil => exact List.pairwise_singleton ..
  | cons x xs ih =>
    obtain ⟨first, rest⟩ := List.pairwise_cons.mp ordered
    unfold insertByShare
    split
    · next le =>
      refine List.pairwise_cons.mpr ⟨fun q mem => ?_, ordered⟩
      have below : share[q] ≤ share[x] := by
        rcases List.mem_cons.mp mem with rfl | mem
        · exact le_refl _
        · rcases first q mem with lt | ⟨eq, _⟩
          · exact lt.le
          · exact eq.le
      exact (Nat.lt_or_eq_of_le (below.trans le)).imp_right fun eq => ⟨eq, (lower q mem).le⟩
    · next gt =>
      refine List.pairwise_cons.mpr ⟨fun q mem => ?_, ih (fun q mem => lower q (List.mem_cons_of_mem _ mem)) rest⟩
      rcases mem_insertByShare.mp mem with rfl | mem
      · exact .inl (Nat.not_le.mp gt)
      · exact first q mem

theorem byShare_ordered {share : Vector Nat 24} {l : List RemoteId} (ascending : l.Pairwise (· < ·)) :
    (byShare share l).Pairwise (Ahead share) := by
  induction l with
  | nil => exact .nil
  | cons x xs ih =>
    obtain ⟨first, rest⟩ := List.pairwise_cons.mp ascending
    exact insertByShare_ordered (fun q mem => first q (mem_byShare.mp mem)) (ih rest)

variable {s u : State} {o : OpId} {k : Bank}

/-! ## The hot sector (R118) -/

theorem hottest_spec {load : Vector Nat 32} {l : List SectorIx} (ascending : l.Pairwise (· < ·)) :
    match s.hottest o k load l with
    | none => ∀ i ∈ l, ¬ s.InService s.mode.mode k i
    | some h => h ∈ l ∧ s.InService s.mode.mode k h ∧ ∀ i ∈ l, s.InService s.mode.mode k i →
        load[sectorOf o i] < load[sectorOf o h] ∨ (load[sectorOf o i] = load[sectorOf o h] ∧ h ≤ i) := by
  induction l with
  | nil => nofun
  | cons x xs ih =>
    obtain ⟨first, rest⟩ := List.pairwise_cons.mp ascending
    replace ih := ih rest
    unfold hottest
    cases found : s.hottest o k load xs with
    | none =>
      rw [found] at ih
      dsimp only at ih ⊢
      by_cases serves : s.InService s.mode.mode k x
      · rw [if_pos (inService_iff.mpr serves)]
        refine ⟨List.mem_cons_self, serves, fun i mem serves' => ?_⟩
        rcases List.mem_cons.mp mem with rfl | mem
        · exact .inr ⟨rfl, le_refl _⟩
        · exact absurd serves' (ih i mem)
      · rw [if_neg (mt inService_iff.mp serves)]
        intro i mem
        rcases List.mem_cons.mp mem with rfl | mem
        · exact serves
        · exact ih i mem
    | some h =>
      rw [found] at ih
      dsimp only at ih ⊢
      obtain ⟨mem, serves, ahead⟩ := ih
      by_cases takes : (s.plan.inService s.mode.mode k x && decide (load[sectorOf o h] ≤ load[sectorOf o x])) = true
      · rw [if_pos takes]
        obtain ⟨serves', le⟩ := Bool.and_eq_true_iff.mp takes
        have le := of_decide_eq_true le
        refine ⟨List.mem_cons_self, inService_iff.mp serves', fun i mem' serves'' => ?_⟩
        rcases List.mem_cons.mp mem' with rfl | mem'
        · exact .inr ⟨rfl, le_refl _⟩
        · rcases ahead i mem' serves'' with lt | ⟨eq, _⟩
          · exact .inl (lt.trans_le le)
          · exact (Nat.lt_or_eq_of_le (eq.trans_le le)).imp_right fun same => ⟨same, (first i mem').le⟩
      · rw [if_neg takes]
        refine ⟨List.mem_cons_of_mem _ mem, serves, fun i mem' serves' => ?_⟩
        rcases List.mem_cons.mp mem' with rfl | mem'
        · refine .inl (Nat.not_le.mp fun le => takes ?_)
          exact Bool.and_eq_true_iff.mpr ⟨inService_iff.mpr serves', decide_eq_true le⟩
        · exact ahead i mem' serves'

/-- The hot sector of an operator (R118), of some loads: in service at HotLevel or more, with the highest load, of equals the
lowest index. -/
def IsHot (s : State) (o : OpId) (k : Bank) (n : Snapshot) (h : SectorIx) : Prop :=
  s.InService s.mode.mode k h ∧ s.bal[o].hotLevel ≤ n.load[sectorOf o h] ∧ ∀ i, s.InService s.mode.mode k i →
    n.load[sectorOf o i] < n.load[sectorOf o h] ∨ (n.load[sectorOf o i] = n.load[sectorOf o h] ∧ h ≤ i)

theorem isHot_iff {h : SectorIx} : s.IsHot o k s.meas.snap h ↔
    s.hottest o k s.meas.snap.load allSectorIxs = some h ∧ ¬ s.meas.snap.load[sectorOf o h] < s.bal[o].hotLevel := by
  have spec := hottest_spec (s := s) (o := o) (k := k) (load := s.meas.snap.load) (List.pairwise_lt_finRange 8)
  have all (i : SectorIx) : i ∈ List.finRange 8 := List.mem_finRange i
  unfold allSectorIxs
  cases found : s.hottest o k s.meas.snap.load (List.finRange 8) with
  | none =>
    rw [found] at spec
    exact ⟨fun ⟨serves, _⟩ => absurd serves (spec h (all h)), nofun⟩
  | some j =>
    rw [found] at spec
    obtain ⟨_, serves, ahead⟩ := spec
    constructor
    · rintro ⟨serves', hot, ahead'⟩
      have low := ahead h (all h) serves'
      have low' := ahead' j serves
      have same : j = h := by
        rcases low with lt | ⟨eq, le⟩ <;> rcases low' with lt' | ⟨eq', le'⟩
        · exact absurd lt' (by omega)
        · exact absurd lt (by omega)
        · exact absurd lt' (by omega)
        · exact le_antisymm le le'
      exact ⟨congrArg some same, Nat.not_lt.mpr hot⟩
    · rintro ⟨same, hot⟩
      cases same
      exact ⟨serves, Nat.not_lt.mp hot, fun i serves' => ahead i (all i) serves'⟩

/-! ## The move (R119 to R123) -/

/-- A member of the hot sector is a candidate (R119). -/
def Candidate (s : State) (o : OpId) (k : Bank) (h : SectorIx) (r : RemoteId) : Prop :=
  k.zones[r].cur = some h ∧ s.isCandidate o k r = true

/-- A target of a candidate passes the load tests and the trial placement (R120 to R122). -/
def Fits (s : State) (o : OpId) (k : Bank) (h : SectorIx) (r : RemoteId) (j : SectorIx) : Prop :=
  ((k.zones[r].home = some j ∨ j ∈ k.zones[r].alts) ∧ j ≠ h) ∧ s.loadTests o k h j r = true ∧ s.TrialFits r o j

/-- The place of a target among the home and alternate sectors (R120). -/
def targetPlace (k : Bank) (r : RemoteId) (j : SectorIx) : Nat := (k.zones[r].home.toList ++ k.zones[r].alts).idxOf j

/-- The candidate and target that an evaluation moves to (R123). -/
def MovesTo (s : State) (o : OpId) (k : Bank) (h : SectorIx) (r : RemoteId) (j : SectorIx) : Prop :=
  s.Candidate o k h r ∧ s.Fits o k h r j ∧
    (∀ q i, s.Candidate o k h q → s.Fits o k h q i → Ahead s.meas.snap.share[o] r q) ∧
    ∀ i, s.Fits o k h r i → targetPlace k r j ≤ targetPlace k r i

/-- The first target of a candidate (R120 to R123). -/
theorem find?_target_iff {h j : SectorIx} {r : RemoteId} :
    ((targetsOf k.zones[r] h).find? fun t => s.loadTests o k h t r && s.trialPasses r o t) = some j ↔
      s.Fits o k h r j ∧ ∀ i, s.Fits o k h r i → targetPlace k r j ≤ targetPlace k r i := by
  have passes (i : SectorIx) : (i ∈ k.zones[r].home.toList ++ k.zones[r].alts ∧
      decide (decide (i ≠ h) = true ∧ (s.loadTests o k h i r && s.trialPasses r o i) = true) = true) ↔ s.Fits o k h r i := by
    simp only [Fits, List.mem_append, Option.mem_toList, Bool.and_eq_true, decide_eq_true_eq, trialPasses_iff, and_assoc]
  unfold targetsOf
  rw [List.find?_filter]
  refine find?_eq_some_iff_idxOf.trans ?_
  rw [← and_assoc]
  refine and_congr (passes j) (forall_congr' fun i => ?_)
  rw [← passes, and_imp]
  rfl

theorem findMove_iff {h j : SectorIx} {r : RemoteId} : s.findMove o k h = some (r, j) ↔ s.MovesTo o k h r j := by
  have ascending : allRemotes.Pairwise (· < ·) := List.pairwise_lt_finRange 24
  have mem {q : RemoteId} : q ∈ byShare s.meas.snap.share[o] ((k.members h).filter (s.isCandidate o k)) ↔ s.Candidate o k h q := by
    simp only [mem_byShare, Bank.members, List.mem_filter, allRemotes, List.mem_finRange, true_and, decide_eq_true_eq, Candidate]
  have yields {q : RemoteId} : ((((targetsOf k.zones[q] h).find? fun t => s.loadTests o k h t q && s.trialPasses q o t).map
      fun t => (q, t)).isSome = true) ↔ ∃ i, s.Fits o k h q i := by
    rw [Option.isSome_map, List.find?_isSome]
    simp only [targetsOf, List.mem_filter, List.mem_append, Option.mem_toList, Bool.and_eq_true, decide_eq_true_eq,
      trialPasses_iff, Fits]
  have ordered : (byShare s.meas.snap.share[o] ((k.members h).filter (s.isCandidate o k))).Pairwise (Ahead s.meas.snap.share[o]) :=
    byShare_ordered ((ascending.filter _).filter _)
  unfold findMove
  refine (findSome?_eq_some_iff_ahead ordered).trans ?_
  simp only [mem, yields, Option.map_eq_some_iff, find?_target_iff, Prod.mk.injEq]
  constructor
  · rintro ⟨q, candidate, ⟨i, ⟨fits, least⟩, rfl, rfl⟩, ahead⟩
    exact ⟨candidate, fits, fun p l own passes => ahead p own ⟨l, passes⟩, least⟩
  · rintro ⟨candidate, fits, ahead, least⟩
    exact ⟨r, candidate, ⟨j, ⟨fits, least⟩, rfl, rfl⟩, fun p own ⟨l, passes⟩ => ahead p l own passes⟩

/-! ## The evaluation, case by case -/

theorem evaluate_of_cool (cool : ∀ h, ¬ s.IsHot o k s.meas.snap h) : s.evaluate o k = s.setOutcome o .noHot := by
  unfold evaluate
  split
  · rfl
  · next h found =>
    rw [if_pos]
    by_contra hot
    exact cool h (isHot_iff.mpr ⟨found, hot⟩)

theorem evaluate_of_stuck {h : SectorIx} (hot : s.IsHot o k s.meas.snap h) (stuck : ∀ r j, ¬ s.MovesTo o k h r j) :
    s.evaluate o k = s.setOutcome o .noMove := by
  obtain ⟨found, loud⟩ := isHot_iff.mp hot
  have none : s.findMove o k h = none := by
    cases move : s.findMove o k h with
    | none => rfl
    | some x => exact absurd (findMove_iff.mp move) (stuck x.1 x.2)
  unfold evaluate
  rw [found]
  dsimp only
  rw [if_neg loud, none]

theorem evaluate_of_move {h j : SectorIx} {r : RemoteId} (hot : s.IsHot o k s.meas.snap h) (moves : s.MovesTo o k h r j) :
    (s.bal[o].mode = .auto → s.evaluate o k = s.autoMove o h r j) ∧
      (s.bal[o].mode = .advise → s.evaluate o k = s.advise o h r j) := by
  obtain ⟨found, loud⟩ := isHot_iff.mp hot
  have move := findMove_iff.mpr moves
  constructor
  · intro auto
    unfold evaluate
    rw [found]
    dsimp only
    rw [if_neg loud, move]
    dsimp only
    rw [auto]
  · intro advise
    unfold evaluate
    rw [found]
    dsimp only
    rw [if_neg loud, move]
    dsimp only
    rw [advise]

end State

end Sys2Proof.Machine
end

section
/-! The statement on the Balancer's evaluation. -/

namespace Sys2Proof.Machine.State

variable {s t u : State} {b : Boundary} {o : OpId}

/-! ## What an operator's decision reads -/

theorem trialFits_of_same (carriers : t.plan.carriers = s.plan.carriers) (rl : t.rl = s.rl) (place : t.place = s.place)
    (mode : t.mode.mode = s.mode.mode) (active : ∀ p : OpId, (t.opPlan p).active = (s.opPlan p).active) {r : RemoteId} {j : SectorIx} :
    t.TrialFits r o j ↔ s.TrialFits r o j := by
  have units : t.unitsAt = s.unitsAt := by
    unfold unitsAt PlanStore.width
    rw [carriers]
  have routes {called : CarrierId → Prop} {cs : List CarrierId} : t.Routes called cs ↔ s.Routes called cs := by
    unfold Routes
    rw [suspended_of_carriers carriers, mode]
  unfold TrialFits record carrier
  simp only [rl, place, units, routes, active, carriers]

/-- A state at a window end at which an operator's decision is made: it sees the snapshot of the closing window, its Balancer
with the hold-offs counted down, and otherwise what stood before the window end. -/
structure Sees (s : State) (b : Boundary) (o : OpId) (u : State) : Prop where
  snap : u.meas.snap = (s.closeWindow b).meas.snap
  bal : u.bal[o] = (s.counted b).bal[o]
  own : u.opPlan o = s.opPlan o
  mode : u.mode = s.mode
  ol : u.ol = s.ol
  rl : u.rl = s.rl
  serves : ∀ {k : Bank} {i : SectorIx}, u.InService u.mode.mode k i ↔ s.InService s.mode.mode k i
  trial : ∀ {r : RemoteId} {j : SectorIx}, u.TrialFits r o j ↔ s.TrialFits r o j

theorem Apart.sees (h : Apart o (s.counted b) u) : s.Sees b o u := by
  have frame := counted_frame s b
  have rest := h.rest
  have bal := h.bal
  have own := h.own
  have active := h.active
  rw [frame] at rest
  have before (p : OpId) : (s.counted b).opPlan p = s.opPlan p := by
    unfold opPlan
    rw [frame]
  have carriers : u.plan.carriers = s.plan.carriers := by rw [rest]
  have rl : u.rl = s.rl := by rw [rest]
  have place : u.place = s.place := by rw [rest]
  have mode : u.mode = s.mode := by rw [rest]
  refine ⟨by rw [rest], bal, own.trans (before o), mode, by rw [rest], rl, ?_, ?_⟩
  · intro k i
    rw [mode]
    exact inService_of_carriers carriers
  · exact trialFits_of_same carriers rl place (by rw [mode]) fun p => (active p).trans (congrArg OperatorPlan.active (before p))

/-- The hold-off of a remote after the count at a window end (R115). -/
def heldOff (s : State) (b : Boundary) (o : OpId) (r : RemoteId) : Nat :=
  if (o, r) ∈ b.moved then s.bal[o].holdOff[r] else s.bal[o].holdOff[r] - 1

theorem Sees.settings (h : s.Sees b o u) : u.bal[o] = { s.bal[o] with holdOff := u.bal[o].holdOff } := by
  rw [h.bal, counted_bal]

theorem Sees.holdOff (h : s.Sees b o u) (r : RemoteId) : u.bal[o].holdOff[r] = s.heldOff b o r := by
  rw [h.bal]
  exact counted_holdOff s b o r

theorem Sees.isHot_iff (h : s.Sees b o u) {k : Bank} {i : SectorIx} :
    u.IsHot o k u.meas.snap i ↔ s.IsHot o k (s.closeWindow b).meas.snap i := by
  have hot : u.bal[o].hotLevel = s.bal[o].hotLevel := by rw [h.settings]
  unfold IsHot
  rw [h.snap, hot]
  simp only [h.serves]

/-- A candidate, as R119 spells it. -/
theorem Sees.candidate_iff (h : s.Sees b o u) {k : Bank} {i : SectorIx} {r : RemoteId} : u.Candidate o k i r ↔
    k.zones[r].cur = some i ∧ k.zones[r].pinned = false ∧ s.rl[r].state = .up ∧ ¬ s.Listed r ∧
      (∀ p, s.mode.pendingIso = some p → p.remote ≠ r) ∧ s.rl[r].flags[0].present = false ∧ s.heldOff b o r = 0 ∧
      s.bal[o].minShare ≤ (s.closeWindow b).meas.snap.share[o][r] := by
  have share : u.bal[o].minShare = s.bal[o].minShare := by rw [h.settings]
  have listed : u.onIsolationList r = true ↔ s.Listed r ∨ ∃ p, s.mode.pendingIso = some p ∧ p.remote = r := by
    unfold onIsolationList Listed
    rw [h.mode]
    simp only [Bool.or_eq_true, List.any_eq_true, decide_eq_true_eq, Option.map_eq_some_iff]
  unfold Candidate isCandidate
  simp only [Bool.and_eq_true, Bool.not_eq_true', decide_eq_true_eq, ← Bool.not_eq_true, listed, share, h.snap, h.rl, h.holdOff,
    not_or, not_exists, not_and, and_assoc]

/-- A target, as R120 to R122 spell it. -/
theorem Sees.fits_iff (h : s.Sees b o u) {k : Bank} {i j : SectorIx} {r : RemoteId} : u.Fits o k i r j ↔
    ((k.zones[r].home = some j ∨ j ∈ k.zones[r].alts) ∧ j ≠ i) ∧
      (s.InService s.mode.mode k j ∧
        2 * (s.closeWindow b).meas.snap.share[o][r] + (s.closeWindow b).meas.snap.load[sectorOf o j] ≤
          (s.closeWindow b).meas.snap.load[sectorOf o i] ∧
        (s.closeWindow b).meas.snap.load[sectorOf o j] + (s.closeWindow b).meas.snap.share[o][r] < s.bal[o].hotLevel) ∧
      s.TrialFits r o j := by
  have hot : u.bal[o].hotLevel = s.bal[o].hotLevel := by rw [h.settings]
  unfold Fits loadTests
  simp only [Bool.and_eq_true, decide_eq_true_eq, inService_iff, h.serves, h.trial, h.snap, hot, and_assoc]

/-! ## What an operator's decision leaves -/

theorem balance_of_decided {banks : Vector Bank 4} {staged : Vector StagedState 4} (on : u.bal[o].mode ≠ .off)
    (normal : u.mode.mode = .normal) (up : u.ol[o].state = .up) (clean : staged[o] = .clean) :
    u.balance banks staged o = u.evaluate o banks[o] := by
  unfold balance
  rw [if_neg on, if_neg (by simp [normal]), if_neg (not_not.mpr up), if_neg (not_not.mpr clean)]

/-- An answer leaves the plan, and of the Balancer changes the outcome alone (R117, R118, R123). -/
theorem Sees.answers (h : s.Sees b o u) (x : BalancerOutcome) :
    (u.setOutcome o x).opPlan o = s.opPlan o ∧
      (u.setOutcome o x).bal[o] = { s.bal[o] with
        outcome := x, outcomeAt := (s.closeWindow b).meas.snap.closing, holdOff := (u.setOutcome o x).bal[o].holdOff } ∧
      ∀ r : RemoteId, (u.setOutcome o x).bal[o].holdOff[r] = s.heldOff b o r := by
  have bal := setOutcome_bal u o x
  have kept : (u.setOutcome o x).bal[o].holdOff = u.bal[o].holdOff := by rw [bal]
  refine ⟨h.own, ?_, fun r => ?_⟩
  · rw [kept, bal, h.snap, h.settings]
  · rw [kept]
    exact h.holdOff r

/-- A deferral is counted besides (R117). -/
theorem Sees.defers (h : s.Sees b o u) (x : BalancerOutcome) :
    (u.defer o x).opPlan o = s.opPlan o ∧
      (u.defer o x).bal[o] = { s.bal[o] with
        outcome := x, outcomeAt := (s.closeWindow b).meas.snap.closing, deferrals := min (s.bal[o].deferrals + 1) 65535
        holdOff := (u.defer o x).bal[o].holdOff } ∧
      ∀ r : RemoteId, (u.defer o x).bal[o].holdOff[r] = s.heldOff b o r := by
  have bal := defer_bal u o x
  have kept : (u.defer o x).bal[o].holdOff = u.bal[o].holdOff := by rw [bal]
  refine ⟨h.own, ?_, fun r => ?_⟩
  · rw [kept, bal, h.snap, h.settings]
  · rw [kept]
    exact h.holdOff r

/-- A move in AUTO is staged and ARMED, and sets its hold-off (R124). -/
theorem Sees.moves (h : s.Sees b o u) (i : SectorIx) (r : RemoteId) (j : SectorIx) :
    (u.autoMove o i r j).opPlan o = { s.opPlan o with
        staged := { (s.opPlan o).staged with
          zones := (s.opPlan o).staged.zones.set r { (s.opPlan o).staged.zones[r] with cur := some j } }
        state := .armed .balancer false } ∧
      (u.autoMove o i r j).bal[o] = { s.bal[o] with
        outcome := .moved, outcomeAt := (s.closeWindow b).meas.snap.closing, moves := min (s.bal[o].moves + 1) 65535
        lastMove := some ⟨(s.closeWindow b).meas.snap.closing, r, i, j, (s.closeWindow b).meas.snap.share[o][r], .balancer⟩
        holdOff := (u.autoMove o i r j).bal[o].holdOff } ∧
      (u.autoMove o i r j).bal[o].holdOff[r] = s.bal[o].holdWindows ∧
      ∀ q : RemoteId, q ≠ r → (u.autoMove o i r j).bal[o].holdOff[q] = s.heldOff b o q := by
  have bal := autoMove_bal u o i r j
  have set : (u.autoMove o i r j).bal[o].holdOff = u.bal[o].holdOff.set r u.bal[o].holdWindows := by rw [bal]
  have windows : u.bal[o].holdWindows = s.bal[o].holdWindows := by rw [h.settings]
  refine ⟨?_, ?_, ?_, fun q other => ?_⟩
  · have staged : (u.autoMove o i r j).opPlan o = (u.stageMove o r j .balancer).opPlan o := rfl
    rw [staged, ← h.own]
    unfold stageMove
    exact opPlan_modPlan_same u o _
  · rw [set, bal, h.snap, h.settings]
  · rw [set, windows]
    exact Vector.getElem_set_self _
  · rw [set]
    exact (Vector.getElem_set_ne _ _ fun e => other (Fin.ext e.symm)).trans (h.holdOff q)

/-- A move in ADVISE is posted (R126). -/
theorem Sees.advises (h : s.Sees b o u) (i : SectorIx) (r : RemoteId) (j : SectorIx) :
    (u.advise o i r j).opPlan o = s.opPlan o ∧
      (u.advise o i r j).bal[o] = { s.bal[o] with
        outcome := .advised, outcomeAt := (s.closeWindow b).meas.snap.closing
        advice := some ⟨(s.closeWindow b).meas.snap.closing, r, i, j, (s.closeWindow b).meas.snap.share[o][r],
          (s.closeWindow b).meas.snap.load[sectorOf o i], (s.closeWindow b).meas.snap.load[sectorOf o j]⟩
        holdOff := (u.advise o i r j).bal[o].holdOff } ∧
      ∀ q : RemoteId, (u.advise o i r j).bal[o].holdOff[q] = s.heldOff b o q := by
  have bal := advise_bal u o i r j
  have kept : (u.advise o i r j).bal[o].holdOff = u.bal[o].holdOff := by rw [bal]
  have plan : (u.advise o i r j).plan = u.plan := by rw [advise_frame]
  refine ⟨?_, ?_, fun q => ?_⟩
  · rw [← h.own]
    unfold opPlan
    rw [plan]
  · rw [kept, bal, h.snap, h.settings]
  · rw [kept]
    exact h.holdOff q

/-- The decision of a window end for an operator is one that sees what stood before. -/
theorem windowEnd_decision (found : s.boundary = some b) (o : OpId) : ∃ u, s.Sees b o u ∧
    s.windowEnd.bal[o] = (u.balance b.banks b.staged o).bal[o] ∧
    s.windowEnd.opPlan o = (u.balance b.banks b.staged o).opPlan o := by
  obtain ⟨u, before, after⟩ := balanced_apart s b o
  exact ⟨u, before.sees, by rw [windowEnd_bal found, after.bal], by rw [windowEnd_opPlan found, after.own]⟩

/-- An advice is counted as a change when it is new or differs (R126, R167). -/
theorem advise_sup (s : State) (o : OpId) (h : SectorIx) (r : RemoteId) (j : SectorIx) :
    ((∃ a, s.bal[o].advice = some a ∧ a.remote = r ∧ a.fromSector = h ∧ a.toSector = j) → (s.advise o h r j).sup = s.sup) ∧
      ((∀ a, s.bal[o].advice = some a → ¬ (a.remote = r ∧ a.fromSector = h ∧ a.toSector = j)) →
        (s.advise o h r j).sup = { s.sup with seq := s.sup.seq + 1, pending := s.sup.pending || s.sup.enable }) := by
  have counts (fresh : Bool) (v : State) :
      (if fresh = true then { v with sup := v.sup.count } else v).sup = if fresh = true then v.sup.count else v.sup :=
    apply_ite State.sup ..
  unfold advise newAdvice
  dsimp only
  rw [counts]
  constructor
  · rintro ⟨a, old, same⟩
    rw [old]
    exact if_neg (by simp [same])
  · intro differs
    cases old : s.bal[o].advice with
    | none => exact if_pos rfl
    | some a => exact if_pos (by rw [Bool.not_eq_true', Bool.eq_false_iff]; simpa [and_assoc] using differs a old)

end Sys2Proof.Machine.State

namespace Sys2Proof.Proofs

open Sys2Proof.Machine Sys2Proof.Machine.State

/-- Settles O34: each operator's decision sees what stood before the window end, and its search is the one the rules spell. -/
theorem balancerEvaluates : Obligations.BalancerEvaluates := by
  refine ⟨fun s b o next found => ⟨(s.dropDue .windowEnd).windowEnd, exec_next next, ?_⟩, advise_sup⟩
  have here : (s.dropDue .windowEnd).boundary = some b := found
  obtain ⟨u, sees, bal, plan⟩ := windowEnd_decision here o
  have meas := windowEnd_meas here
  generalize (s.dropDue .windowEnd).windowEnd = t at *
  rw [meas, bal, plan]
  intro n k held load serves hot fits candidate place moves decided answers defers
  have hotIff (h : SectorIx) : hot h ↔ u.IsHot o b.banks[o] u.meas.snap h := sees.isHot_iff.symm
  have fitsIff (h : SectorIx) (r : RemoteId) (j : SectorIx) : fits h r j ↔ u.Fits o b.banks[o] h r j := sees.fits_iff.symm
  have candidateIff (h : SectorIx) (r : RemoteId) : candidate h r ↔ u.Candidate o b.banks[o] h r := sees.candidate_iff.symm
  have movesIff (h : SectorIx) (r : RemoteId) (j : SectorIx) : moves h r j ↔
      u.IsHot o b.banks[o] u.meas.snap h ∧ u.MovesTo o b.banks[o] h r j := by
    have share : n.share = u.meas.snap.share := by rw [sees.snap]
    simp only [moves, hotIff, fitsIff, candidateIff, MovesTo, Ahead, share]
    exact .rfl
  have mode : u.bal[o].mode = k.mode := by rw [sees.settings]; rfl
  have hub : u.mode.mode = s.mode.mode := by rw [sees.mode]; rfl
  have link : u.ol[o].state = s.ol[o].state := by rw [sees.ol]; rfl
  have evaluated (go : decided) : u.balance b.banks b.staged o = u.evaluate o b.banks[o] :=
    balance_of_decided (mode ▸ go.1) (hub ▸ go.2.1) (link ▸ go.2.2.1) go.2.2.2
  dsimp only [answers, defers]
  refine ⟨fun off => ?_, fun on quiet => ?_, fun on normal down => ?_, fun on normal up open' => ?_, fun go cool => ?_,
    fun go ⟨h, hot'⟩ stuck => ?_, fun h r j go moves' => ⟨fun auto => ?_, fun advise => ?_⟩⟩
  · have stays : u.balance b.banks b.staged o = u := if_pos (mode.trans off)
    rw [stays]
    exact ⟨sees.own, sees.settings, sees.holdOff⟩
  · have defer : u.balance b.banks b.staged o = u.defer o .deferredQuiet := by
      unfold balance
      rw [if_neg (mode ▸ on), if_pos (hub.trans quiet)]
    rw [defer]
    exact sees.defers .deferredQuiet
  · have defer : u.balance b.banks b.staged o = u.defer o .deferredLink := by
      unfold balance
      rw [if_neg (mode ▸ on), if_neg (by simp [hub, normal]), if_pos (link ▸ down)]
    rw [defer]
    exact sees.defers .deferredLink
  · have defer : u.balance b.banks b.staged o = u.defer o .deferredPlan := by
      unfold balance
      rw [if_neg (mode ▸ on), if_neg (by simp [hub, normal]), if_neg (not_not.mpr (link.trans up)), if_pos open']
    rw [defer]
    exact sees.defers .deferredPlan
  · rw [evaluated go, evaluate_of_cool fun h => mt (hotIff h).mpr (cool h)]
    exact sees.answers .noHot
  · rw [evaluated go, evaluate_of_stuck ((hotIff h).mp hot') fun r j moves => stuck h r j ((movesIff h r j).mpr ⟨(hotIff h).mp hot', moves⟩)]
    exact sees.answers .noMove
  · obtain ⟨hot', finds⟩ := (movesIff h r j).mp moves'
    rw [evaluated go, (evaluate_of_move hot' finds).1 (mode.trans auto)]
    exact sees.moves h r j
  · obtain ⟨hot', finds⟩ := (movesIff h r j).mp moves'
    rw [evaluated go, (evaluate_of_move hot' finds).2 (mode.trans advise)]
    exact sees.advises h r j

end Sys2Proof.Proofs
end

section
/-! SUPPORT. What the start of a link frame sends and forms (R1, R3, R5, R65, R66, R76, R89, R178, R181). -/

namespace Sys2Proof.Machine

/-! ## Sending on the trunk (R178, R181) -/

namespace Management

variable {g : Management}

theorem outbound_idle {up : Bool} (idle : up = false ∨ (g.tx = none ∧ g.due = [] ∧ g.alert = none)) :
    g.outbound up = (typeIdle, [], g) := by
  unfold outbound
  split
  · next sends =>
    obtain ⟨tx, due, alert⟩ := idle.resolve_left (by rw [sends]; decide)
    have none : g.arbitrate = Option.none := by simp [arbitrate, tx, due, alert]
    rw [none]
  · rfl

/-- What is sent of a message, and what is left of it (R178). -/
theorem outbound_of_arbitrate {t : Transmission} (found : g.arbitrate = some t) : g.outbound true =
    (if t.sent = 0 then typeMgmtStart else typeMgmtCont, ((g.sending t).drop t.sent).take 10, g.advance t) := by
  unfold outbound
  rw [if_pos rfl, found]

theorem outbound_response {x : Response} {rest : List Response} {n : Nat} (due : g.due = x :: rest)
    (sends : g.tx = some (.response n) ∨ g.tx = none ∧ n = 0) : g.outbound true =
      (if n = 0 then typeMgmtStart else typeMgmtCont, (x.bytes.drop n).take 10,
        if n + 10 < x.bytes.length then { g with tx := some (.response (n + 10)) } else { g with tx := none, due := rest }) := by
  have found : g.arbitrate = some (.response n) := by
    rcases sends with tx | ⟨tx, rfl⟩
    · simp [arbitrate, tx]
    · simp [arbitrate, tx, due]
  have sending : g.sending (.response n) = x.bytes := by simp [sending, due]
  rw [outbound_of_arbitrate found, advance, sending, due]
  rfl

theorem outbound_alert {a : Alert} {n : Nat} (alert : g.alert = some a)
    (sends : g.tx = some (.alert n) ∨ g.tx = none ∧ g.due = [] ∧ n = 0) : g.outbound true =
      (if n = 0 then typeMgmtStart else typeMgmtCont, (a.bytes.drop n).take 10,
        if n + 10 < a.bytes.length then { g with tx := some (.alert (n + 10)) } else { g with tx := none, alert := none }) := by
  have found : g.arbitrate = some (.alert n) := by
    rcases sends with tx | ⟨tx, due, rfl⟩
    · simp [arbitrate, tx]
    · simp [arbitrate, tx, due, alert]
  have sending : g.sending (.alert n) = a.bytes := by simp [sending, alert]
  rw [outbound_of_arbitrate found, advance, sending]
  rfl

end Management

/-! ## Containers (R3, R66, R68) -/

theorem scaleBlock_zero (f : Format) (m k : Nat) : scaleBlock f m (zeroBlock k) = List.replicate (960 * k) ⟨0, 0⟩ := by
  have zero : reduceValue f (scaleValue m 0) = 0 := by
    have scaled : scaleValue m 0 = 0 := by simp [scaleValue, saturate]
    rw [scaled]
    cases f <;> decide
  simp only [scaleBlock, zeroBlock, pairsPerBlock, List.map_replicate, zero]

namespace State

variable {s t : State} {r : RemoteId} {lf : Nat}

theorem containerFor_eq (s : State) (f : Format) (p : CarrierId × Nat) : s.containerFor f p =
    ⟨p.1, (match f with | .w16 => 4 | .w12 => 3 | .w8 => 2) * s.plan.width p.1,
      match s.dist.source.find? (fun b => b.carrier = p.1) with
      | some b => b.samples.map fun v => ⟨reduceValue f (scaleValue p.2 v.i), reduceValue f (scaleValue p.2 v.q)⟩
      | none => List.replicate (960 * s.plan.width p.1) ⟨0, 0⟩⟩ := by
  have units : f.unitsPerClass = (match f with | .w16 => 4 | .w12 => 3 | .w8 => 2) := by cases f <;> rfl
  unfold containerFor
  dsimp only
  rw [units]
  generalize s.dist.source.find? (fun b => b.carrier = p.1) = found
  cases found with
  | some b => rfl
  | none =>
    dsimp only
    rw [scaleBlock_zero]

/-- What a remote link sends depends on its link record, its placement record, the hub's number and the source blocks. -/
theorem remoteTx_congr (state : t.rl[r].state = s.rl[r].state) (format : t.rl[r].format = s.rl[r].format)
    (chosen : t.rl[r].chosen = s.rl[r].chosen) (record : t.record r = s.record r) (count : t.tb.count = s.tb.count)
    (plan : t.plan = s.plan) (source : t.dist.source = s.dist.source) : t.remoteTx lf r = s.remoteTx lf r := by
  have containers : t.containerFor = s.containerFor := by
    funext f p
    rw [containerFor_eq, containerFor_eq, plan, source]
  unfold remoteTx remoteWord orderFormat upFormat
  rw [state, format, chosen, record, count, containers]

/-! ## The parts of a start -/

/-- The start of a link frame, before its sums begin. -/
def opened (s : State) : State :=
  let u := ((s.deadline (s.tb.label - 1)).tickFrame).transmit (nextLf s.tb.lf)
  { u with
    meas := u.meas.release
    dist := { incoming := [], source := u.nextSource }
    comb := { u.comb with outputs := u.comb.outputs.filter fun x => u.tb.label < x.label + 2 }
    place := { u.place with lastPlaced := tab fun r => (u.record r).placed } }

theorem startFrame_of_opened (s : State) : s.startFrame = s.opened.startSums (nextLf s.tb.lf) := rfl

theorem opened_frame (s : State) : s.opened = { s with
    tb := s.tickFrame.tb, rl := (s.deadline (s.tb.label - 1)).rl, due := (s.deadline (s.tb.label - 1)).due
    meas := s.opened.meas, out := s.opened.out, mgmt := (s.mgmt.outbound (decide (s.trunk.state = .up))).2.2
    dist := { incoming := [], source := s.nextSource }
    place := { s.place with lastPlaced := tab fun r => (s.record r).placed }
    comb := { s.comb with
      gates := (s.deadline (s.tb.label - 1)).comb.gates, sums := (s.deadline (s.tb.label - 1)).comb.sums
      sat := (s.deadline (s.tb.label - 1)).comb.sat
      outputs := (s.deadline (s.tb.label - 1)).comb.outputs.filter fun x => s.tb.label + 1 < x.label + 2 } } := by
  have frame := frame_of_restOfSettling (deadline_restOfSettling s (s.tb.label - 1))
  unfold opened
  generalize s.deadline (s.tb.label - 1) = u at frame
  rw [frame]
  rfl

/-- What the links send at the start of a link frame. -/
theorem opened_out (s : State) : (∀ r : RemoteId, s.opened.out.remote[r] = s.remoteTx (nextLf s.tb.lf) r) ∧
    (∀ o : OpId, s.opened.out.op[o] = some ⟨controlWord s.tb.count (nextLf s.tb.lf) typeIdle [], tab fun slot =>
      match (s.deadline (s.tb.label - 1)).comb.outputs.find? fun x =>
        x.label + 1 = s.tb.label && x.place.op = o && x.place.slot = slot with
      | some x => x.samples
      | none => []⟩) ∧
    s.opened.out.trunk = some (controlWord s.tb.count (nextLf s.tb.lf) (s.mgmt.outbound (decide (s.trunk.state = .up))).1
      (s.mgmt.outbound (decide (s.trunk.state = .up))).2.1) := by
  have settled := deadline_restOfSettling s (s.tb.label - 1)
  have frame := frame_of_restOfSettling settled
  have link (r : RemoteId) := link_of_restOfSettling settled (r := r)
  have sent (u : State) : (∀ r : RemoteId, (u.tickFrame.transmit (nextLf s.tb.lf)).out.remote[r] =
      u.tickFrame.remoteTx (nextLf s.tb.lf) r) ∧
      (∀ o : OpId, (u.tickFrame.transmit (nextLf s.tb.lf)).out.op[o] = some (u.tickFrame.operatorTx (nextLf s.tb.lf) o)) ∧
      (u.tickFrame.transmit (nextLf s.tb.lf)).out.trunk = some (controlWord u.tb.count (nextLf s.tb.lf)
        (u.mgmt.outbound (decide (u.trunk.state = .up))).1 (u.mgmt.outbound (decide (u.trunk.state = .up))).2.1) :=
    ⟨fun r => getElem_tab _ r, fun o => getElem_tab _ o, rfl⟩
  obtain ⟨remote, op, trunk⟩ := sent (s.deadline (s.tb.label - 1))
  have out : s.opened.out = ((s.deadline (s.tb.label - 1)).tickFrame.transmit (nextLf s.tb.lf)).out := rfl
  rw [out]
  generalize s.deadline (s.tb.label - 1) = u at *
  have count : u.tb.count = s.tb.count := by rw [frame]
  have label : u.tb.label = s.tb.label := by rw [frame]
  refine ⟨fun r => ?_, fun o => ?_, ?_⟩
  · rw [remote]
    have same : u.tickFrame.rl = u.rl := rfl
    refine remoteTx_congr ?_ ?_ ?_ ?_ count (by rw [frame]; rfl) (by rw [frame]; rfl)
    · rw [same, link r]
    · rw [same, link r]
    · rw [same, link r]
    · unfold record
      rw [frame]
      rfl
  · have slots (x : SumOutput) : (x.label + 2 = u.tickFrame.tb.label) = (x.label + 1 = s.tb.label) := by
      rw [← label]
      exact propext (Nat.add_right_cancel_iff (m := x.label + 1) (n := 1))
    rw [op, ← count]
    unfold operatorTx
    simp only [slots] <;> rfl
  · rw [trunk, frame]

/-! ## The sums that begin (R76, R78) -/

theorem mem_startSums_sums {q : UplinkSum} : q ∈ (s.startSums lf).comb.sums ↔
    (q ∈ s.comb.sums ∨ ∃ c, s.sumFor lf c = some q) ∧ q.waiting ≠ [] := by
  have all (c : CarrierId) : c ∈ allCarriers := List.mem_finRange c
  unfold startSums formReady
  simp only [List.mem_filter, List.mem_append, List.mem_filterMap, all, true_and, Bool.not_eq_true', List.isEmpty_eq_false_iff]

theorem output_of_unexpected {q : UplinkSum} {c : CarrierId} (starts : s.sumFor lf c = some q) (none : q.waiting = [])
    (kept : q.discard = false) : outputOf q ∈ (s.startSums lf).comb.outputs := by
  unfold startSums formReady
  refine List.mem_append_right _ (List.mem_map.mpr ⟨q, List.mem_filter.mpr ⟨List.mem_filter.mpr ⟨?_, by rw [none]; rfl⟩, by rw [kept]; rfl⟩, rfl⟩)
  exact List.mem_append_right _ (List.mem_filterMap.mpr ⟨c, List.mem_finRange c, starts⟩)

theorem sumFor_of_listed {c : CarrierId} {p : CarrierPlace} {i : SectorIx} (place : (s.carrier c).place = some p)
    (listed : c ∈ (s.opPlan p.op).active.sectors[i].carriers) (first : ∀ j < i, c ∉ (s.opPlan p.op).active.sectors[j].carriers) :
    s.sumFor lf c = some
      { label := s.tb.label, count := s.tb.count, lf := lf, carrier := c, sector := sectorOf p.op i, place := p
        h := (s.opPlan p.op).active.sectors[i].h, levels := (s.carrier c).eff
        waiting := s.expectedFor (s.opPlan p.op).active i c, contributors := 0, acc := [], discard := false } := by
  have found : (s.opPlan p.op).active.sectorOfCarrier c = some i :=
    find?_finRange_eq_some_iff.mpr ⟨List.contains_iff_mem.mpr listed, fun j lt => by simpa using first j lt⟩
  unfold sumFor
  rw [place]
  dsimp only
  rw [found]
  rfl

theorem mem_expectedFor {b : Bank} {i : SectorIx} {c : CarrierId} {e : Expected} : e ∈ s.expectedFor b i c ↔
    b.zones[e.remote].cur = some i ∧ c ∈ (s.record e.remote).placed ∧ s.upFormat e.remote = some e.format ∧
      e.m = s.rl[e.remote].mEff ∧ e.g = s.comb.guard[e.remote] := by
  unfold expectedFor Bank.members
  simp only [List.mem_filterMap, List.mem_filter, allRemotes, List.mem_finRange, true_and, decide_eq_true_eq]
  constructor
  · rintro ⟨r, member, found⟩
    split at found
    · next placed =>
      obtain ⟨f, format, rfl⟩ := Option.map_eq_some_iff.mp found
      exact ⟨member, List.contains_iff_mem.mp placed, format, rfl, rfl⟩
    · contradiction
  · rintro ⟨member, placed, format, m, g⟩
    refine ⟨e.remote, member, ?_⟩
    rw [if_pos (List.contains_iff_mem.mpr placed), format, ← m, ← g]
    rfl

end State

end Sys2Proof.Machine
end

section
/-! SUPPORT. The start of a link frame, put together. -/

namespace Sys2Proof.Machine.State

variable {s : State} {r : RemoteId}

/-- What the sums that begin leave. -/
theorem startSums_frame (s : State) (lf : Nat) : s.startSums lf = { s with comb := { s.comb with
    sums := (s.startSums lf).comb.sums, sat := (s.startSums lf).comb.sat, outputs := (s.startSums lf).comb.outputs } } := rfl

theorem startFrame_tb (s : State) : s.startFrame.tb.label = s.tb.label + 1 ∧ s.startFrame.tb.lf = some (nextLf s.tb.lf) ∧
    s.startFrame.tb.count = s.tb.count := by
  rw [startFrame_frame]
  exact ⟨rfl, rfl, rfl⟩

theorem startFrame_out (s : State) : s.startFrame.out = s.opened.out := rfl

theorem startFrame_dist (s : State) : s.startFrame.dist = { incoming := [], source := s.nextSource } := by
  rw [startFrame_of_opened, startSums_frame, opened_frame]

/-- The placement records stay when a link frame starts. -/
theorem startFrame_record (s : State) (r : RemoteId) : s.startFrame.record r = s.record r := by
  unfold record
  rw [startFrame_frame]

theorem startFrame_lastPlaced (s : State) (r : RemoteId) : s.startFrame.place.lastPlaced[r] = (s.record r).placed := by
  rw [startFrame_of_opened, startSums_frame, opened_frame]
  exact getElem_tab _ r

theorem startFrame_gate (s : State) (r : RemoteId) (c : CarrierId) :
    s.startFrame.gate r c = (s.deadline (s.tb.label - 1)).gate r c := by
  unfold gate
  rw [startFrame_of_opened, startSums_frame, opened_frame]

theorem mem_nextSource {b : SourceBlock} : b ∈ s.nextSource ↔ b ∈ s.dist.incoming ∧
    ∃ o : OpId, s.plan.owner b.carrier = some o ∧ s.ol[o].state = .up := by
  unfold nextSource
  rw [List.mem_filter]
  refine and_congr_right fun _ => ?_
  cases s.plan.owner b.carrier with
  | none => simp
  | some o => simp

theorem nextSource_eq (s : State) : s.nextSource = s.dist.incoming.filter
    (fun b => decide (∃ o : OpId, s.plan.owner b.carrier = some o ∧ s.ol[o].state = .up)) := by
  unfold nextSource
  refine List.filter_congr fun b _ => ?_
  cases s.plan.owner b.carrier with
  | none => simp
  | some o => simp

/-! ## Sums -/

theorem opened_record (s : State) (r : RemoteId) : s.opened.record r = s.record r := by
  unfold record
  rw [opened_frame]

theorem opened_rl (s : State) (r : RemoteId) :
    s.opened.rl[r] = { s.rl[r] with missing := (s.deadline (s.tb.label - 1)).rl[r].missing } := by
  have same : s.opened.rl = (s.deadline (s.tb.label - 1)).rl := by rw [opened_frame]
  rw [same, ← link_of_restOfSettling (deadline_restOfSettling s _)]

theorem opened_upFormat (s : State) (r : RemoteId) : s.opened.upFormat r = s.upFormat r := by
  unfold upFormat
  rw [opened_rl]

/-- The sum of a listed carrier at the start of a link frame (R76). -/
theorem opened_sumFor {c : CarrierId} {p : CarrierPlace} {i : SectorIx} (lf : Nat) (place : (s.carrier c).place = some p)
    (listed : c ∈ (s.opPlan p.op).active.sectors[i].carriers) (first : ∀ j < i, c ∉ (s.opPlan p.op).active.sectors[j].carriers) :
    s.opened.sumFor lf c = some
      { label := s.tb.label + 1, count := s.tb.count, lf := lf, carrier := c, sector := sectorOf p.op i, place := p
        h := (s.opPlan p.op).active.sectors[i].h, levels := (s.carrier c).eff
        waiting := s.opened.expectedFor (s.opPlan p.op).active i c, contributors := 0, acc := [], discard := false } := by
  have plan : s.opened.plan = s.plan := by rw [opened_frame]
  have tb : s.opened.tb = s.tickFrame.tb := by rw [opened_frame]
  have banks : s.opened.opPlan = s.opPlan := by
    funext o
    unfold opPlan
    rw [plan]
  have carriers : s.opened.carrier = s.carrier := by
    funext c
    unfold carrier
    rw [plan]
  have starts := sumFor_of_listed (s := s.opened) (lf := lf) (c := c) (p := p) (i := i) (by rw [carriers]; exact place)
    (by rw [banks]; exact listed) (by rw [banks]; exact first)
  rw [banks, carriers, tb] at starts
  exact starts

/-- The remotes that a sum of the link frame expects (R76), with the values in effect (R84). -/
theorem mem_opened_expected {k : Bank} {i : SectorIx} {c : CarrierId} {e : Expected} : e ∈ s.opened.expectedFor k i c ↔
    k.zones[e.remote].cur = some i ∧ c ∈ (s.record e.remote).placed ∧ s.upFormat e.remote = some e.format ∧
      e.m = s.rl[e.remote].mEff ∧ e.g = s.comb.guard[e.remote] := by
  have guard : s.opened.comb.guard = s.comb.guard := by rw [opened_frame]
  rw [mem_expectedFor, opened_record, opened_upFormat, opened_rl, guard]

theorem opened_expects_iff {k : Bank} {i : SectorIx} {c : CarrierId} : (∃ e ∈ s.opened.expectedFor k i c, e.remote = r) ↔
    k.zones[r].cur = some i ∧ c ∈ (s.record r).placed ∧ s.rl[r].state = .up ∧ s.rl[r].format.isSome = true := by
  constructor
  · rintro ⟨e, mem, rfl⟩
    obtain ⟨member, placed, format, _⟩ := mem_opened_expected.mp mem
    obtain ⟨up, format⟩ := upFormat_eq_some_iff.mp format
    exact ⟨member, placed, up, format ▸ rfl⟩
  · rintro ⟨member, placed, up, format⟩
    obtain ⟨f, format⟩ := Option.isSome_iff_exists.mp format
    exact ⟨⟨r, f, s.rl[r].mEff, s.comb.guard[r]⟩, mem_opened_expected.mpr
      ⟨member, placed, upFormat_of_up up format, rfl, rfl⟩, rfl⟩

/-! ## What the links send -/

/-- The link frame of a remote link that transmits (R1, R3). -/
theorem remoteTx_of_on {lf : Nat} (on : s.rl[r].state ≠ .off) : s.remoteTx lf r = some ⟨s.remoteWord lf r, s.upFormat r,
    match s.upFormat r with
    | some f => (s.record r).factors.map (s.containerFor f)
    | none => []⟩ := if_neg on

theorem orderFormat_eq (l : RemoteLink) : orderFormat l =
    if l.state = .up then l.format else if l.state = .negotiate then l.chosen else none := by
  unfold orderFormat
  cases l.state <;> rfl

end Sys2Proof.Machine.State
end

section
/-! SUPPORT. What is sent at the start of a link frame, as the rules spell it (R1, R3, R5, R25, R65, R76, R89, R178, R181). -/

namespace Sys2Proof.Machine.State

variable {s : State}

theorem startFrame_link (s : State) (r : RemoteId) : s.startFrame.rl[r] = { s.rl[r] with missing := s.startFrame.rl[r].missing } := by
  have link := startFrame_rl s r
  rw [link]

/-- The words that the links send at the start of a link frame (R1). -/
theorem startFrame_words (s : State) :
    (∀ r : RemoteId, s.startFrame.rl[r].state = .off → s.startFrame.out.remote[r] = none) ∧
    (∀ r : RemoteId, s.startFrame.rl[r].state ≠ .off → ∃ x, s.startFrame.out.remote[r] = some x ∧
      x.word = (if nextLf s.tb.lf = 0 then
          controlWord s.startFrame.tb.count 0 typeOrder
            [formatCode (if s.startFrame.rl[r].state = .up then s.startFrame.rl[r].format
              else if s.startFrame.rl[r].state = .negotiate then s.startFrame.rl[r].chosen else none),
              flagByte (s.startFrame.record r).sleep]
        else controlWord s.startFrame.tb.count (nextLf s.tb.lf) typeIdle []) ∧
      (s.startFrame.rl[r].state ≠ .up → x.containers = [])) ∧
    (∀ o : OpId, ∃ x, s.startFrame.out.op[o] = some x ∧
      x.word = controlWord s.startFrame.tb.count (nextLf s.tb.lf) typeIdle []) ∧
    ∃ type payload, s.startFrame.out.trunk = some (controlWord s.startFrame.tb.count (nextLf s.tb.lf) type payload) := by
  obtain ⟨remote, op, trunk⟩ := opened_out s
  obtain ⟨_, _, count⟩ := startFrame_tb s
  rw [startFrame_out, count]
  have state (r : RemoteId) : s.startFrame.rl[r].state = s.rl[r].state := by rw [startFrame_rl]
  have format (r : RemoteId) : s.startFrame.rl[r].format = s.rl[r].format := by rw [startFrame_rl]
  have chosen (r : RemoteId) : s.startFrame.rl[r].chosen = s.rl[r].chosen := by rw [startFrame_rl]
  simp only [state, format, chosen, startFrame_record]
  refine ⟨fun r off => (remote r).trans (if_pos off), fun r on => ⟨_, (remote r).trans (remoteTx_of_on on), ?_, fun down => ?_⟩,
    fun o => ⟨_, op o, rfl⟩, _, _, trunk⟩
  · unfold remoteWord
    rw [orderFormat_eq]
    split
    · next zero => rw [zero]
    · rfl
  · have none : s.upFormat r = none := if_neg down
    rw [none]

/-- The containers that an UP remote link sends (R3, R65, R66, R68). -/
theorem startFrame_containers {r : RemoteId} {f : Format} (up : s.rl[r].state = .up) (format : s.rl[r].format = some f) :
    ∃ x, s.startFrame.out.remote[r] = some x ∧ x.format = some f ∧
      x.containers = (s.record r).factors.map (s.containerFor f) := by
  have on : s.rl[r].state ≠ .off := by rw [up]; decide
  have known := upFormat_of_up up format
  refine ⟨_, ((opened_out s).1 r).trans (remoteTx_of_on on), known, ?_⟩
  rw [known]

/-- The source blocks and the sums of a link frame that starts (R65, R76, R78). -/
theorem startFrame_sums {c : CarrierId} {p : CarrierPlace} {i : SectorIx} (place : (s.carrier c).place = some p)
    (listed : c ∈ (s.opPlan p.op).active.sectors[i].carriers) (first : ∀ j < i, c ∉ (s.opPlan p.op).active.sectors[j].carriers) :
    let expected : RemoteId → Prop := fun r => (s.opPlan p.op).active.zones[r].cur = some i ∧
      c ∈ (s.record r).placed ∧ s.rl[r].state = .up ∧ s.rl[r].format.isSome
    ((∃ r, expected r) → ∃ q ∈ s.startFrame.comb.sums, q.label = s.tb.label + 1 ∧ q.carrier = c ∧ q.sector = sectorOf p.op i ∧
      q.place = p ∧ q.h = (s.opPlan p.op).active.sectors[i].h ∧ q.levels = (s.carrier c).eff ∧ q.contributors = 0 ∧
      (∀ r, (∃ e ∈ q.waiting, e.remote = r) ↔ expected r) ∧
      ∀ e ∈ q.waiting, s.rl[e.remote].format = some e.format ∧ e.m = s.rl[e.remote].mEff ∧ e.g = s.comb.guard[e.remote]) ∧
    ((∀ r, ¬ expected r) →
      ⟨s.tb.label + 1, c, p, List.replicate (960 * p.width) ⟨0, 0⟩⟩ ∈ s.startFrame.comb.outputs) := by
  intro expected
  have starts := opened_sumFor (nextLf s.tb.lf) place listed first
  have expects (r : RemoteId) : (∃ e ∈ s.opened.expectedFor (s.opPlan p.op).active i c, e.remote = r) ↔ expected r :=
    opened_expects_iff
  rw [startFrame_of_opened]
  refine ⟨fun ⟨r, expects'⟩ => ?_, fun nobody => ?_⟩
  · refine ⟨_, mem_startSums_sums.mpr ⟨.inr ⟨c, starts⟩, ?_⟩, rfl, rfl, rfl, rfl, rfl, rfl, rfl, expects, fun e mem => ?_⟩
    · obtain ⟨e, mem, _⟩ := (expects r).mpr expects'
      exact List.ne_nil_of_mem mem
    · obtain ⟨_, _, format, m, g⟩ := mem_opened_expected.mp mem
      exact ⟨(upFormat_eq_some_iff.mp format).2, m, g⟩
  · have none : s.opened.expectedFor (s.opPlan p.op).active i c = [] :=
      List.eq_nil_iff_forall_not_mem.mpr fun e mem => nobody e.remote ((expects e.remote).mp ⟨e, mem, rfl⟩)
    exact output_of_unexpected starts none rfl

theorem startFrame_trunk (s : State) : s.startFrame.out.trunk = some (controlWord s.tb.count (nextLf s.tb.lf)
      (s.mgmt.outbound (decide (s.trunk.state = .up))).1 (s.mgmt.outbound (decide (s.trunk.state = .up))).2.1) :=
  (opened_out s).2.2

theorem startFrame_slots (s : State) (o : OpId) (i : SlotIx) : ∃ x, s.startFrame.out.op[o] = some x ∧ x.slots[i] =
    match (s.deadline (s.tb.label - 1)).comb.outputs.find? (fun y =>
      y.label + 1 = s.tb.label && y.place.op = o && y.place.slot = i) with
    | some y => y.samples
    | none => [] := by
  refine ⟨_, (opened_out s).2.1 o, ?_⟩
  exact getElem_tab _ i

/-- What a start of a link frame with no boundary before it sends, keeps and forms. -/
theorem linkFrameStart_inside {lf : Nat} (quiet : s.Quiet) (next : s.tb.lf = none ∧ lf = 0 ∨ s.tb.lf = some (lf - 1) ∧ 1 ≤ lf ∧ lf ≤ 79) :
    exec .linkFrameStart s = .next s.startFrame ∧ nextLf s.tb.lf = lf := by
  refine ⟨exec_linkFrameStart_of_quiet quiet fun l found => ?_, ?_⟩
  · rcases next with ⟨none, _⟩ | ⟨some, low, high⟩
    · rw [none] at found
      contradiction
    · rw [some] at found
      cases found
      unfold lastFrame
      omega
  · rcases next with ⟨none, zero⟩ | ⟨some, low, high⟩
    · rw [none, zero]
      rfl
    · rw [some]
      exact Nat.sub_add_cancel low

end Sys2Proof.Machine.State
end

section
/-! SUPPORT. What no owed step of a boundary changes but a relock and the cold reset: the hub's numbers, the placed sets last
sent, the link frames of the sums in progress (R25, R59). -/

namespace Sys2Proof.Machine.State

variable {s t u : State}

/-- A step that only a window end owes (R93, R141). -/
def FoundAtEnd (x : Instr) : Prop := x = .autoQuietEntry ∨ ∃ r, x = .guardStepDown r

/-- What the owed steps of a boundary leave: the hub's numbers, the placed sets last sent, that the records are still to be
settled; sums withdraw and none begins, and what becomes owed is what a window end finds. -/
structure Onward (s t : State) : Prop where
  label : t.tb.label = s.tb.label
  count : t.tb.count = s.tb.count
  lf : t.tb.lf = s.tb.lf
  last : t.place.lastPlaced = s.place.lastPlaced
  sums : ∀ q ∈ t.comb.sums, ∃ p ∈ s.comb.sums, p.label = q.label
  pending : t.recordsPending = s.recordsPending
  due : ∀ x ∈ t.due, x ∈ s.due ∨ FoundAtEnd x

namespace Onward

theorem refl (s : State) : Onward s s := ⟨rfl, rfl, rfl, rfl, fun q mem => ⟨q, mem, rfl⟩, rfl, fun _ mem => .inl mem⟩

theorem trans (h : Onward s t) (h' : Onward t u) : Onward s u := by
  refine ⟨h'.label.trans h.label, h'.count.trans h.count, h'.lf.trans h.lf, h'.last.trans h.last, fun q mem => ?_,
    h'.pending.trans h.pending, fun x mem => ?_⟩
  · obtain ⟨p, mem, same⟩ := h'.sums q mem
    obtain ⟨o, mem, same'⟩ := h.sums p mem
    exact ⟨o, mem, same'.trans same⟩
  · exact (h'.due x mem).elim (h.due x) .inr

theorem of_same (tb : t.tb = s.tb) (last : t.place.lastPlaced = s.place.lastPlaced) (sums : t.comb.sums = s.comb.sums)
    (boundary : t.boundary = s.boundary) (due : t.due = s.due) : Onward s t := by
  refine ⟨by rw [tb], by rw [tb], by rw [tb], last, fun q mem => ⟨q, sums ▸ mem, rfl⟩, ?_, fun x mem => .inl (due ▸ mem)⟩
  unfold recordsPending
  rw [boundary]

theorem ite {c : Prop} [Decidable c] (ht : Onward s t) (hu : Onward s u) : Onward s (if c then t else u) := by
  split <;> assumption

/-! ## Placement -/

theorem settleConditions (s : State) : Onward s s.settleConditions := by
  have step {f : State → State} (frame : ∀ t, (f t).place.lastPlaced = t.place.lastPlaced ∧
      f t = { t with place := (f t).place, sup := (f t).sup }) (t : State) : Onward t (f t) := by
    obtain ⟨last, frame⟩ := frame t
    generalize f t = u at *
    refine of_same ?_ last ?_ ?_ ?_ <;> rw [frame]
  have fold {n : Nat} {f : State → Fin n → State} (frame : ∀ x t, (f t x).place.lastPlaced = t.place.lastPlaced ∧
      f t x = { t with place := (f t x).place, sup := (f t x).sup }) (l : List (Fin n)) {t : State} (h : Onward s t) :
      Onward s (l.foldl f t) :=
    foldl_invariant (P := Onward s) (fun t x h => h.trans (step (frame x) t)) l h
  unfold State.settleConditions
  refine fold (fun x t => ?_) _ (fold (fun x t => ?_) _ (fold (fun x t => ?_) _ (refl s)))
  · rw [settleOverload_frame]
    exact ⟨rfl, rfl⟩
  · rw [settleShed_frame]
    exact ⟨rfl, rfl⟩
  · rw [settleDark_frame]
    exact ⟨rfl, rfl⟩

theorem placementChanged (s : State) : Onward s s.placementChanged := ite (refl s) (settleConditions s)

theorem recompute (s : State) (r : RemoteId) : Onward s (s.recompute r) := of_same rfl rfl rfl rfl rfl

theorem recomputes (s : State) (l : List RemoteId) : Onward s (l.foldl State.recompute s) :=
  foldl_invariant (P := Onward s) (fun t r h => h.trans (recompute t r)) l (refl s)

theorem recomputed (s : State) (l : List RemoteId) : Onward s (l.foldl State.recompute s).placementChanged :=
  (recomputes s l).trans (placementChanged _)

/-! ## Remote links -/

theorem modRl (s : State) (r : RemoteId) (f : RemoteLink → RemoteLink) : Onward s (s.modRl r f) := of_same rfl rfl rfl rfl rfl

theorem clear (s : State) (key : Key) : Onward s (s.clear key) := of_same rfl rfl rfl rfl rfl

theorem raise (s : State) (key : Key) : Onward s (s.raise key) := of_same rfl rfl rfl rfl rfl

theorem complete (s : State) (ch : Channel) (x : Result) (b : Bool) (d : List Byte) : Onward s (s.complete ch x b d) := by
  rw [complete_eq]
  exact of_same rfl rfl rfl rfl rfl

theorem withdraw (s : State) (r : RemoteId) : Onward s (s.withdraw r) := by
  refine ⟨rfl, rfl, rfl, rfl, fun q mem => ?_, rfl, fun _ mem => .inl mem⟩
  obtain ⟨p, old, rfl⟩ := List.mem_map.mp (List.mem_of_mem_filter mem)
  exact ⟨p, old, rfl⟩

theorem leaveUp (s : State) (r : RemoteId) (x : RemoteState) : Onward s (s.leaveUp r x) := by
  have cleared : Onward s (s.clearFar r) := foldl_invariant (P := Onward s) (fun t k h => h.trans (clear t _)) _ (refl s)
  have marked := cleared.trans (modRl _ r fun l => { leftUp l with state := x })
  exact marked.trans ((withdraw _ r).trans ((recompute _ r).trans (placementChanged _)))

theorem restartInto (s : State) (r : RemoteId) (x : RemoteState) : Onward s (s.restartInto r x) := by
  have moved : Onward s (s.moveLink r x) := by
    unfold moveLink
    split
    · exact leaveUp s r x
    · exact (modRl s r _).trans (clear _ _)
    · exact modRl s r _
  exact moved.trans (of_same rfl rfl rfl rfl rfl)

theorem restart (s : State) (r : RemoteId) : Onward s (s.restart r) := restartInto s r .seek

theorem failNegotiation (s : State) (r : RemoteId) : Onward s (s.failNegotiation r) := (modRl s r _).trans (restart _ r)

/-! ## The owed steps -/

theorem setTimebase (s : State) (x : TimebaseState) : Onward s (s.setTimebase x) := by
  rw [setTimebase_eq]
  exact ⟨rfl, rfl, rfl, rfl, fun q mem => ⟨q, mem, rfl⟩, rfl, fun _ mem => .inl mem⟩

theorem modTerm (s : State) (l : TermLinkId) (f : TermLink → TermLink) : Onward s (s.modTerm l f) := by
  rw [modTerm_eq]
  exact of_same rfl rfl rfl rfl rfl

theorem setMode (s : State) (m : ModeUnit) : Onward s { s with mode := m } := of_same rfl rfl rfl rfl rfl

theorem setReplies (h : Onward s t) (m : Management) (p : Supervision) : Onward s { t with mgmt := m, sup := p } :=
  h.trans (of_same rfl rfl rfl rfl rfl)

/-- What the reference link does to the Timebase leaves the hub's numbers (R25). -/
theorem relocks (h : Onward s t) (l : TermLinkId) (x : TimebaseState) :
    Onward s (if t.isReference l = true then t.setTimebase x else t) := ite (h.trans (setTimebase t x)) h

theorem linkUpToLost (s : State) (l : TermLinkId) : Onward s (s.linkUpToLost l) := by
  unfold State.linkUpToLost
  refine ite ?_ (refl s)
  have lost := (modTerm s l fun t => { t with state := .lost, holdTimer := 0, lostEntries := satInc max32 t.lostEntries, lossCond := true }).trans
    (raise _ (lossKey l))
  have held := lost.relocks l .holdover
  cases l with
  | op o => exact held
  | trunk => exact held.trans (of_same rfl rfl rfl rfl rfl)

theorem switchover (s : State) (o : OpId) : Onward s (s.switchover o) := by
  have completes (t : State) (ch : Channel) : Onward t (t.completeArming o ch) := by
    have moves (origin : Origin) (a : Advice) : Onward t (t.acceptedMove o origin a) := by
      refine ⟨rfl, rfl, rfl, rfl, fun q mem => ⟨q, mem, rfl⟩, ?_, fun _ mem => .inl mem⟩
      unfold acceptedMove recordsPending
      dsimp only
      have same : (t.modBal o fun b => { b with
        holdOff := b.holdOff.set a.remote b.holdWindows, moves := satInc max16 b.moves
        lastMove := some ⟨a.closing, a.remote, a.fromSector, a.toSector, a.share, origin⟩ }).boundary = t.boundary := rfl
      rw [same]
      cases t.boundary <;> rfl
    unfold completeArming
    split
    · exact complete ..
    · exact (moves _ _).trans (complete ..)
    · exact refl t
  have placed : Onward s (s.modPlan o fun p => { p with active := p.staged, state := .clean }).recomputeAll.placementChanged :=
    (of_same rfl rfl rfl rfl rfl : Onward s (s.modPlan o _)).trans (recomputed _ allRemotes)
  unfold State.switchover
  split
  · dsimp only
    split
    · exact placed.trans (completes _ _)
    · exact placed.trans (completes _ _)
    · exact placed
  · exact refl s

theorem hubModeDecision (s : State) : Onward s s.hubModeDecision := by
  have takes {t : State} (h : Onward s t) (m : HubMode) : Onward s (t.takeMode m) := by
    have set : Onward s { t with mode := { t.mode with mode := m } } := h.trans (setMode t _)
    exact ite set (set.trans (recomputed _ allRemotes))
  unfold State.hubModeDecision
  split
  · exact (takes (setMode s _) _).trans (complete ..)
  · exact takes (setMode s _) _
  · exact refl s

theorem pendingIsolationApply (s : State) : Onward s s.pendingIsolationApply := by
  unfold State.pendingIsolationApply
  split
  · exact refl s
  · next p _ =>
    have taken := setMode s { s.mode with pendingIso := none }
    dsimp only
    split
    · exact taken.trans (complete ..)
    · have begins : Onward s (State.beginIsolation { s with mode := { s.mode with pendingIso := none } } p) :=
        taken.trans ((restartInto _ p.remote .isolated).trans (setMode _ _))
      exact begins.trans (complete ..)

theorem windowEnd (s : State) : Onward s s.windowEnd := by
  cases found : s.boundary with
  | none =>
    rw [windowEnd_of_none found]
    exact refl s
  | some b =>
    obtain ⟨_, _, _, _, due⟩ := windowEnd_parts found
    have owed : ∀ x ∈ s.windowEnd.due, x ∈ s.due ∨ FoundAtEnd x := fun x mem => by
      rw [due] at mem
      by_cases entry : x = .autoQuietEntry
      · exact .inr (.inl entry)
      · rcases mem_balanced_due.mp ((autoQuiet_due_of_ne entry).mp mem) with old | ⟨r, step, _⟩
        · exact .inl old
        · exact .inr (.inr ⟨r, step⟩)
    have frame := windowEnd_frame s
    generalize s.windowEnd = t at *
    refine ⟨?_, ?_, ?_, ?_, fun q mem => ⟨q, ?_, rfl⟩, ?_, owed⟩
    · rw [frame]
    · rw [frame]
    · rw [frame]
    · rw [frame]
    · rw [frame] at mem
      exact mem
    · unfold recordsPending
      rw [frame]

theorem warmBlocks (s : State) : Onward s s.warmBlocks := by
  refine of_same ?_ ?_ ?_ ?_ ?_ <;> dsimp only [State.warmBlocks]

/-- Every owed step of a boundary but a relock and the cold reset. -/
theorem effect {x : Instr} (early : phase x < requestPhase) (relock : ∀ b, x ≠ .timebaseRelock b) (cold : x ≠ .coldResetApplied)
    (s : State) : Onward s (Machine.effect x s) := by
  cases x
  case levelFieldTakesEffect c =>
    have set : Onward s (s.modCarrier c fun k => { k with eff := k.set }) := of_same rfl rfl rfl rfl rfl
    exact ite (set.trans (recomputed _ _)) set
  case linkSettingsTakeEffect r =>
    have set := modRl s r fun l => { l with mEff := l.m, pmaxEff := l.pmax }
    exact ite (set.trans ((recompute _ r).trans (placementChanged _))) set
  case seekRunComplete r => exact ite (modRl s r _) (refl s)
  case farFlagChange r i =>
    have set := modRl s r fun l => { l with flags := l.flags.set i s.rl[r].flags[i].change }
    exact ite (ite (set.trans (raise ..)) (set.trans (clear ..))) (refl s)
  case echoFailure r => exact ite (restart s r) (refl s)
  case negotiationTimeout r => exact ite (failNegotiation s r) (refl s)
  case negotiateAlignmentLoss r => exact ite (failNegotiation s r) (refl s)
  case linkEntersUp r =>
    refine ite ?_ (refl s)
    have up : Onward s (s.enterUp r) := of_same rfl rfl rfl rfl rfl
    exact up.trans ((recompute _ r).trans (placementChanged _))
  case linkLostEntry r => exact ite ((leaveUp s r .lost).trans (of_same rfl rfl rfl rfl rfl)) (refl s)
  case lostHoldEnd r => exact ite (restart s r) (refl s)
  case linkSeekToUp l =>
    refine ite ?_ (refl s)
    exact ((modTerm s l _).trans (clear _ (lossKey l))).relocks l .relocking
  case linkUpToLost l => exact linkUpToLost s l
  case linkLostHoldEnd l => exact ite (modTerm s l _) (refl s)
  case timebaseRelock b => exact absurd rfl (relock b)
  case gateHoldExpiry r c => exact of_same rfl rfl rfl rfl rfl
  case windowEnd => exact windowEnd s
  case guardStepDown r =>
    have set : Onward s { s with comb := { s.comb with
      guard := s.comb.guard.set r (s.comb.guard[r] - 1), recover := s.comb.recover.set r 0 } } := of_same rfl rfl rfl rfl rfl
    exact ite (ite (set.trans (clear ..)) set) (refl s)
  case autoQuietEntry =>
    dsimp only [Machine.effect]
    rw [autoQuietEntry_frame]
    exact of_same rfl rfl rfl rfl rfl
  case switchover o => exact switchover s o
  case hubModeDecision => exact hubModeDecision s
  case pendingIsolationApply => exact pendingIsolationApply s
  case isolationTimerExpiry r => exact ite ((setMode s _).trans (restart (s.unlist r) r)) (refl s)
  case warmResetApplied =>
    dsimp only [Machine.effect]
    rw [warmResetApplied_frame]
    exact (warmBlocks s).setReplies _ _
  case coldResetApplied => exact absurd rfl cold
  case alertPlacement =>
    dsimp only [Machine.effect]
    rw [alertPlacement_frame]
    exact of_same rfl rfl rfl rfl rfl
  all_goals simp only [phase, requestPhase, Nat.lt_irrefl, Nat.reduceLT] at early

end Onward

end Sys2Proof.Machine.State
end

section
/-! SUPPORT. The steps of a boundary, all taken (R25, R57, R59, R63, R71, R82). -/

namespace Sys2Proof.Machine.State

variable {s t u : State}

/-! ## The owed steps, phase by phase -/

/-- A step that a boundary owes or its window end finds, but for the cold reset. -/
def Ordinary (x : Instr) : Prop := phase x < requestPhase ∧ (∀ b, x ≠ .timebaseRelock b) ∧ x ≠ .coldResetApplied

theorem FoundAtEnd.ordinary {x : Instr} (h : FoundAtEnd x) : Ordinary x := by
  rcases h with rfl | ⟨r, rfl⟩ <;> exact ⟨by simp [phase, requestPhase], by simp, by simp⟩

theorem Onward.ordinary (h : Onward s t) (all : ∀ x ∈ s.due, Ordinary x) : ∀ x ∈ t.due, Ordinary x :=
  fun x mem => (h.due x mem).elim (all x) FoundAtEnd.ordinary

theorem Onward.dropDue (s : State) (x : Instr) : Onward s (s.dropDue x) :=
  ⟨rfl, rfl, rfl, rfl, fun q mem => ⟨q, mem, rfl⟩, rfl, fun _ mem => .inl (List.mem_of_mem_erase mem)⟩

/-- What every owed step of a phase keeps, the phase keeps. -/
theorem takePhase_keeps {P : State → State → Prop} (refl : ∀ s, P s s) (trans : ∀ {s t u}, P s t → P t u → P s u)
    (drop : ∀ s x, P s (s.dropDue x)) {p : Nat} (step : ∀ s x, phase x = p → Ordinary x → P s (Machine.effect x s)) (n : Nat)
    (all : ∀ x ∈ s.due, Ordinary x) : P s (s.takePhase p n) ∧ Onward s (s.takePhase p n) := by
  induction n generalizing s with
  | zero => exact ⟨refl s, .refl s⟩
  | succ n ih =>
    unfold takePhase
    split
    · exact ⟨refl s, .refl s⟩
    · next x found =>
      have ordinary := all x (List.mem_of_find?_eq_some found)
      have phased : phase x = p := by simpa using List.find?_some found
      have dropped := Onward.dropDue s x
      have taken := dropped.trans (Onward.effect ordinary.1 ordinary.2.1 ordinary.2.2 _)
      obtain ⟨kept, onward⟩ := ih (taken.ordinary all)
      exact ⟨trans (trans (drop s x) (step _ x phased ordinary)) kept, taken.trans onward⟩

theorem takePhase_onward (p n : Nat) (all : ∀ x ∈ s.due, Ordinary x) : Onward s (s.takePhase p n) :=
  (takePhase_keeps (P := fun _ _ => True) (fun _ => trivial) (fun _ _ => trivial) (fun _ _ => trivial)
    (fun _ _ _ _ => trivial) n all).2

/-- Until the placement of the boundary is settled. -/
theorem drainTo_onward {n : Nat} (early : n ≤ placementPhase) (all : ∀ x ∈ s.due, Ordinary x) : Onward s (s.drainTo n) := by
  induction n with
  | zero => exact .refl s
  | succ n ih =>
    have before := ih (Nat.le_of_succ_le early)
    unfold drainTo finishPhase
    dsimp only
    rw [if_neg (by omega)]
    exact before.trans (takePhase_onward _ _ (before.ordinary all))

/-! ## The work of a boundary on placement (R63, R71, R82) -/

/-- The work of a boundary on placement is done. -/
structure PlacementSettled (s : State) : Prop where
  sleep : ∀ r : RemoteId, (s.record r).sleep = true ↔
    s.mode.mode = .quiet ∧ s.rl[r].state = .up ∧ (s.record r).placed = []
  dark : ∀ x : SectorId, s.place.dark[x] = true ↔ s.IsDark x
  closed : ∀ (r : RemoteId) (c : CarrierId), c ∈ (s.record r).placed → c ∉ s.place.lastPlaced[r] → s.gate r c = ⟨false, 0⟩

/-- A fold reaches what one of its steps brings about and the others keep. -/
theorem foldl_reaches {α : Type} {P Q : State → Prop} {f : State → α → State} {x : α} (keeps : ∀ s y, P s → P (f s y))
    (ready : ∀ s y, Q s → Q (f s y)) (reach : ∀ s, Q s → P (f s x)) {l : List α} (mem : x ∈ l) (h : Q s) : P (l.foldl f s) := by
  obtain ⟨before, after, rfl⟩ := List.append_of_mem mem
  rw [List.foldl_append, List.foldl_cons]
  exact foldl_invariant keeps after (reach _ (foldl_invariant ready before h))

/-- The gates of the carriers that are newly placed start CLOSED (R59, R82). -/
theorem startGates_closed {r : RemoteId} {c : CarrierId} (placed : c ∈ (s.record r).placed) (fresh : c ∉ s.place.lastPlaced[r]) :
    (allRemotes.foldl startGates s).gate r c = ⟨false, 0⟩ := by
  have closes (t : State) (q : RemoteId) (d : CarrierId) (h : t.gate r c = ⟨false, 0⟩) :
      (t.setGate q d ⟨false, 0⟩).gate r c = ⟨false, 0⟩ := by
    by_cases same : r = q ∧ c = d
    · obtain ⟨rfl, rfl⟩ := same
      exact setGate_same ..
    · rw [setGate_other _ _ same]
      exact h
  refine foldl_reaches (P := fun t => t.gate r c = ⟨false, 0⟩) (Q := fun t => t.place = s.place) (x := r) (fun t q h => ?_)
    (fun t q h => ?_) (fun t h => ?_) (List.mem_finRange r) rfl
  · exact foldl_invariant (P := fun t => t.gate r c = ⟨false, 0⟩) (fun t d h => closes t q d h) _ h
  · rw [startGates_frame]
    exact h
  · have newly : c ∈ (t.record r).placed.filter fun c => !t.place.lastPlaced[r].contains c := by
      unfold record
      rw [h]
      exact List.mem_filter.mpr ⟨placed, by simpa using fresh⟩
    exact foldl_reaches (P := fun t => t.gate r c = ⟨false, 0⟩) (Q := fun _ => True) (fun t d h => closes t r d h)
      (fun _ _ _ => trivial) (fun t _ => setGate_same ..) newly trivial

/-- The sleep order of a remote for a superframe (R71). -/
theorem sleeps_record (s : State) (r : RemoteId) : (allRemotes.foldl setSleep s).record r = { s.record r with
    sleep := s.mode.mode = .quiet && s.rl[r].state = .up && (s.record r).placed = [] } := by
  refine (foldl_write_at (field := fun s => s.place.records) (value := fun s q => { s.record q with
    sleep := s.mode.mode = .quiet && s.rl[q].state = .up && (s.record q).placed = [] }) (fun t q => rfl) (fun t q p other => ?_)
    (List.nodup_finRange 24) s r).trans (if_pos (List.mem_finRange r))
  have kept : (t.setSleep q).record p = t.record p := setRecord_other t _ other
  rw [kept]
  rfl

theorem settleBoundary_of_pending (pending : s.recordsPending = true) : ∃ b, s.settleBoundary =
    { allRemotes.foldl setSleep (allRemotes.foldl startGates s.settleConditions) with boundary := b } := by
  unfold recordsPending at pending
  unfold settleBoundary
  split at pending
  · next b found =>
    rw [found]
    dsimp only
    rw [if_neg (by simpa using pending)]
    exact ⟨_, rfl⟩
  · contradiction

theorem PlacementSettled.of_boundary (h : s.PlacementSettled) (b : Option Boundary) :
    PlacementSettled { s with boundary := b } := ⟨h.sleep, h.dark, h.closed⟩

theorem sleeps_lastPlaced (s : State) : (allRemotes.foldl setSleep s).place.lastPlaced = s.place.lastPlaced := by
  have step (t : State) (r : RemoteId) : (t.setSleep r).place.lastPlaced = t.place.lastPlaced := rfl
  exact foldl_keeps (fun s => s.place.lastPlaced) setSleep step allRemotes s

theorem sleeps_conditions (conditions : s.Conditions) : (allRemotes.foldl setSleep s).Conditions :=
  foldl_invariant (P := Conditions) (f := setSleep) (fun _ r h => PlacementDerived.setSleep_conditions h r) allRemotes conditions

theorem sleeps_settled (conditions : s.Conditions)
    (closed : ∀ (r : RemoteId) (c : CarrierId), c ∈ (s.record r).placed → c ∉ s.place.lastPlaced[r] → s.gate r c = ⟨false, 0⟩) :
    (allRemotes.foldl setSleep s).PlacementSettled := by
  have records := sleeps_record s
  have met := sleeps_conditions conditions
  have last := sleeps_lastPlaced s
  have frame := foldl_setSleep_frame s allRemotes
  generalize allRemotes.foldl setSleep s = t at *
  have mode : t.mode = s.mode := by rw [frame]
  have rl : t.rl = s.rl := by rw [frame]
  have comb : t.comb = s.comb := by rw [frame]
  refine ⟨fun r => ?_, met.1, fun r c => ?_⟩
  · rw [records, mode, rl]
    simp only [Bool.and_eq_true, decide_eq_true_eq, and_assoc]
  · have gate : t.gate r c = s.gate r c := by
      unfold gate
      rw [comb]
    rw [records, last, gate]
    exact closed r c

theorem startGates_place (s : State) : (allRemotes.foldl startGates s).place = s.place := by rw [foldl_startGates_frame]

theorem startGates_conditions (h : s.Conditions) : (allRemotes.foldl startGates s).Conditions := by
  rw [foldl_startGates_frame]
  exact h.of_inputs (.of_eq rfl rfl rfl) rfl rfl rfl rfl

/-- At the end of the placement phases the work of the boundary on placement is done. -/
theorem settleBoundary_settled_placement (pending : s.recordsPending = true) : s.settleBoundary.PlacementSettled := by
  obtain ⟨b, e⟩ := settleBoundary_of_pending pending
  rw [e]
  have conditions := settleConditions_conditions s
  generalize s.settleConditions = v at conditions
  refine PlacementSettled.of_boundary (sleeps_settled (startGates_conditions conditions) fun r c placed fresh => ?_) b
  unfold record at placed
  rw [startGates_place] at placed fresh
  exact startGates_closed placed fresh

/-- What settling the placement leaves besides. -/
structure SameNumbers (s t : State) : Prop where
  label : t.tb.label = s.tb.label
  count : t.tb.count = s.tb.count
  lf : t.tb.lf = s.tb.lf
  last : t.place.lastPlaced = s.place.lastPlaced
  sums : ∀ q ∈ t.comb.sums, ∃ p ∈ s.comb.sums, p.label = q.label
  due : ∀ x ∈ t.due, x ∈ s.due ∨ FoundAtEnd x

theorem Onward.numbers (h : Onward s t) : SameNumbers s t := ⟨h.label, h.count, h.lf, h.last, h.sums, h.due⟩

theorem SameNumbers.trans (h : SameNumbers s t) (h' : SameNumbers t u) : SameNumbers s u := by
  refine ⟨h'.label.trans h.label, h'.count.trans h.count, h'.lf.trans h.lf, h'.last.trans h.last, fun q mem => ?_, fun x mem => ?_⟩
  · obtain ⟨p, mem, same⟩ := h'.sums q mem
    obtain ⟨o, mem, same'⟩ := h.sums p mem
    exact ⟨o, mem, same'.trans same⟩
  · exact (h'.due x mem).elim (h.due x) .inr

theorem settleBoundary_numbers (s : State) : SameNumbers s s.settleBoundary := by
  have last : s.settleBoundary.place.lastPlaced = s.place.lastPlaced := by
    have bounded (t : State) (b : Option Boundary) : ({ t with boundary := b } : State).place = t.place := rfl
    by_cases pending : s.recordsPending = true
    · obtain ⟨b, e⟩ := settleBoundary_of_pending pending
      rw [e, bounded, sleeps_lastPlaced, startGates_place]
      exact (Onward.settleConditions s).last
    · rw [settleBoundary_of_settled]
      intro b found
      simpa [recordsPending, found] using pending
  have frame := settleBoundary_frame s
  generalize s.settleBoundary = t at *
  refine ⟨?_, ?_, ?_, last, fun q mem => ⟨q, ?_, rfl⟩, fun x mem => .inl ?_⟩
  · rw [frame]
  · rw [frame]
  · rw [frame]
  · rw [frame] at mem
    exact mem
  · rw [frame] at mem
    exact mem

/-! ## The steps after the placement phases -/

/-- What the steps after the placement phases leave of placement. -/
structure Undisturbed (s t : State) : Prop where
  place : t.place = s.place
  gates : t.comb.gates = s.comb.gates
  links : ∀ r : RemoteId, t.rl[r].state = s.rl[r].state
  carriers : t.plan.carriers = s.plan.carriers
  active : ∀ o : OpId, (t.opPlan o).active = (s.opPlan o).active
  mode : t.mode.mode = s.mode.mode

theorem Undisturbed.refl (s : State) : Undisturbed s s := ⟨rfl, rfl, fun _ => rfl, rfl, fun _ => rfl, rfl⟩

theorem Undisturbed.trans (h : Undisturbed s t) (h' : Undisturbed t u) : Undisturbed s u :=
  ⟨h'.place.trans h.place, h'.gates.trans h.gates, fun r => (h'.links r).trans (h.links r), h'.carriers.trans h.carriers,
    fun o => (h'.active o).trans (h.active o), h'.mode.trans h.mode⟩

theorem Undisturbed.of_same (place : t.place = s.place) (gates : t.comb.gates = s.comb.gates) (rl : t.rl = s.rl)
    (plan : t.plan = s.plan) (mode : t.mode.mode = s.mode.mode) : Undisturbed s t :=
  ⟨place, gates, fun r => by rw [rl], by rw [plan], fun o => by unfold opPlan; rw [plan], mode⟩

theorem Undisturbed.setReplies (h : Undisturbed s t) (m : Management) (p : Supervision) :
    Undisturbed s { t with mgmt := m, sup := p } := h.trans (.of_same rfl rfl rfl rfl rfl)

theorem PlacementSettled.of_undisturbed (h : s.PlacementSettled) (same : Undisturbed s t) : t.PlacementSettled := by
  obtain ⟨place, gates, links, carriers, active, mode⟩ := same
  have record (r : RemoteId) : t.record r = s.record r := by
    unfold State.record
    rw [place]
  have isDark (x : SectorId) : t.IsDark x ↔ s.IsDark x := by
    refine isDark_congr active mode (fun o i c _ => ?_) (fun r => by rw [record]) x
    rw [carriers]
    exact .refl _
  refine ⟨fun r => ?_, fun x => ?_, fun r c => ?_⟩
  · rw [record, mode, links]
    exact h.sleep r
  · rw [place, isDark]
    exact h.dark x
  · have gate : t.gate r c = s.gate r c := by
      unfold State.gate
      rw [gates]
    rw [record, place, gate]
    exact h.closed r c

theorem warmBlocks_undisturbed (s : State) : Undisturbed s s.warmBlocks := by
  refine ⟨by dsimp only [warmBlocks], by dsimp only [warmBlocks], fun r => ?_, by dsimp only [warmBlocks], fun o => ?_,
    by dsimp only [warmBlocks]⟩
  · have link : s.warmBlocks.rl[r] = warmRemote s.rl[r] := getElem_tab _ r
    rw [link]
    rfl
  · have plan : s.warmBlocks.opPlan o = { s.opPlan o with staged := (s.opPlan o).active, state := .clean } := getElem_tab _ o
    rw [plan]

/-- The steps after the placement phases, and ahead of the requests. -/
theorem effect_undisturbed {x : Instr} (late : placementPhase < phase x) (early : phase x < requestPhase) (s : State) :
    Undisturbed s (effect x s) := by
  cases x
  case windowEnd =>
    have active := windowEnd_active s
    have mode := windowEnd_modeInForce s
    have carriers := windowEnd_carriers s
    have frame := windowEnd_frame s
    dsimp only [effect]
    generalize s.windowEnd = t at *
    refine ⟨?_, ?_, fun r => ?_, carriers, active, mode⟩ <;> rw [frame]
  case warmResetApplied =>
    dsimp only [effect]
    rw [warmResetApplied_frame]
    exact (warmBlocks_undisturbed s).setReplies _ _
  case guardStepDown r =>
    dsimp only [effect, guardStepDown]
    split
    · split <;> exact .of_same rfl rfl rfl rfl rfl
    · exact .refl s
  case autoQuietEntry =>
    dsimp only [effect, autoQuietEntry]
    split
    · exact .of_same rfl rfl rfl rfl rfl
    · exact .refl s
  case alertPlacement =>
    dsimp only [effect]
    rw [alertPlacement_frame]
    exact .of_same rfl rfl rfl rfl rfl
  all_goals first
    | exact absurd early (Nat.not_lt_of_ge (Nat.le_of_ble_eq_true rfl))
    | exact absurd late (Nat.not_lt_of_ge (Nat.le_of_ble_eq_true rfl))

end Sys2Proof.Machine.State
end

section
/-! SUPPORT. The boundary that follows link frame 79, with all its steps taken (R25, R195). -/

namespace Sys2Proof.Machine.State

variable {s t u : State}

/-! ## A boundary without a cold reset -/

theorem SameNumbers.ordinary (h : SameNumbers s t) (all : ∀ x ∈ s.due, Ordinary x) : ∀ x ∈ t.due, Ordinary x :=
  fun x mem => (h.due x mem).elim (all x) FoundAtEnd.ordinary

/-- When the placement phases are over, the work of the boundary on placement is done. -/
theorem drainTo_settles (pending : s.recordsPending = true) (all : ∀ x ∈ s.due, Ordinary x) :
    (s.drainTo (placementPhase + 1)).PlacementSettled ∧ SameNumbers s (s.drainTo (placementPhase + 1)) := by
  have before := drainTo_onward (s := s) le_rfl all
  have taken := before.trans (takePhase_onward placementPhase (s.drainTo placementPhase).due.length (before.ordinary all))
  unfold drainTo finishPhase
  dsimp only
  rw [if_pos rfl]
  exact ⟨settleBoundary_settled_placement (taken.pending.trans pending), taken.numbers.trans (settleBoundary_numbers _)⟩

/-- A phase after the placement phases, and ahead of the requests. -/
theorem finishPhase_late {p : Nat} (late : placementPhase < p) (early : p < requestPhase) (all : ∀ x ∈ s.due, Ordinary x) :
    Undisturbed s (s.finishPhase p) ∧ SameNumbers s (s.finishPhase p) := by
  have kept := takePhase_keeps (P := Undisturbed) .refl .trans (fun _ _ => .of_same rfl rfl rfl rfl rfl)
    (fun t x phased _ => effect_undisturbed (phased ▸ late) (phased ▸ early) t) s.due.length all (p := p)
  unfold finishPhase
  dsimp only
  rw [if_neg (Nat.ne_of_gt late)]
  exact ⟨kept.1, kept.2.numbers⟩

/-- With no request owed the boundary is over. -/
theorem PlacementSettled.finishRequests (h : t.PlacementSettled) (numbers : SameNumbers s t) (all : ∀ x ∈ t.due, Ordinary x) :
    (t.endBoundary.finishPhase requestPhase).PlacementSettled ∧ SameNumbers s (t.endBoundary.finishPhase requestPhase) := by
  have ended : t.endBoundary.PlacementSettled ∧ SameNumbers s t.endBoundary :=
    ⟨h.of_boundary none, numbers.trans ⟨rfl, rfl, rfl, rfl, fun q mem => ⟨q, mem, rfl⟩, fun _ mem => .inl mem⟩⟩
  have noRequest : t.endBoundary.takePhase requestPhase t.endBoundary.due.length = t.endBoundary :=
    takePhase_of_none _ _ _ fun x mem => (all x mem).1.ne
  unfold finishPhase
  dsimp only
  rw [noRequest, if_neg (by decide)]
  exact ended

/-- The boundary with all its steps taken: the work on placement is done and the numbers stand. -/
theorem drain_settles (pending : s.recordsPending = true) (all : ∀ x ∈ s.due, Ordinary x) :
    s.drain.PlacementSettled ∧ SameNumbers s s.drain := by
  obtain ⟨settled, numbers⟩ := drainTo_settles pending all
  have next {v : State} {p : Nat} (late : placementPhase < p) (early : p < requestPhase)
      (h : v.PlacementSettled ∧ SameNumbers s v) :
      (finishPhase p v).PlacementSettled ∧ SameNumbers s (finishPhase p v) := by
    obtain ⟨same, numbers⟩ := finishPhase_late late early (h.2.ordinary all)
    exact ⟨h.1.of_undisturbed same, h.2.trans numbers⟩
  have phases : s.drainTo requestPhase = finishPhase 6 (finishPhase 5 (finishPhase 4 (s.drainTo (placementPhase + 1)))) := rfl
  have drained := next (p := 6) (by decide) (by decide) (next (p := 5) (by decide) (by decide)
    (next (p := 4) (by decide) (by decide) ⟨settled, numbers⟩))
  rw [← phases] at drained
  unfold drain
  generalize s.drainTo requestPhase = v at drained
  exact drained.1.finishRequests drained.2 (drained.2.ordinary all)

theorem makeBoundary_pending (s : State) : (s.makeBoundary false).recordsPending = true := by
  unfold recordsPending
  rw [makeBoundary_frame]
  rfl

theorem mem_makeBoundary_due (none : s.due = []) {x : Instr} (mem : x ∈ (s.makeBoundary false).due) :
    (∃ r c, x = .gateHoldExpiry r c) ∨ x ∈ s.ticked.owedAtBoundary := by
  rw [makeBoundary_eq] at mem
  exact (List.mem_append.mp mem).imp_left (mem_ticked_due none)

theorem ticked_mgmt (s : State) : s.ticked.mgmt = s.mgmt := by rw [ticked_frame]

theorem makeBoundary_ordinary (none : s.due = []) (warm : s.coldDue = false) : ∀ x ∈ (s.makeBoundary false).due, Ordinary x := by
  have cold : s.ticked.coldDue = false := by
    unfold coldDue at warm ⊢
    rw [ticked_mgmt]
    exact warm
  intro x mem
  rcases mem_makeBoundary_due none mem with ⟨r, c, rfl⟩ | owed
  · exact ⟨by simp [phase, requestPhase], by simp, by simp⟩
  · rw [mem_owedAtBoundary cold, mem_owedLinks, mem_owedPlans, mem_owedWindow] at owed
    rcases owed with (⟨_, _, rfl⟩ | ⟨_, _, rfl⟩ | ⟨_, _, _, rfl⟩ | ⟨_, _, rfl⟩ | ⟨_, _, rfl⟩ | ⟨_, _, rfl⟩ | ⟨_, _, rfl⟩) |
      ⟨_, ⟨_, _, rfl⟩ | ⟨rfl, _⟩⟩ | ⟨rfl, _⟩ | (⟨rfl, _⟩ | ⟨rfl, _⟩) | rfl
    all_goals exact ⟨by simp [phase, requestPhase], by simp, by simp⟩

/-! ## A cold reset -/

/-- Gate expiries stand ahead of the cold reset at most, and it leaves nothing owed. -/
theorem takePhase_cold {n : Nat} (cold : .coldResetApplied ∈ s.due)
    (only : ∀ x ∈ s.due, x = .coldResetApplied ∨ ∃ r c, x = .gateHoldExpiry r c) (enough : s.due.length ≤ n) :
    s.takePhase 1 n = s.coldReset := by
  induction n generalizing s with
  | zero =>
    have empty := List.length_eq_zero_iff.mp (Nat.le_zero.mp enough)
    rw [empty] at cold
    contradiction
  | succ n ih =>
    have phased : ∀ x ∈ s.due, phase x = 1 := fun x mem => by
      rcases only x mem with rfl | ⟨r, c, rfl⟩ <;> rfl
    have found : ∃ x, (s.due.find? fun x => phase x = 1) = some x := by
      refine Option.isSome_iff_exists.mp (List.find?_isSome.mpr ⟨_, cold, ?_⟩)
      exact decide_eq_true (phased _ cold)
    obtain ⟨x, found⟩ := found
    have mem := List.mem_of_find?_eq_some found
    unfold takePhase
    rw [found]
    dsimp only
    rcases only x mem with rfl | ⟨r, c, rfl⟩
    · exact takePhase_of_none 1 n _ nofun
    · have erased : ((effect (.gateHoldExpiry r c) (s.dropDue (.gateHoldExpiry r c))).due) = s.due.erase (.gateHoldExpiry r c) := rfl
      refine ih ?_ (fun y mem => only y ?_) ?_
      · rw [erased]
        exact (List.mem_erase_of_ne (by simp)).mpr cold
      · rw [erased] at mem
        exact List.mem_of_mem_erase mem
      · rw [erased, List.length_erase_of_mem mem]
        omega

theorem finishPhase_of_done {p : Nat} (none : s.due = []) (ended : s.boundary = Option.none) : s.finishPhase p = s := by
  have taken : s.takePhase p s.due.length = s := takePhase_of_none _ _ _ (by simp [none])
  unfold finishPhase
  rw [taken]
  dsimp only
  split
  · exact settleBoundary_of_settled s (by simp [ended])
  · rfl

/-- A cold reset stands in place of the other steps of the boundary. -/
theorem drain_cold (cold : .coldResetApplied ∈ s.due)
    (only : ∀ x ∈ s.due, x = .coldResetApplied ∨ ∃ r c, x = .gateHoldExpiry r c) : s.drain = s.coldReset := by
  have first : s.drainTo 1 = s := drainTo_of_later 1 s (fun x mem => by
    rcases only x mem with rfl | ⟨r, c, rfl⟩ <;> exact Nat.le_refl 1) (fun h => absurd h (by decide))
  have second : s.drainTo 2 = s.coldReset := by
    have taken : finishPhase 1 (s.drainTo 1) = s.coldReset := by
      rw [first]
      unfold finishPhase
      rw [takePhase_cold cold only le_rfl]
      exact if_neg (by decide)
    exact taken
  have done {p : Nat} : finishPhase p s.coldReset = s.coldReset := finishPhase_of_done rfl rfl
  have all : s.drainTo requestPhase = s.coldReset := by
    show finishPhase 6 (finishPhase 5 (finishPhase 4 (finishPhase 3 (finishPhase 2 (s.drainTo 2))))) = _
    rw [second, done, done, done, done, done]
  unfold drain
  rw [all]
  exact done

theorem makeBoundary_cold (none : s.due = []) (cold : s.coldDue = true) : (s.makeBoundary false).drain = (s.makeBoundary false).coldReset := by
  have owed : s.ticked.owedAtBoundary = [.coldResetApplied] := by
    have cold' : s.ticked.coldDue = true := by
      unfold coldDue at cold ⊢
      rw [ticked_mgmt]
      exact cold
    unfold owedAtBoundary
    exact if_pos cold'
  refine drain_cold ?_ fun x mem => ?_
  · rw [makeBoundary_eq]
    refine List.mem_append_right _ ?_
    rw [owed]
    exact List.mem_singleton_self _
  · rcases mem_makeBoundary_due none mem with expiry | own
    · exact .inr expiry
    · rw [owed] at own
      exact .inl (List.mem_singleton.mp own)

theorem coldReset_settled (s : State) : s.coldReset.PlacementSettled := by
  have dark := ((placementDerived_iff reset).mp reset_placementDerived).2 nofun
  have normal : reset.mode.mode = .normal := rfl
  have settled : reset.PlacementSettled := by
    refine ⟨fun r => ?_, dark.1, fun r c placed => ?_⟩
    · rw [reset_record, normal]
      exact ⟨nofun, nofun⟩
    · rw [reset_record] at placed
      contradiction
  exact settled.of_undisturbed (.of_same rfl rfl rfl rfl rfl)

/-! ## The link frame after it -/

theorem nextFrame_of_last {lf : Nat} (quiet : s.Quiet) (last : s.tb.lf = some lf) (ends : 79 ≤ lf) :
    exec .linkFrameStart s = .next (s.makeBoundary false).drain.startFrame := by
  have e : exec .linkFrameStart s = awake s fun s => s.nextFrame := rfl
  have frame : s.nextFrame = (s.makeBoundary false).drain.startFrame := by
    unfold nextFrame
    rw [drain_of_quiet s quiet]
    dsimp only
    rw [last]
    exact congrArg startFrame (if_pos (decide_eq_true ends))
  rw [e, awake_next _ _ quiet.1, frame]

/-- Nothing of the superframe is in progress when a boundary has been made. -/
theorem drained_lf (none : s.due = []) : (s.makeBoundary false).drain.tb.lf = Option.none := by
  cases cold : s.coldDue with
  | true =>
    rw [makeBoundary_cold none cold]
    rfl
  | false =>
    obtain ⟨_, numbers⟩ := drain_settles (makeBoundary_pending s) (makeBoundary_ordinary none cold)
    rw [numbers.lf, makeBoundary_frame]

/-- The work on placement stays done when the link frame starts, but for the gates of blocks that settle. -/
theorem startFrame_settled (h : s.PlacementSettled) : (∀ r : RemoteId, (s.startFrame.record r).sleep = true ↔
      s.startFrame.mode.mode = .quiet ∧ s.startFrame.rl[r].state = .up ∧ (s.startFrame.record r).placed = []) ∧
    ∀ x : SectorId, s.startFrame.place.dark[x] = true ↔ s.startFrame.IsDark x := by
  have frame := startFrame_frame s
  have record := startFrame_record s
  have link (r : RemoteId) : s.startFrame.rl[r].state = s.rl[r].state := by rw [startFrame_rl]
  generalize s.startFrame = t at *
  have mode : t.mode = s.mode := by rw [frame]
  have plan : t.plan = s.plan := by rw [frame]
  have dark : t.place.dark = s.place.dark := by rw [frame]
  refine ⟨fun r => ?_, fun x => ?_⟩
  · rw [record, mode, link]
    exact h.sleep r
  · rw [dark, h.dark]
    refine (isDark_congr (fun o => ?_) (by rw [mode]) (fun o i c _ => ?_) (fun r => by rw [record]) x).symm
    · unfold opPlan
      rw [plan]
    · rw [plan]
      exact .refl _

/-- A deadline with no sum left to settle settles nothing. -/
theorem deadline_of_later {n : Nat} (later : ∀ q ∈ s.comb.sums, n < q.label) : s.deadline n = s := by
  have none : (s.unsettled.filter fun b => b.1 ≤ n) = [] := by
    refine List.filter_eq_nil_iff.mpr fun b mem => ?_
    obtain ⟨q, sum, mem⟩ := List.mem_flatMap.mp mem
    obtain ⟨e, _, rfl⟩ := List.mem_map.mp mem
    have := later q sum
    simpa using this
  unfold deadline
  rw [none]
  rfl

/-- A boundary leaves no sum of a link frame before the one in progress. -/
theorem makeBoundary_later (formed : s.SumsFormed) (none : s.due = []) :
    ∀ q ∈ (s.makeBoundary false).comb.sums, s.tb.label - 1 < q.label := by
  have sums : (s.makeBoundary false).comb.sums = (s.deadline (s.tb.label - 1)).comb.sums := by
    have made : (s.makeBoundary false).comb = s.ticked.comb := by rw [makeBoundary_eq]
    rw [made]
    unfold ticked
    generalize s.deadline (s.tb.label - 1) = u
    dsimp only [tickBoundary]
  intro q mem
  rw [sums, (deadline_leaves formed none _).sums] at mem
  simpa using (List.mem_filter.mp mem).2

/-- The gates of newly placed carriers at the link frame after a boundary (R59, R82). -/
theorem drained_gates (formed : s.SumsFormed) (none : s.due = []) {r : RemoteId} {c : CarrierId} (fresh : c ∉ s.place.lastPlaced[r])
    (placed : c ∈ ((s.makeBoundary false).drain.startFrame.record r).placed) :
    (s.makeBoundary false).drain.startFrame.gate r c = ⟨false, 0⟩ := by
  rw [startFrame_record] at placed
  rw [startFrame_gate]
  cases cold : s.coldDue with
  | true =>
    have same (t : State) : t.coldReset.record r = reset.record r := rfl
    rw [makeBoundary_cold none cold, same, reset_record] at placed
    contradiction
  | false =>
    obtain ⟨settled, numbers⟩ := drain_settles (makeBoundary_pending s) (makeBoundary_ordinary none cold)
    have later := makeBoundary_later formed none
    have label : (s.makeBoundary false).tb.label = s.tb.label := by rw [makeBoundary_frame]
    have last : (s.makeBoundary false).place.lastPlaced = s.place.lastPlaced := by rw [makeBoundary_frame]
    have unsettled : ∀ q ∈ (s.makeBoundary false).drain.comb.sums, (s.makeBoundary false).drain.tb.label - 1 < q.label := by
      intro q mem
      obtain ⟨p, mem, same⟩ := numbers.sums q mem
      rw [numbers.label, label, ← same]
      exact later p mem
    rw [deadline_of_later unsettled]
    refine settled.closed r c placed ?_
    rw [numbers.last, last]
    exact fresh

end Sys2Proof.Machine.State
end

section
/-! The statement on the start of a link frame. -/

namespace Sys2Proof.Machine.State

variable {s : State}

/-- A link frame follows every other, and after link frame 79 a boundary and link frame 0 (R25). -/
theorem linkFrameStart_cases (quiet : s.Quiet) : ∃ u : State, exec .linkFrameStart s = .next u.startFrame ∧ nextLf u.tb.lf ≤ 79 := by
  by_cases last : ∀ lf, s.tb.lf = some lf → lf < lastFrame
  · refine ⟨s, exec_linkFrameStart_of_quiet quiet last, ?_⟩
    cases found : s.tb.lf with
    | none => exact Nat.zero_le _
    | some lf => exact last lf found
  · simp only [not_forall, not_lt] at last
    obtain ⟨lf, found, ends⟩ := last
    refine ⟨(s.makeBoundary false).drain, nextFrame_of_last quiet found ends, ?_⟩
    rw [drained_lf quiet.2.1]
    exact Nat.zero_le _

/-- The snapshot stays when a link frame starts. -/
theorem startFrame_snap (s : State) : s.startFrame.meas.snap = s.meas.snap := by
  have released : s.startFrame.meas = (s.deadline (s.tb.label - 1)).meas.release := by
    rw [startFrame_of_opened, startSums_frame]
    unfold opened
    generalize s.deadline (s.tb.label - 1) = u
    rfl
  have kept (m : Measurement) : m.release.snap = m.snap := by dsimp only [Measurement.release]
  rw [released, kept, deadline_meas]

end Sys2Proof.Machine.State

namespace Sys2Proof.Proofs

open Sys2Proof.Machine Sys2Proof.Machine.State

/-- Settles O7: by what a start of a link frame sends and forms, and by the steps of the boundary that link frame 79 is followed by. -/
theorem linkFrameStart : Obligations.LinkFrameStart := by
  refine ⟨fun s quiet => ?_, fun s lf quiet next => ?_, fun s lf quiet last ends => ?_⟩
  · obtain ⟨u, e, low⟩ := linkFrameStart_cases quiet
    obtain ⟨off, on, op, trunk⟩ := startFrame_words u
    exact ⟨u.startFrame, nextLf u.tb.lf, e, (startFrame_tb u).2.1, low, off, on, op, trunk⟩
  · obtain ⟨e, number⟩ := linkFrameStart_inside quiet next
    obtain ⟨label, started, count⟩ := startFrame_tb s
    have frame := startFrame_frame s
    have link := startFrame_link s
    have dist := startFrame_dist s
    have containers {r : RemoteId} {f : Format} (up) (format) := startFrame_containers (s := s) (r := r) (f := f) up format
    have slots := startFrame_slots s
    have sent := startFrame_trunk s
    have mgmt := startFrame_mgmt s
    have sums {c : CarrierId} {p : CarrierPlace} {i : SectorIx} (place) (listed) (first) :=
      startFrame_sums (s := s) (c := c) (p := p) (i := i) place listed first
    have snap := startFrame_snap s
    rw [number] at started sent
    refine ⟨s.startFrame, e, label, started, count, link, ?_⟩
    clear link
    generalize s.startFrame = t at *
    refine ⟨by rw [frame], by rw [frame], by rw [frame], by rw [frame], by rw [frame], by rw [frame], by rw [frame], snap, ?_, ?_, ?_, ?_, ?_, ?_, ?_, ?_⟩
    · intro r f up format
      obtain ⟨x, sends, known, held⟩ := containers up format
      refine ⟨x, sends, known, held.trans ?_⟩
      exact List.map_congr_left fun p _ => containerFor_eq s f p
    · intro d deadline o i
      rw [exec_blockDeadline_of_quiet quiet] at deadline
      cases deadline
      exact slots o i
    · intro idle
      rw [sent, mgmt, Management.outbound_idle (idle.imp_left fun down => decide_eq_false down)]
      exact ⟨rfl, rfl⟩
    · intro x rest n up due tx
      rw [sent, mgmt, decide_eq_true up, Management.outbound_response due tx]
      exact ⟨rfl, rfl⟩
    · intro a n up alert tx
      rw [sent, mgmt, decide_eq_true up, Management.outbound_alert alert tx]
      exact ⟨rfl, rfl⟩
    · rw [dist]
    · rw [dist]
      exact nextSource_eq s
    · intro c p i place listed first
      exact sums place listed first
  · intro cold
    have exec' := nextFrame_of_last quiet last ends
    have none := quiet.2.1
    obtain ⟨label, started, count⟩ := startFrame_tb (s.makeBoundary false).drain
    have gates (formed) {r : RemoteId} {c : CarrierId} (fresh) (placed) := drained_gates (s := s) formed none (r := r) (c := c) fresh placed
    have made : (s.makeBoundary false).tb.count = s.tb.count + 1 ∧ (s.makeBoundary false).tb.label = s.tb.label := by
      rw [makeBoundary_frame]
      exact ⟨rfl, rfl⟩
    have zero := drained_lf none
    rw [zero] at started
    have done : (s.makeBoundary false).drain.PlacementSettled := by
      cases due : s.coldDue with
      | true =>
        rw [makeBoundary_cold none due]
        exact coldReset_settled _
      | false => exact (drain_settles (makeBoundary_pending s) (makeBoundary_ordinary none due)).1
    obtain ⟨sleep, dark⟩ := startFrame_settled done
    refine ⟨_, exec', started, fun isCold => ?_, fun notCold => ?_, sleep, dark, fun formed r c placed fresh => gates formed fresh placed⟩
    · rw [count, makeBoundary_cold none (coldDue_iff.mpr isCold)]
      rfl
    · have warm : s.coldDue = false := Bool.eq_false_iff.mpr (mt coldDue_iff.mp notCold)
      obtain ⟨_, numbers⟩ := drain_settles (makeBoundary_pending s) (makeBoundary_ordinary none warm)
      exact ⟨count.trans (numbers.count.trans made.1), label.trans (congrArg (· + 1) (numbers.label.trans made.2))⟩

end Sys2Proof.Proofs
end

section
/-! The statement on control words and packed samples (R1, R2, R196, R198). -/

namespace Sys2Proof.Machine

/-! ## Control words -/

theorem length_padTo (n : Nat) (bs : List Byte) : (padTo n bs).length = n := by
  rw [padTo, List.length_append, List.length_take, List.length_replicate]
  omega

/-- A check byte makes the bytes sum to zero. -/
theorem byteSum_check (bs : List Byte) : byteSum (bs ++ [0 - byteSum bs]) = 0 := by
  have ends (b : Byte) : byteSum (bs ++ [b]) = byteSum bs + b := by
    unfold byteSum
    rw [List.foldl_append]
    rfl
  rw [ends]
  exact add_sub_cancel ..

theorem controlWord_eq (count : Count) (lf : Nat) (type : Byte) (payload : List Byte) : ∃ check,
    controlWord count lf type payload = [0xD2, 0x47, byte lf, lowByte count, type] ++ (padTo 10 payload ++ [check]) :=
  ⟨_, List.append_assoc ..⟩

theorem controlWord_length (count : Count) (lf : Nat) (type : Byte) (payload : List Byte) :
    (controlWord count lf type payload).length = 16 := by
  obtain ⟨check, e⟩ := controlWord_eq count lf type payload
  rw [e, List.length_append, List.length_append, length_padTo]
  rfl

theorem controlWord_sum (count : Count) (lf : Nat) (type : Byte) (payload : List Byte) :
    byteSum (controlWord count lf type payload) = 0 := byteSum_check _

theorem parseWord_controlWord (count : Count) {lf : Nat} (low : lf ≤ 79) (type : Byte) (payload : List Byte) :
    parseWord (controlWord count lf type payload) = some ⟨lf, lowByte count, type, padTo 10 payload⟩ := by
  have length := controlWord_length count lf type payload
  have sum := controlWord_sum count lf type payload
  obtain ⟨check, e⟩ := controlWord_eq count lf type payload
  have number : (byte lf).toNat = lf := byte_toNat (by omega)
  have third : ((controlWord count lf type payload).getD 2 0).toNat = lf := by
    rw [e]
    exact number
  have body : ((controlWord count lf type payload).drop 5).take 10 = padTo 10 payload := by
    rw [e]
    exact List.take_left' (length_padTo 10 payload)
  unfold parseWord
  rw [if_pos ⟨length, by rw [e]; rfl, sum, third.trans_le low⟩, third, body, e]
  rfl

theorem parseWord_eq_none_iff {bs : List Byte} : parseWord bs = none ↔
    ¬ (bs.length = 16 ∧ bs.take 2 = [0xD2, 0x47] ∧ byteSum bs = 0 ∧ (bs.getD 2 0).toNat ≤ 79) := by
  unfold parseWord
  exact ite_eq_right_iff.trans ⟨fun h good => Option.some_ne_none _ (h good), fun bad good => absurd good bad⟩

/-! ## Packed samples -/

/-- A value in the range of a width is read back from its two's complement. -/
theorem signed_complement {bits : Nat} (positive : 1 ≤ bits) {x : Int} (low : -(2 : Int) ^ (bits - 1) ≤ x) (high : x < (2 : Int) ^ (bits - 1)) :
    signed bits (complement bits x) = x := by
  obtain ⟨k, rfl⟩ := Nat.exists_eq_add_of_le' positive
  have double : (2 : Int) ^ (k + 1) = 2 * 2 ^ k := by rw [pow_succ, mul_comm]
  have cast : ((2 ^ k : Nat) : Int) = 2 ^ k := by norm_num
  rw [Nat.add_sub_cancel] at low high
  unfold signed complement
  rw [double, Nat.add_sub_cancel]
  rcases lt_or_ge x 0 with negative | nonnegative
  · have wrapped : x % (2 * 2 ^ k) = x + 2 * 2 ^ k := by
      rw [← Int.add_emod_right]
      exact Int.emod_eq_of_lt (by omega) (by omega)
    rw [wrapped, if_neg (by omega)]
    omega
  · have same : x % (2 * 2 ^ k) = x := Int.emod_eq_of_lt nonnegative (by omega)
    rw [same, if_pos (by omega)]
    omega

theorem complement_lt (bits : Nat) (x : Int) : complement bits x < 2 ^ bits := by
  have cast : ((2 ^ bits : Nat) : Int) = 2 ^ bits := by norm_num
  have positive : (0 : Int) < 2 ^ bits := by positivity
  have low := Int.emod_nonneg x positive.ne'
  have high := Int.emod_lt_of_pos x positive
  unfold complement
  omega

theorem byte_mod (n : Nat) : (byte n).toNat = n % 256 := BitVec.toNat_ofNat ..

/-- The values of a packed pair are those of its two's complements. -/
theorem unpack_packPair (f : Format) (x : IQ) (rest : List Byte) : unpack f (packPair f x ++ rest) =
    ⟨signed f.bits (complement f.bits x.i), signed f.bits (complement f.bits x.q)⟩ :: unpack f rest := by
  have i := complement_lt f.bits x.i
  have q := complement_lt f.bits x.q
  cases f with
  | w16 =>
    have read (n : Nat) (small : n < 2 ^ 16) : 256 * (byte (n / 256)).toNat + (byte n).toNat = n := by
      rw [byte_mod, byte_mod]
      omega
    show (⟨signed 16 (256 * (byte _).toNat + (byte _).toNat), signed 16 (256 * (byte _).toNat + (byte _).toNat)⟩ : IQ) :: _ = _
    rw [read _ i, read _ q]
    rfl
  | w12 =>
    have read (m n : Nat) (smallM : m < 2 ^ 12) (smallN : n < 2 ^ 12) :
        16 * (byte (m / 16)).toNat + (byte (16 * (m % 16) + n / 256)).toNat / 16 = m ∧
        256 * ((byte (16 * (m % 16) + n / 256)).toNat % 16) + (byte n).toNat = n := by
      rw [byte_mod, byte_mod, byte_mod]
      omega
    obtain ⟨first, second⟩ := read _ _ i q
    show (⟨signed 12 (16 * (byte _).toNat + (byte _).toNat / 16),
      signed 12 (256 * ((byte _).toNat % 16) + (byte _).toNat)⟩ : IQ) :: _ = _
    rw [first, second]
    rfl
  | w8 =>
    show (⟨signed 8 (byte _).toNat, signed 8 (byte _).toNat⟩ : IQ) :: _ = _
    rw [byte_toNat i, byte_toNat q]
    rfl

/-- A sample in the range of a format (R198). -/
def InRange (f : Format) (x : IQ) : Prop :=
  -(2 : Int) ^ (f.bits - 1) ≤ x.i ∧ x.i < (2 : Int) ^ (f.bits - 1) ∧ -(2 : Int) ^ (f.bits - 1) ≤ x.q ∧ x.q < (2 : Int) ^ (f.bits - 1)

theorem unpack_pack (f : Format) {xs : List IQ} (range : ∀ x ∈ xs, InRange f x) : unpack f (pack f xs) = xs := by
  induction xs with
  | nil => cases f <;> rfl
  | cons x xs ih =>
    have positive : 1 ≤ f.bits := by cases f <;> decide
    obtain ⟨lowI, highI, lowQ, highQ⟩ := range x List.mem_cons_self
    have rest : unpack f (pack f xs) = xs := ih fun y mem => range y (List.mem_cons_of_mem _ mem)
    calc unpack f (pack f (x :: xs)) = unpack f (packPair f x ++ pack f xs) := by rw [pack, List.flatMap_cons]; rfl
      _ = x :: xs := by
        rw [unpack_packPair, rest, signed_complement positive lowI highI, signed_complement positive lowQ highQ]

end Sys2Proof.Machine

namespace Sys2Proof.Proofs

open Sys2Proof.Machine Sys2Proof.Machine.State

/-- Settles O4: a built word is read field by field, a word is bad exactly when one of its four tests fails, and packed
samples are read pair by pair. -/
theorem wordsAndSamplesReadBack : Obligations.WordsAndSamplesReadBack :=
  ⟨fun count lf type payload low =>
    ⟨controlWord_length count lf type payload, controlWord_sum count lf type payload, parseWord_controlWord count low type payload⟩,
   fun _ => parseWord_eq_none_iff, fun f _ range => unpack_pack f range⟩

end Sys2Proof.Proofs
end

section
/-! The statement on requests, decoded and taken word by word (R24, R176, R177, R178). -/

namespace Sys2Proof.Machine

/-- A well-formed request decodes to itself: a request with a code of its own by computation, and one whose code names no
command as UNKNOWN_COMMAND. -/
theorem decodeRequest_request (i : Instr) : Laws.Coded.Statement i := by
  cases i
  case unknownCommand ch tag code params => exact Laws.Coded.unknown_decodes ch tag code params
  all_goals
    intro code ch tag ps request _
    cases request <;> rfl

theorem Instr.params_le {i : Instr} {code ch tag : Byte} {ps : List Byte} (formed : i.WellFormed = true)
    (request : i.request = some (code, ch, tag, ps)) : ps.length ≤ maxParams := by
  unfold Instr.WellFormed at formed
  split at formed
  · cases request
  · cases request
  · cases request
  · cases request
    rw [Bool.and_eq_true, decide_eq_true_eq] at formed
    exact formed.2
  · simpa only [request, decide_eq_true_eq] using formed

/-- A request as it is sent, ahead of what fills its last word (section 10.2). -/
def message (code ch tag : Byte) (ps : List Byte) : List Byte := withCheck ([ch, tag, code, byte ps.length] ++ ps)

section
variable {code ch tag : Byte} {ps fill : List Byte}

theorem message_length : (message code ch tag ps).length = ps.length + 6 := by
  simp only [message, withCheck, u16, List.length_append, List.length_cons, List.length_nil]
  omega

theorem message_eq : message code ch tag ps ++ fill = ch :: tag :: code :: byte ps.length ::
    (ps ++ (u16 (crc ([ch, tag, code, byte ps.length] ++ ps)).toNat ++ fill)) := by
  simp only [message, withCheck, List.append_assoc, List.cons_append, List.nil_append]

theorem message_params : ((message code ch tag ps ++ fill).drop 4).take ps.length = ps := by
  rw [message_eq]
  exact List.take_left' rfl

section
variable (small : ps.length ≤ maxParams)
include small

theorem message_stated : ((message code ch tag ps ++ fill).getD 3 0).toNat = ps.length := by
  rw [message_eq]
  exact byte_toNat (lt_of_le_of_lt small (by decide))

theorem message_checkRight : State.CheckRight (message code ch tag ps ++ fill) := by
  have length : ([ch, tag, code, byte ps.length] ++ ps).length = ps.length + 4 := by rw [List.length_append]; exact Nat.add_comm ..
  unfold State.CheckRight
  rw [message_stated small, message, withCheck, List.append_assoc, List.drop_left' length, List.take_left' length]
  exact List.take_left' rfl

end

end

namespace State

variable {code ch tag : Byte} {ps fill : List Byte}

/-- A word that continues a message (R176). -/
def continuing (payload : List Byte) : Word := ⟨0, 0, typeMgmtCont, payload⟩

/-- A message is taken once all of it is there. -/
theorem assemble_message (s : State) (small : ps.length ≤ maxParams) : s.assemble (message code ch tag ps ++ fill) =
    { s with mgmt := { s.mgmt with assembly := none } }.owe [decodeRequest code ch tag ps] := by
  have stated := message_stated (code := code) (ch := ch) (tag := tag) (fill := fill) small
  have all : ps.length + 6 ≤ (message code ch tag ps ++ fill).length := by
    rw [List.length_append, message_length]
    omega
  have fits : ps.length + 6 ≤ 256 := Nat.add_le_add_right small 6
  rw [assemble_of_right (by rw [stated]; exact all) (by rw [stated]; exact fits) (message_checkRight small), stated,
    message_params, message_eq]
  rfl

/-- The words that bring in the rest of a message complete it. -/
theorem deliver_rest (small : ps.length ≤ maxParams) (short : fill.length < 10) {others : List (List Byte)} :
    ∀ (s : State) {bytes : List Byte}, 4 ≤ bytes.length → (∀ w ∈ others, w.length = 10) →
      bytes ++ others.flatten = message code ch tag ps ++ fill →
      others.foldl (fun t w => t.deliver (continuing w)) (s.assemble bytes) =
        { s with mgmt := { s.mgmt with assembly := none } }.owe [decodeRequest code ch tag ps] := by
  induction others with
  | nil =>
    intro s bytes _ _ whole
    rw [List.flatten_nil, List.append_nil] at whole
    rw [List.foldl_nil, whole, assemble_message s small]
  | cons w ws ih =>
    intro s bytes header ten whole
    rw [List.flatten_cons, ← List.append_assoc] at whole
    have lengths := congrArg List.length whole
    rw [List.length_append, List.length_append, List.length_append, message_length, ten w List.mem_cons_self] at lengths
    have stated : (bytes.getD 3 0).toNat = ps.length := by
      rw [← message_stated (code := code) (ch := ch) (tag := tag) (fill := fill) small, ← whole, List.append_assoc,
        List.getD_append _ _ _ _ header]
    have fits : ps.length + 6 ≤ 256 := Nat.add_le_add_right small 6
    have held : s.assemble bytes = { s with mgmt := { s.mgmt with assembly := some bytes } } :=
      assemble_of_partial (by omega) (by omega)
    rw [List.foldl_cons, held, deliver_of_cont rfl rfl]
    refine ih _ ?_ (fun v mem => ten v (List.mem_cons_of_mem _ mem)) whole
    rw [List.length_append]
    omega

/-- A message sent whole in consecutive words is taken, and nothing else changes. -/
theorem deliver_message {s : State} {first : List Byte} {others : List (List Byte)} (small : ps.length ≤ maxParams)
    (outside : s.mgmt.assembly = none) (ten : ∀ w ∈ first :: others, w.length = 10) (short : fill.length < 10)
    (whole : (first :: others).flatten = message code ch tag ps ++ fill) :
    others.foldl (fun t w => t.deliver (continuing w)) (s.deliver ⟨0, 0, typeMgmtStart, first⟩) =
      s.owe [decodeRequest code ch tag ps] := by
  have uncut : cut s.mgmt = s.mgmt := by rw [cut, outside]; rfl
  have unassembled : { s.mgmt with assembly := none } = s.mgmt := by rw [← outside]
  have length := ten first List.mem_cons_self
  rw [deliver_of_start rfl, uncut,
    deliver_rest small short s (by omega) (fun w mem => ten w (List.mem_cons_of_mem _ mem)) whole, unassembled]

end State

end Sys2Proof.Machine

namespace Sys2Proof.Proofs

open Sys2Proof.Machine Sys2Proof.Machine.State

/-- Settles O5: a request decodes to itself, and its words are held until the last one completes the message. -/
theorem requestsAreTaken : Obligations.RequestsAreTaken := by
  refine ⟨fun i code ch tag ps formed request => decodeRequest_request i code ch tag ps request formed,
    fun s i code ch tag ps first others fill formed request outside ten short whole => ?_⟩
  have taken := deliver_message (Instr.params_le formed request) outside ten short whole
  rwa [decodeRequest_request i code ch tag ps request formed] at taken

end Sys2Proof.Proofs
end
